-- ==== Sys2Proof/Word.lean ====
section
/-! DEFINITION. The two fixed-width words of the Deplar 480: a byte of a serial unit (R211) and a wrapping
32-bit version (R18, R160). Every other quantity is an integer (R1) and stands as `Int` or `Nat`. -/

namespace Sys2Proof

/-- One character of a serial unit (R211). -/
abbrev Byte := BitVec 8

/-- A condition version or sequence version: 32 bits, wrapping (R18, R160). -/
abbrev Version := BitVec 32

end Sys2Proof
end

