-- ==== Sys2Proof/Syntax.lean ====
section
/-! DEFINITION. The commands of the Deplar 480: one constructor per row of spec/opcode_table.json, with the
operands the row's rule needs. Every command carries `t`, the device timebase in ms at which it is taken (log 1).
A request row names the link whose LIU takes it; the request's own fields are the bytes in that LIU's inbound
queue (R199, R212). The write and read ends carry what the non-volatile store answered (log 5). -/

namespace Sys2Proof

/-- The three message links, in the order of 00 section 2 (R200). -/
inductive Link
  | planning | deck | ballast
deriving DecidableEq, Repr

/-- The four hold lines HOLD-A to HOLD-D (R124). -/
inductive Line
  | a | b | c | d
deriving DecidableEq, Repr

/-- A unit as it was received on a serial line: its characters and whether it held a framing error (R211). -/
structure RxUnit where
  bytes : List Byte
  framingError : Bool
deriving DecidableEq, Repr

/-- How far the section write of a LEAVE-CONFIG job had got when a reset fell inside it (R183, log 6): how many
sections had verified, and whether the next one was being written. -/
structure WriteCut where
  verified : Nat
  torn : Bool
deriving DecidableEq, Repr

/-- The commands, one per row of the opcode table. -/
inductive Instr
  /-- POWER_ON (R175). -/
  | powerOn (t : Nat) (cut : WriteCut)
  /-- RESET_LINE (R173). -/
  | resetLine (t : Nat) (cut : WriteCut)
  /-- START_UP_END (R175). -/
  | startUpEnd (t : Nat) (badSections : BitVec 8) (badSlots : BitVec 16)
  /-- RESTART (R181). -/
  | restart (t : Nat)
  /-- SEGMENT_ARRIVAL (R197). -/
  | segmentArrival (t : Nat) (l : Link) (u : RxUnit)
  /-- REPLY_UNIT (R203). -/
  | replyUnit (t : Nat) (l : Link) (u : RxUnit)
  /-- RESEND_TIMER_EXPIRY (R203). -/
  | resendTimerExpiry (t : Nat) (l : Link)
  /-- LINK_RESET (R208). -/
  | linkReset (t : Nat) (l : Link)
  /-- UNKNOWN_REQUEST_KIND (R199). -/
  | unknownRequestKind (t : Nat) (l : Link)
  /-- CHANGE_SET_MESSAGE (R24). -/
  | changeSetMessage (t : Nat) (l : Link)
  /-- READ_SETS (R39). -/
  | readSets (t : Nat) (l : Link)
  /-- ATTACH (R45). -/
  | attach (t : Nat) (l : Link)
  /-- DETACH (R56). -/
  | detach (t : Nat) (l : Link)
  /-- FORCE_LAND (R54). -/
  | forceLand (t : Nat) (l : Link)
  /-- READ_HOOKS (R63). -/
  | readHooks (t : Nat) (l : Link)
  /-- STEP_APPEND (R154). -/
  | stepAppend (t : Nat) (l : Link)
  /-- STEP_WITHDRAW (R156). -/
  | stepWithdraw (t : Nat) (l : Link)
  /-- STEP_DONE (R157). -/
  | stepDone (t : Nat) (l : Link)
  /-- SEQ_SET (R152). -/
  | seqSet (t : Nat) (l : Link)
  /-- READ_SEQUENCE (R162). -/
  | readSequence (t : Nat) (l : Link)
  /-- READ_LOOKAHEAD (R172). -/
  | readLookahead (t : Nat) (l : Link)
  /-- CHANNEL_SET (R78). -/
  | channelSet (t : Nat) (l : Link)
  /-- CHANNEL_ENABLE (R79). -/
  | channelEnable (t : Nat) (l : Link)
  /-- CHANNEL_DISABLE (R79). -/
  | channelDisable (t : Nat) (l : Link)
  /-- READ_CHANNELS (R82). -/
  | readChannels (t : Nat) (l : Link)
  /-- HOLD_ACK (R128). -/
  | holdAck (t : Nat) (l : Link)
  /-- TIMED_HOLD (R129). -/
  | timedHold (t : Nat) (l : Link)
  /-- READ_HOLDS (R132). -/
  | readHolds (t : Nat) (l : Link)
  /-- READ_VERDICT (R121). -/
  | readVerdict (t : Nat) (l : Link)
  /-- EVALUATE_NOW (R136). -/
  | evaluateNow (t : Nat) (l : Link)
  /-- READ_SCHEDULER (R148). -/
  | readScheduler (t : Nat) (l : Link)
  /-- READ_CONDITION (R21). -/
  | readCondition (t : Nat) (l : Link)
  /-- ENTER_CONFIG (R178). -/
  | enterConfig (t : Nat) (l : Link)
  /-- HELD_ENTER_CONFIG (R146). -/
  | heldEnterConfig (t : Nat)
  /-- HULL_WRITE (R179). -/
  | hullWrite (t : Nat) (l : Link)
  /-- LEAVE_CONFIG (R180). -/
  | leaveConfig (t : Nat) (l : Link)
  /-- LEAVE_CONFIG_WRITE_END (R180). -/
  | leaveConfigWriteEnd (t : Nat) (failed : Option Nat)
  /-- SAVE (R184). -/
  | save (t : Nat) (l : Link)
  /-- SAVE_END (R184). -/
  | saveEnd (t : Nat) (verified : Bool)
  /-- RECALL (R185). -/
  | recall (t : Nat) (l : Link)
  /-- RECALL_READ_END (R185). -/
  | recallReadEnd (t : Nat) (checkGood : Bool)
  /-- SELF_CHECK (R189). -/
  | selfCheck (t : Nat) (l : Link)
  /-- SELF_CHECK_READ_END (R189). -/
  | selfCheckReadEnd (t : Nat) (checkGood : Bool)
  /-- REFERENCE_WRITE (R190). -/
  | referenceWrite (t : Nat) (l : Link)
  /-- REFERENCE_WRITE_END (R190). -/
  | referenceWriteEnd (t : Nat) (verified : Bool)
  /-- LOCK (R191). -/
  | lock (t : Nat) (l : Link)
  /-- LOCK_END (R191). -/
  | lockEnd (t : Nat) (verified : Bool)
  /-- FREEZE (R192). -/
  | freeze (t : Nat) (l : Link)
  /-- FREEZE_END (R192). -/
  | freezeEnd (t : Nat) (verified : Bool)
  /-- IDENTITY_WRITE (R193). -/
  | identityWrite (t : Nat) (l : Link)
  /-- IDENTITY_WRITE_END (R193). -/
  | identityWriteEnd (t : Nat) (verified : Bool)
  /-- RELEASE_TRIAL (R186). -/
  | releaseTrial (t : Nat) (l : Link)
  /-- ADOPT (R187). -/
  | adopt (t : Nat) (l : Link)
  /-- READ_STORE (R194). -/
  | readStore (t : Nat) (l : Link)
  /-- READ_ARCHIVE (R194). -/
  | readArchive (t : Nat) (l : Link)
  /-- READ_IDENTITY (R194). -/
  | readIdentity (t : Nat) (l : Link)
  /-- READ_HULL (R194). -/
  | readHull (t : Nat) (l : Link)
  /-- NOTICE_SELECT (R205). -/
  | noticeSelect (t : Nat) (l : Link)
  /-- LINK_SET (R205). -/
  | linkSet (t : Nat) (l : Link)
  /-- READ_SUMMARY (R206). -/
  | readSummary (t : Nat) (l : Link)
  /-- SAMPLE_FRAME (R68). -/
  | sampleFrame (t : Nat) (u : RxUnit)
  /-- STALE_TIMER_EXPIRY (R72). -/
  | staleTimerExpiry (t : Nat) (ch : Nat)
  /-- PERIODIC_TIMER_EXPIRY (R135). -/
  | periodicTimerExpiry (t : Nat)
  /-- TIMED_HOLD_EXPIRY (R130). -/
  | timedHoldExpiry (t : Nat) (l : Link) (h : Line)
  /-- GRANT (R137). -/
  | grant (t : Nat)
  /-- LIVE_COMPLETION (R84). -/
  | liveCompletion (t : Nat)
  /-- STAGE_COMPLETION (R141). -/
  | stageCompletion (t : Nat)
  /-- SELF_CHECK_COMPLETION (R189). -/
  | selfCheckCompletion (t : Nat)
  /-- LINK_BREAK_END (R208). -/
  | linkBreakEnd (t : Nat) (l : Link)
deriving DecidableEq, Repr

end Sys2Proof
end

