-- ==== Sys2Proof/Decode.lean ====
section
/-! DEFINITION. The words of the opcode table. No row of this hardware's table gives bits (its rows are events and
requests), so no word spells a command. The bytes a station sends are read in Machine/Operands.lean (R210, R212). -/

namespace Sys2Proof

/-- The command a word spells by the table's bits: none, since no row gives bits. -/
def decodeTableWord (_nbits _w : Nat) : Option Instr := none

end Sys2Proof
end

