-- ==== Sys2Proof/Config.lean ====
section
/-! DEFINITION. The fixed sizes and times the spec gives the part, and the one free value of the model. -/

namespace Sys2Proof.Config

/-- Lots a lot table may hold (R9). -/
def maxLots : Nat := 512
/-- Edits an open or closed set may hold (R25, R26). -/
def maxSetEdits : Nat := 32
/-- Closed sets the ready list may hold (R28). -/
def maxReady : Nat := 8
/-- Outcomes an outcome record keeps (R38). -/
def maxOutcomes : Nat := 4
/-- Channel records (R65). -/
def channels : Nat := 24
/-- Bytes of a link's inbound queue (R195). -/
def inboundBytes : Nat := 2048
/-- Free bytes a segment needs, whatever its length (R197). -/
def segmentRoom : Nat := 32
/-- Data bytes of a full segment (R196). -/
def segmentData : Nat := 32
/-- Bytes of the longest message (R198). -/
def maxMessage : Nat := 512
/-- Response entries of a link (R195). -/
def responseEntries : Nat := 8
/-- Slots of the sequence ring (R149); one always stands unused. -/
def ringSlots : Nat := 128
/-- Wait before a segment is sent again, in ms (R203). -/
def resendMs : Nat := 50
/-- Longest wait for the restart of R181, in ms. -/
def restartMs : Nat := 1000
/-- Where a summary counter saturates (R206). -/
def counterMax : Nat := 255
/-- Where the sample-link error count saturates (R65). -/
def errorMax : Nat := 65535
/-- The end of a 48-bit moment accumulator's range (R87). -/
def momentMax : Int := 140737488355327
/-- The largest mass a weighing records (R53). -/
def weighedMax : Int := 20000

/-- FREE VALUE (log 19): the evaluation period READ-SCHEDULER reports while no section 7 is in force, which the spec
does not state (R133, R148). Nothing constrains it; it is applied to a counter of State so that each such read may
give another value. -/
opaque freePeriod : Nat → BitVec 16

end Sys2Proof.Config
end

