-- ==== Sys2Proof/Machine/Types.lean ====
section
/-! DEFINITION. The records that State is made of, block by block, in the spec's own names. All are plain data. -/

namespace Sys2Proof.Machine

/-! ## One value per link, one value per hold line -/

/-- One value for each message link. -/
structure PerLink (α : Type) where
  planning : α
  deck : α
  ballast : α
deriving DecidableEq, Repr

/-- One value for each hold line. -/
structure PerLine (α : Type) where
  a : α
  b : α
  c : α
  d : α
deriving DecidableEq, Repr

/-- A set of hold lines, such as a mask (R124). -/
abbrev LineSet := PerLine Bool

/-! ## Result codes -/

/-- The result codes of a response, in the order of R201. -/
inductive Code
  | done | staged | stillActive | refusedRights | refusedState | refusedRange | unknownItem | full | busy | locked
  | frozen | malformed | notInConfig | hullInvalid | alreadyWritten | slotInvalid
deriving DecidableEq, Repr

/-! ## Places and lots (01) -/

/-- HARBOUR or SEA (R17). -/
inductive Mode
  | harbour | sea
deriving DecidableEq, Repr

/-- A position (x, y, z) in the ship's frame (R1). -/
structure Pos where
  x : Int
  y : Int
  z : Int
deriving DecidableEq, Repr

/-- A space and a position in it, as lots carry it (R10). -/
structure Place where
  space : Nat
  pos : Pos
deriving DecidableEq, Repr

/-- The movement state of a lot (R10). -/
inductive LotState
  | planned | slung | lifted | stowed
deriving DecidableEq, Repr

/-- Where a SLUNG lot stands (R10). -/
inductive Resting
  | ashore | aboard
deriving DecidableEq, Repr

/-- Where a movement is to take a lot (R10). -/
inductive Dest
  | ashore
  | aboard (p : Place)
deriving DecidableEq, Repr

/-- A lot record (R10). A field that the lot's state holds absent is `none`. -/
structure Lot where
  id : Nat
  declared : Int
  measured : Option Int
  half : Int
  state : LotState
  place : Option Place
  planned : Option Place
  crane : Option Nat
  resting : Option Resting
  dest : Option Dest
  discrepancy : Bool
  tag : Option (List Byte)
deriving DecidableEq, Repr

/-- A constant-item slot; mass 0 is absent (R6). -/
structure ConstItem where
  mass : Int
  pos : Pos
deriving DecidableEq, Repr

/-- Where a tank's volume comes from (R13). -/
inductive TankSource
  | stated | gauged
deriving DecidableEq, Repr

/-- The contents of one tank in an area (R13). -/
structure TankState where
  source : TankSource
  volume : Int
  density : Int
deriving DecidableEq, Repr

/-- What an area holds of one crane (R15, R16). -/
structure AreaCrane where
  height : Int
  attached : Option Nat
deriving DecidableEq, Repr

/-- A condition area, LIVE or TRIAL (R2). -/
structure Area where
  constants : List ConstItem
  lots : List Lot
  tanks : List TankState
  cranes : List AreaCrane
  mode : Mode
deriving DecidableEq, Repr

/-- The TRIAL owner (R3). -/
inductive Owner
  | empty | lookahead | archive | recalled
deriving DecidableEq, Repr

/-! ## Hull data (09 R174) -/

/-- A strength station of section 0 (R5, R100). -/
structure StationRec where
  x : Int
  aftMass : Int
  aftX : Int
deriving DecidableEq, Repr

/-- Section 0: principal figures and stations. -/
structure Sec0 where
  lpp : Int
  lightMass : Int
  light : Pos
  deltaMax : Int
  gmMin : Int
  stations : List StationRec
deriving DecidableEq, Repr

/-- A row of the hydrostatic table (R94). -/
structure HydroRow where
  delta : Int
  t : Int
  km : Int
  lcb : Int
  lcf : Int
  mct : Int
deriving DecidableEq, Repr

/-- A buoyancy fraction and centroid (R100). -/
structure BuoyCell where
  f : Int
  b : Int
deriving DecidableEq, Repr

/-- Section 2: per station, one cell per hydrostatic row. `rows` is the row count its LAYOUT holds. -/
structure Sec2 where
  rows : Nat
  cells : List (List BuoyCell)
deriving DecidableEq, Repr

/-- A space record (R7). -/
structure SpaceRec where
  id : Nat
  name : List Byte
  xAft : Int
  xFwd : Int
  yPort : Int
  yStbd : Int
  zFloor : Int
  maxMass : Int
deriving DecidableEq, Repr

/-- A point of a sounding table (R13). -/
structure TankPoint where
  sounding : Int
  volume : Int
  vcg : Int
deriving DecidableEq, Repr

/-- A tank record (R13). -/
structure TankRec where
  capacity : Int
  lcg : Int
  tcg : Int
  half : Int
  points : List TankPoint
  coeff : Int
deriving DecidableEq, Repr

/-- A point of an SWL table (R15). -/
structure SwlPoint where
  radius : Int
  swl : Int
deriving DecidableEq, Repr

/-- A crane record (R15). -/
structure CraneRec where
  px : Int
  py : Int
  tare : Int
  liftPct : Int
  setPct : Int
  tolerance : Int
  swl : List SwlPoint
  height : Int
deriving DecidableEq, Repr

/-- The limits of one station in one limit set (R108). -/
structure StationLimits where
  shear : Int
  hog : Int
  sag : Int
deriving DecidableEq, Repr

/-- A limit set, HARBOUR or SEA (R108). -/
structure LimitSet where
  heel : Int
  release : Int
  trimMin : Int
  trimMax : Int
  tMax : Int
  agreement : Int
  stations : List StationLimits
deriving DecidableEq, Repr

/-- A near band n and a recovery r (R108). -/
structure Band where
  n : Int
  r : Int
deriving DecidableEq, Repr

/-- Section 6: the two limit sets and the bands, one per criterion kind in the order of R107. -/
structure Sec6 where
  harbour : LimitSet
  sea : LimitSet
  bands : List Band
deriving DecidableEq, Repr

/-- The kinds of sample channel (R66). -/
inductive ChanKind
  | hook | reachL | reachT | sounding | heel
deriving DecidableEq, Repr

/-- What a channel is bound to: a kind and its target, 0 for HEEL (R66). -/
structure Binding where
  kind : ChanKind
  target : Nat
deriving DecidableEq, Repr

/-- The configuration fields of a channel (R65). -/
structure ChannelCfg where
  binding : Option Binding
  enable : Bool
  al : Nat
  min : Int
  max : Int
  stale : Nat
  rail : Nat
  high : Option Int
  low : Option Int
  band : Int
  mask : LineSet
deriving DecidableEq, Repr

/-- FOLLOW or LATCH (R124). -/
inductive LineMode
  | follow | latch
deriving DecidableEq, Repr

/-- A line's settings in section 7 (R174). -/
structure LineCfg where
  mode : LineMode
  degraded : Bool
deriving DecidableEq, Repr

/-- A criterion kind's masks (R124). -/
structure KindMasks where
  overMask : LineSet
  nearMask : LineSet
deriving DecidableEq, Repr

/-- Section 7: channels, lines, masks and settings. -/
structure Sec7 where
  channels : List ChannelCfg
  lines : PerLine LineCfg
  masks : List KindMasks
  period : Nat
  guard : Nat
  depth : Nat
deriving DecidableEq, Repr

/-- A full set of hull sections: the sections in force, or the working copy (R174). -/
structure Hull where
  s0 : Sec0
  s1 : List HydroRow
  s2 : Sec2
  s3 : List SpaceRec
  s4 : List TankRec
  s5 : List CraneRec
  s6 : Sec6
  s7 : Sec7
deriving DecidableEq, Repr

/-- The stored sections, or the sections as start-up read them; `none` is a bad section (R174). -/
structure StoredHull where
  s0 : Option Sec0
  s1 : Option (List HydroRow)
  s2 : Option Sec2
  s3 : Option (List SpaceRec)
  s4 : Option (List TankRec)
  s5 : Option (List CraneRec)
  s6 : Option Sec6
  s7 : Option Sec7
deriving DecidableEq, Repr

/-- The address of an item of a section: the item kind is its ordinal in the section's row of R179, and the two
indices are those the row names (R212). -/
structure ItemAddr where
  sec : Nat
  item : Nat
  i : Nat
  j : Nat
deriving DecidableEq, Repr

/-- An item of a section with its complete content (R179). `tank` and `crane` carry their point count. -/
inductive HullItem
  | layout (sec : Nat) (n : Nat) (rows : Nat)
  | principal (lpp lightMass : Int) (light : Pos) (deltaMax gmMin : Int)
  | station (k : Nat) (r : StationRec)
  | row (i : Nat) (r : HydroRow)
  | cell (k i : Nat) (c : BuoyCell)
  | space (k : Nat) (r : SpaceRec)
  | tank (k : Nat) (capacity lcg tcg half : Int) (points : Nat) (coeff : Int)
  | point (k j : Nat) (p : TankPoint)
  | crane (c : Nat) (px py tare liftPct setPct tolerance : Int) (points : Nat) (height : Int)
  | swl (c j : Nat) (p : SwlPoint)
  | limits (m : Mode) (heel release trimMin trimMax tMax agreement : Int)
  | stationLimits (m : Mode) (k : Nat) (r : StationLimits)
  | band (k : Nat) (b : Band)
  | channel (k : Nat) (c : ChannelCfg)
  | line (h : Line) (c : LineCfg)
  | masks (k : Nat) (m : KindMasks)
  | settings (period guard depth : Nat)
deriving DecidableEq, Repr

/-! ## Change sets (02) -/

/-- The edit kinds with their fields (R22). In `lotAmend` an outer `none` is a field the selection does not name,
and an inner `none` is one given as absent (R32, R213). -/
inductive Edit
  | lotEnter (lot : Nat) (declared half : Int) (planned : Option Place) (tag : Option (List Byte))
  | lotAmend (lot : Nat) (declared half : Option Int) (planned : Option (Option Place))
      (tag : Option (Option (List Byte)))
  | lotDrop (lot : Nat)
  | constSet (slot : Nat) (mass : Int) (pos : Pos)
  | modeSet (m : Mode)
  | lotPlace (lot : Nat) (place : Option Place)
  | lotRemove (lot : Nat)
  | lotShift (lot : Nat) (place : Place)
  | craneHeight (crane : Nat) (height : Int)
  | tankState (tank : Nat) (volume : Int)
  | tankDensity (tank : Nat) (density : Int)
  | tankSource (tank : Nat) (source : TankSource)
deriving DecidableEq, Repr

/-- An open set (R25). -/
structure OpenSet where
  tag : Nat
  edits : List Edit
deriving DecidableEq, Repr

/-- An entry of the ready list (R27). -/
structure ReadySet where
  link : Link
  tag : Nat
  edits : List Edit
deriving DecidableEq, Repr

/-- Where a refused set failed (R37): the edit's index, its kind, the item it names and the lot's tag. -/
structure SetFailure where
  index : Nat
  kind : Nat
  item : Option Nat
  tag : Option (List Byte)
deriving DecidableEq, Repr

/-- What SET-DONE and the outcome record say of one set (R37, R38). -/
structure SetOutcome where
  tag : Nat
  edits : Nat
  code : Code
  failure : Option SetFailure
  version : Version
deriving DecidableEq, Repr

/-- The Stager's state of one link (R25, R38): two open-set slots and the outcome record, newest first. -/
structure LinkSets where
  open1 : Option OpenSet
  open2 : Option OpenSet
  outcomes : List SetOutcome
deriving DecidableEq, Repr

/-! ## The Tracker and the Channel Bank (03, 04) -/

/-- An attachment record (R44). Its attached lot is the LIVE crane item's. -/
structure Attachment where
  lastNet : Int
  peak : Option Int
deriving DecidableEq, Repr

/-- Channel states (R65). -/
inductive ChanState
  | disabled | filling | live | stale | rail
deriving DecidableEq, Repr

/-- Watch states (R65). -/
inductive Watch
  | clear | high | low
deriving DecidableEq, Repr

/-- A channel record (R65). `timer` is the expiry time of a running stale timer. -/
structure Channel where
  cfg : ChannelCfg
  state : ChanState
  sum : Int
  count : Nat
  value : Int
  held : Bool
  railRun : Nat
  watch : Watch
  timer : Option Nat
deriving DecidableEq, Repr

/-- The Channel Bank (R65). -/
structure Bank where
  channels : List Channel
  errors : Nat
deriving DecidableEq, Repr

/-! ## Evaluations (05) -/

/-- A frozen or supplied value: fresh or held, and the channel it came from, if any (R85, R105). -/
structure Frozen where
  value : Int
  held : Bool
  channel : Option Nat
deriving DecidableEq, Repr

/-- The crane term of one crane (R85): net load and reach values. -/
structure CraneTerm where
  net : Frozen
  l : Frozen
  t : Frozen
deriving DecidableEq, Repr

/-- The two condition areas, as a result names the one it was evaluated from (R106). -/
inductive AreaName
  | live | trial
deriving DecidableEq, Repr

/-- What a live evaluation is identified by: the condition version of LIVE and the cause set (R85, R106). -/
structure LiveIdent where
  version : Version
  causes : BitVec 6
deriving DecidableEq, Repr

/-- The fixed inputs of one evaluation (R85). `soundings` has one place per tank, filled for a GAUGED one; `ident` is
present for a live evaluation alone. -/
structure Snapshot where
  source : AreaName
  ident : Option LiveIdent
  area : Area
  hull : Hull
  cranes : List CraneTerm
  soundings : List (Option Frozen)
  heel : Option Frozen
deriving DecidableEq, Repr

/-- The kinds of work the Unit serves, in the order of R84. -/
inductive Work
  | live
  | stage (ordinal : Nat)
  | selfCheck
deriving DecidableEq, Repr

/-- The sums of mass and moment over everything that is no crane term, which the Unit keeps apart (R87). -/
structure Sums where
  mass : Int
  mx : Int
  my : Int
  mz : Int
deriving DecidableEq, Repr

/-- A moment accumulator with the crane terms added: its value, and for each crane whether its term stopped it at an end
of its range (R87). -/
structure MomentSum where
  value : Int
  stops : List Bool
deriving DecidableEq, Repr

/-- The accumulators of one station: weight aft, weight moment and buoyancy moment (R87, R101 to R103). -/
structure StationSums where
  weight : Int
  moment : MomentSum
  buoyancy : Int
deriving DecidableEq, Repr

/-- The working accumulators of a COMPUTING Unit (R84, R87): the sums without crane terms, the mass and the moments with
them, the free-surface sum and the sums of each station. -/
structure Accumulators where
  base : Sums
  mass : Int
  mx : MomentSum
  my : MomentSum
  mz : MomentSum
  fsm : Int
  stations : List StationSums
deriving DecidableEq, Repr

/-- A COMPUTING Unit (R84): its kind of work, its snapshot and its working accumulators. -/
structure Computing where
  work : Work
  snap : Snapshot
  acc : Accumulators
deriving DecidableEq, Repr

/-- NONE, LOW or HIGH (R95). -/
inductive TableFlag
  | none | low | high
deriving DecidableEq, Repr

/-- The release group of a result (R98, R99). -/
structure Release where
  heel : Int
  gm : Int
  flag : TableFlag
  negGm : Bool
deriving DecidableEq, Repr

/-- The strength figures of one station (R104). -/
structure Strength where
  w : Int
  b : Int
  sf : Int
  bm : Int
deriving DecidableEq, Repr

/-- The crane figures of a result (R106). -/
structure CraneFigures where
  net : Int
  l : Int
  t : Int
  degraded : Bool
deriving DecidableEq, Repr

/-- An evaluation result (R106): the area evaluated, the identification of a live one, and the figures. -/
structure Result where
  source : AreaName
  ident : Option LiveIdent
  mode : Mode
  delta : Int
  lcg : Int
  tcg : Int
  kg : Int
  fsm : Int
  kgc : Int
  t : Int
  km : Int
  lcb : Int
  lcf : Int
  mct : Int
  flag : TableFlag
  gm : Int
  heel : Int
  negGm : Bool
  trim : Int
  tAft : Int
  tFwd : Int
  release : Option Release
  strength : List Strength
  spaces : List Int
  cranes : List CraneFigures
  observed : Option Int
  degraded : Bool
  degradedChannels : List Nat
deriving DecidableEq, Repr

/-! ## Criteria, verdict and hold lines (06) -/

/-- The criterion kinds, in the order of R107. -/
inductive CritKind
  | gm | heel | release | trim | draught | table | shear | bending | space | crane | agreement
deriving DecidableEq, Repr

/-- Criterion states (R107). -/
inductive CritState
  | off | ok | near | over
deriving DecidableEq, Repr

/-- The level of a verdict, a stage or a self-check (R116, R118). -/
inductive Level
  | ok | near | over
deriving DecidableEq, Repr

/-- An entry of the criterion table (R107). -/
structure CritEntry where
  kind : CritKind
  index : Nat
  state : CritState
  margin : Int
  degraded : Bool
deriving DecidableEq, Repr

/-- The published verdict (R117): the figures of one result and the states its publication left. -/
structure Verdict where
  serial : Nat
  figures : Result
  entries : List CritEntry
deriving DecidableEq, Repr

/-- A hold-line record (R124). The mode is section 7's. The timers are expiry times. -/
structure HoldLine where
  latched : Bool
  asserted : Bool
  deckTimer : Option Nat
  ballastTimer : Option Nat
deriving DecidableEq, Repr

/-- The causes present for a line (R125), in the form of the HOLD notice (R127). Bit k of `kinds` is the k-th kind. -/
structure HoldCauses where
  kinds : BitVec 11
  degraded : Bool
  watches : List Nat
  deck : Bool
  ballast : Bool
  start : Bool
deriving DecidableEq, Repr

/-! ## Sequence and look-ahead (08) -/

/-- The crane and planned reach of a LOT step (R150). -/
structure StepCrane where
  crane : Nat
  l : Int
  t : Int
deriving DecidableEq, Repr

/-- What a step is to do (R150). -/
inductive StepWork
  | lot (lot : Nat) (dest : Dest) (crane : Option StepCrane)
  | ballast (tank : Nat) (volume : Int)
deriving DecidableEq, Repr

/-- The status of a step (R150). -/
inductive StepStatus
  | pending | done | withdrawn
deriving DecidableEq, Repr

/-- An entry of the ring (R150). -/
structure Step where
  id : Nat
  link : Link
  work : StepWork
  status : StepStatus
  deviation : Bool
deriving DecidableEq, Repr

/-- The sequence ring (R149 to R152, R160): its entries from head to tail and its read index. -/
structure Ring where
  entries : List Step
  readIdx : Nat
  nextId : Nat
  guard : Nat
  depth : Nat
  version : Version
deriving DecidableEq, Repr

/-- IN_HAND, STOWED or BALLAST (R165). -/
inductive StageKind
  | inHand | stowed | ballast
deriving DecidableEq, Repr

/-- A stage of a run as fixed from the ring (R165 to R167): its step and what it changes in TRIAL. -/
inductive Stage
  | inHand (step lot : Nat) (crane : StepCrane) (dest : Dest)
  | stowed (step lot : Nat) (dest : Dest)
  | ballast (step tank : Nat) (volume : Int)
deriving DecidableEq, Repr

/-- A stage record (R169). -/
structure StageRecord where
  ordinal : Nat
  step : Nat
  kind : StageKind
  level : Level
  worst : Option CritKind
  gm : Int
  heel : Int
  trim : Int
  degraded : Bool
deriving DecidableEq, Repr

/-- The base of a run (R164). -/
structure BaseInfo where
  version : Version
  seq : Version
  serial : Nat
deriving DecidableEq, Repr

/-- A run that has started (R141). `next` is the ordinal of the next stage to be granted, one beyond the last stage
while that one is computed (log 39). -/
structure Run where
  suspended : Bool
  base : BaseInfo
  stages : List Stage
  next : Nat
  records : List StageRecord
  soundings : List (Option Frozen)
deriving DecidableEq, Repr

/-- NONE, COMPLETE or ABANDONED (R170). -/
inductive LookOutcome
  | none | complete | abandoned
deriving DecidableEq, Repr

/-- The first OVER stage (R169), with the worst kind its notice carries (R171). -/
structure FirstOver where
  ordinal : Nat
  step : Nat
  kind : StageKind
  worst : Option CritKind
deriving DecidableEq, Repr

/-- The look-ahead result (R169, R170). -/
structure LookResult where
  outcome : LookOutcome
  base : Option BaseInfo
  records : List StageRecord
  firstOver : Option FirstOver
deriving DecidableEq, Repr

/-! ## The Scheduler (07) -/

/-- The causes of a live request, in the order of R117. -/
inductive Cause
  | periodic | requested | liftOff | setDown | change | adopt
deriving DecidableEq, Repr

/-- The Scheduler's own fields (R133). The run state is NONE when `run` is absent. -/
structure Sched where
  livePending : Bool
  causes : BitVec 6
  periodic : Option Nat
  selfCheckWaiting : Bool
  run : Option Run
  heldEnter : Bool
deriving DecidableEq, Repr

/-! ## The store (09) -/

/-- START, RUN, CONFIG or HULL-FAULT (R173). -/
inductive DeviceState
  | start | run | config | hullFault
deriving DecidableEq, Repr

/-- SF and BM of one station of a reference (R182). -/
structure RefStation where
  sf : Int
  bm : Int
deriving DecidableEq, Repr

/-- A reference result (R182). -/
structure Reference where
  delta : Int
  lcg : Int
  tcg : Int
  kgc : Int
  gm : Int
  trim : Int
  stations : List RefStation
deriving DecidableEq, Repr

/-- A condition image (R182). Its lots are all STOWED. -/
structure Image where
  lots : List Lot
  constants : List ConstItem
  tanks : List TankState
  mode : Mode
  version : Version
  serial : Nat
deriving DecidableEq, Repr

/-- What the non-volatile store holds of an archive slot (R182): the empty pattern, content with a bad check, or an
image with an optional reference. -/
inductive Slot
  | empty
  | bad
  | good (image : Image) (ref : Option Reference)
deriving DecidableEq, Repr

/-- A slot directory entry (R182). -/
inductive DirEntry
  | empty
  | invalid
  | valid (refStations : Option Nat) (lots : Nat) (version : Version) (serial : Nat)
deriving DecidableEq, Repr

/-- The identity record when written (R193). -/
structure Identity where
  name : List Byte
  hullNumber : List Byte
  approval : List Byte
  year : Nat
  month : Nat
  day : Nat
deriving DecidableEq, Repr

/-- A slot or a section, as locks, jobs and notices name them (R183, R191). -/
inductive Target
  | slot (n : Nat)
  | sec (n : Nat)
deriving DecidableEq, Repr

/-- The store jobs and ADOPT, in the order of R188. -/
inductive JobKind
  | save | recall | selfCheck | referenceWrite | lock | freeze | identityWrite | leaveConfig | adopt
deriving DecidableEq, Repr

/-- A running store job with what it carries (R183). -/
inductive Job
  | save (slot : Nat) (version : Version) (serial : Nat)
  | recall (slot : Nat)
  | selfCheck (slot : Nat) (ref : Option Reference)
  | referenceWrite (slot : Nat) (ref : Option Reference)
  | lock (target : Target)
  | freeze
  | identityWrite (rec : Identity)
  | leaveConfig (sections : List Nat)
deriving DecidableEq, Repr

/-- The last job of the store status (R183). -/
structure LastJob where
  kind : JobKind
  target : Option Target
  code : Code
deriving DecidableEq, Repr

/-- What start-up recorded on ending in HULL-FAULT (R175, R177): the sections as read and the first validation
failure. -/
structure StartRecord where
  asRead : StoredHull
  failure : Option ItemAddr
deriving DecidableEq, Repr

/-- The wait for the restart of R181: its deadline, and whether its event has come. -/
structure RestartWait where
  deadline : Nat
  due : Bool
deriving DecidableEq, Repr

/-- The Store Controller (R173 to R194). The first six fields are non-volatile. -/
structure Store where
  sections : StoredHull
  slots : List Slot
  lockSections : List Bool
  lockSlots : List Bool
  frozen : Bool
  identity : Option Identity
  factorySerial : List Byte
  directory : List DirEntry
  job : Option Job
  lastJob : Option LastJob
  writeError : Bool
  waitingAdopt : Bool
  startRecord : Option StartRecord
  restart : Option RestartWait
deriving DecidableEq, Repr

/-! ## Notices (10) -/

/-- The notice kinds, in the cyclic order of R203. -/
inductive NoticeKind
  | verdict | hold | setDone | lot | sequence | archive | channel
deriving DecidableEq, Repr

/-- The events of a LOT notice (R61). -/
inductive LotEvent
  | attach | liftOff | setDown | forceLand | detach
deriving DecidableEq, Repr

/-- The quantities a self-check compares, in the order of R189. -/
inductive Quantity
  | delta | lcg | tcg | kgc | gm | trim | sf | bm
deriving DecidableEq, Repr

/-- How a self-check failed (R189): the quantity, its station where it has one, computed and reference values. -/
structure CheckFailure where
  quantity : Quantity
  station : Option Nat
  computed : Int
  reference : Int
deriving DecidableEq, Repr

/-- The content of a LOT notice (R61). `lot` is the record after the event, or as it was freed. -/
structure LotNotice where
  event : LotEvent
  lot : Lot
  freed : Bool
  crane : Nat
  peak : Option Int
  version : Version
deriving DecidableEq, Repr

/-- The content of a VERDICT notice (R123). -/
structure VerdictNotice where
  serial : Nat
  causes : BitVec 6
  version : Version
  mode : Mode
  level : Level
  degraded : Bool
  nOver : Nat
  nNear : Nat
  overEntries : List (CritKind × Nat)
deriving DecidableEq, Repr

/-- The content of a HOLD notice (R127). -/
structure HoldNotice where
  line : Line
  mode : LineMode
  asserted : Bool
  latched : Bool
  causes : HoldCauses
  serial : Nat
deriving DecidableEq, Repr

/-- The content of a SEQUENCE notice: the fields R171 lists, none of them a mark of staleness (log 41). -/
structure SequenceNotice where
  outcome : LookOutcome
  base : Option BaseInfo
  nRecords : Nat
  worst : Level
  firstOver : Option FirstOver
  differs : Bool
  seq : Version
  nPending : Nat
deriving DecidableEq, Repr

/-- The content of an ARCHIVE notice (R188). `check` is present for an ended self-check: `some none` is PASS. -/
structure ArchiveNotice where
  job : JobKind
  target : Option Target
  code : Code
  check : Option (Option Quantity)
  writeError : Bool
  owner : Owner
  version : Version
deriving DecidableEq, Repr

/-- The content of a CHANNEL notice (R81). -/
structure ChannelNotice where
  channel : Nat
  binding : Option Binding
  rail : Bool
  stale : Bool
  live : Bool
  watchEvent : Bool
  state : ChanState
  value : Int
  held : Bool
  watch : Watch
deriving DecidableEq, Repr

/-- A notice (R204). -/
inductive Notice
  | verdict (n : VerdictNotice)
  | hold (n : HoldNotice)
  | setDone (n : SetOutcome)
  | lot (n : LotNotice)
  | sequence (n : SequenceNotice)
  | archive (n : ArchiveNotice)
  | channel (n : ChannelNotice)
deriving DecidableEq, Repr

/-- The seven notice slots of a link (R195). -/
structure NoticeSlots where
  verdict : Option Notice
  hold : Option Notice
  setDone : Option Notice
  lot : Option Notice
  sequence : Option Notice
  archive : Option Notice
  channel : Option Notice
deriving DecidableEq, Repr

/-! ## The Link Interface Units (10) -/

/-- A complete message of an inbound queue (R198). `tag` is the tag kept of an overlong message, which has no bytes. -/
structure InMsg where
  bytes : List Byte
  malformed : Bool
  tag : Nat
deriving DecidableEq, Repr

/-- The assembly state (R195, R198). -/
inductive Assembly
  | idle
  | assembling (bytes : List Byte) (malformed : Bool)
  | discarding (tag : Nat)
deriving DecidableEq, Repr

/-- A RESERVED response entry owed to a store job or to a held ENTER-CONFIG (R202). -/
structure Owed where
  enter : Bool
  tag : Nat
  kind : Nat
deriving DecidableEq, Repr

/-- A READY response (R201). `restart` marks the answer of R181 whose delivery restarts the device. -/
structure Response where
  kind : Nat
  tag : Nat
  code : Code
  mark : Bool
  body : List Byte
  restart : Bool
deriving DecidableEq, Repr

/-- The outbound message and the index of the segment in flight (R195, R203). -/
structure Outbound where
  bytes : List Byte
  index : Nat
  restart : Bool
deriving DecidableEq, Repr

/-- The summary record (R206). -/
structure Summary where
  accepted : Nat
  refused : Nat
  backOffs : Nat
  discards : Nat
  overruns : Nat
  applied : Nat
  refusedSets : Nat
  replaced : Nat
deriving DecidableEq, Repr

/-- A Link Interface Unit (R195). Bit k of `selection` is the k-th notice kind. `owed` holds the RESERVED entries and
`ready` the READY ones in the order they became READY; the rest of the eight are FREE. `inBreak` is the break level
on the receive line (R208), `tx` the units put on the transmit line since the link's reset, newest first (log 3). -/
structure Liu where
  inbound : List InMsg
  assembly : Assembly
  lastIn : Option Bool
  owed : List Owed
  ready : List Response
  outbound : Option Outbound
  nextOut : Bool
  resend : Option Nat
  lastNotice : Bool
  lastKind : NoticeKind
  slots : NoticeSlots
  selection : BitVec 7
  clearOnRead : Bool
  summary : Summary
  mark : Bool
  inBreak : Bool
  tx : List (List Byte)
deriving DecidableEq, Repr

end Sys2Proof.Machine
end

