-- ==== Sys2Proof/Machine/Arith.lean ====
section
/-! DEFINITION. The arithmetic the whole part shares: the one rounding rule (R1, R86), clamping, linear interpolation
in an ascending table (R90, R94), and the saturating and wrapping counts (00 section 6). -/

namespace Sys2Proof.Machine

/-- round(a/b): the nearest integer, a half taken away from zero (00 section 6, R86). A zero divisor, which the rules
never give (R92, R94), yields 0 (log 20). -/
def roundDiv (a b : Int) : Int :=
  let q : Int := ((2 * a.natAbs + b.natAbs) / (2 * b.natAbs) : Nat)
  if (a < 0) = (b < 0) then q else -q

/-- `v` limited to `lo..hi`. -/
def clamp (lo hi v : Int) : Int := if v < lo then lo else if hi < v then hi else v

/-- lo ≤ v ≤ hi, both ends included (00 section 6). -/
def within (lo hi v : Int) : Bool := decide (lo ≤ v) && decide (v ≤ hi)

/-- A longitudinal coordinate in range (R1). -/
def xRange (v : Int) : Bool := within (-20000) 300000 v
/-- A transverse coordinate in range (R1). -/
def yRange (v : Int) : Bool := within (-30000) 30000 v
/-- A vertical coordinate in range (R1). -/
def zRange (v : Int) : Bool := within 0 80000 v
/-- A position in the coordinate ranges (R1). -/
def Pos.inRange (p : Pos) : Bool := xRange p.x && yRange p.y && zRange p.z
/-- A signed 24-bit channel value (R65). -/
def channelRange (v : Int) : Bool := within (-8388608) 8388607 v

/-- The distance of two figures. -/
def absDiff (a b : Int) : Int := (a - b).natAbs

/-- A count that saturates at `top` (00 section 6). -/
def satSucc (top n : Nat) : Nat := if n < top then n + 1 else n

/-- The next number of a count that runs 1..65,535 and back to 1 (R120, R151). -/
def nextCount (n : Nat) : Nat := if n < 65535 then n + 1 else 1

/-- Time left before an expiry, 0 when stopped (R129, R148). -/
def timeLeft (timer : Option Nat) (now : Nat) : Nat :=
  match timer with
  | none => 0
  | some e => e - now

/-- The sum of a list of integers. -/
def sumInt : List Int → Int
  | [] => 0
  | x :: xs => x + sumInt xs

/-- Where a key falls in an ascending column (R90, R94): below it, above it, or at an offset in the interval that
starts at a point. -/
inductive Bracket
  | below
  | above
  | at (i : Nat) (off span : Int)
deriving DecidableEq, Repr

/-- Find the key, `i` being the ordinal of the first point of the list. A key at a point is at that point. -/
def bracketFrom (key : Int) : Nat → List Int → Bracket
  | _, [] => .above
  | i, [k] => if key < k then .below else if key = k then .at i 0 1 else .above
  | i, k :: k' :: ks =>
    if key < k then .below
    else if key ≤ k' then .at i (key - k) (k' - k)
    else bracketFrom key (i + 1) (k' :: ks)

/-- Find the key in an ascending column. -/
def bracket (key : Int) (column : List Int) : Bracket := bracketFrom key 0 column

/-- The value of another column at a found key: interpolated inside, the end point's outside (R90, R94, R95). -/
def interpolate (b : Bracket) (column : List Int) : Int :=
  match b with
  | .below => column.headD 0
  | .above => column.getLastD 0
  | .at i off span =>
    let v := column.getD i 0
    v + roundDiv ((column.getD (i + 1) v - v) * off) span

/-- Whether the key fell outside the column. -/
def Bracket.outside : Bracket → Bool
  | .below => true
  | .above => true
  | .at _ _ _ => false

/-- The table flag of a hydrostatic lookup (R95). -/
def Bracket.flag : Bracket → TableFlag
  | .below => .low
  | .above => .high
  | .at _ _ _ => .none

/-- A moment accumulator to which crane terms are added in crane order (R87): its value and whether it has been set
to an end of its range. -/
structure Accumulator where
  value : Int
  stopped : Bool
deriving DecidableEq, Repr

/-- Add one crane's term (R87). -/
def Accumulator.add (a : Accumulator) (term : Int) : Accumulator :=
  if a.stopped then a
  else if Config.momentMax < a.value + term then ⟨Config.momentMax, true⟩
  else if a.value + term < -Config.momentMax then ⟨-Config.momentMax, true⟩
  else ⟨a.value + term, false⟩

/-- Add the crane terms in order: the accumulator's end value, and per crane whether its term stopped it (R87). -/
def addCranes : Accumulator → List Int → MomentSum
  | a, [] => ⟨a.value, []⟩
  | a, t :: ts =>
    let a' := a.add t
    let rest := addCranes a' ts
    ⟨rest.value, (a'.stopped && !a.stopped) :: rest.stops⟩

end Sys2Proof.Machine
end

