-- ==== Sys2Proof/Machine/Operands.lean ====
section
/-! DEFINITION. Fields on the wire (R210): big-endian numbers, optional fields, lists, enumerations, and the two
checks (R196, R217). Encoders give byte lists; readers take a request's body apart from its front. -/

namespace Sys2Proof.Machine

/-! ## Writing fields -/

/-- A number in `n` bytes, most significant first (R210); one too large for them is sent modulo 256^n (log 35). -/
def be : Nat → Nat → List Byte
  | 0, _ => []
  | n + 1, v => BitVec.ofNat 8 (v / 256 ^ n) :: be n v

/-- A signed number in `n` bytes, two's complement (R210). A computed figure beyond the field, such as a bending moment
or a margin whose crane terms carry it past 4 bytes (R87) or a load point past 3 (R48), is sent modulo 2^(8n): the
model's choice, the manual states no result there (log 35). -/
def beS (n : Nat) (v : Int) : List Byte := be n (BitVec.ofInt (8 * n) v).toNat

/-- A flag (R210). -/
def flagByte (b : Bool) : List Byte := [if b then 1 else 0]

/-- An optional field of `n` bytes: its presence byte, then the field or zeros (R210). -/
def optField (n : Nat) (o : Option (List Byte)) : List Byte :=
  match o with
  | none => 0 :: List.replicate n 0
  | some bs => 1 :: bs

/-- A list of varying length: its count, then its entries (R210). -/
def listField (entries : List (List Byte)) : List Byte := be 1 entries.length ++ entries.flatten

/-- A set of lines: bit 0 is HOLD-A (R210, R124). -/
def lineSetByte (m : LineSet) : List Byte :=
  be 1 ((if m.a then 1 else 0) + (if m.b then 2 else 0) + (if m.c then 4 else 0) + (if m.d then 8 else 0))

/-! ## Ordinals of enumerations (R210) -/

/-- The ordinal of a result code in R201's table. -/
def Code.num : Code → Nat
  | .done => 0 | .staged => 1 | .stillActive => 2 | .refusedRights => 3 | .refusedState => 4 | .refusedRange => 5
  | .unknownItem => 6 | .full => 7 | .busy => 8 | .locked => 9 | .frozen => 10 | .malformed => 11
  | .notInConfig => 12 | .hullInvalid => 13 | .alreadyWritten => 14 | .slotInvalid => 15

/-- DONE, STAGED and STILL-ACTIVE count as accepted (R201). -/
def Code.accepted : Code → Bool
  | .done => true | .staged => true | .stillActive => true | _ => false

/-- R17. -/
def Mode.num : Mode → Nat
  | .harbour => 0 | .sea => 1
/-- R10. -/
def LotState.num : LotState → Nat
  | .planned => 0 | .slung => 1 | .lifted => 2 | .stowed => 3
/-- R10. -/
def Resting.num : Resting → Nat
  | .ashore => 0 | .aboard => 1
/-- R3. -/
def Owner.num : Owner → Nat
  | .empty => 0 | .lookahead => 1 | .archive => 2 | .recalled => 3
/-- R13. -/
def TankSource.num : TankSource → Nat
  | .stated => 0 | .gauged => 1
/-- R66. -/
def ChanKind.num : ChanKind → Nat
  | .hook => 0 | .reachL => 1 | .reachT => 2 | .sounding => 3 | .heel => 4
/-- R65. -/
def ChanState.num : ChanState → Nat
  | .disabled => 0 | .filling => 1 | .live => 2 | .stale => 3 | .rail => 4
/-- R65. -/
def Watch.num : Watch → Nat
  | .clear => 0 | .high => 1 | .low => 2
/-- R95. -/
def TableFlag.num : TableFlag → Nat
  | .none => 0 | .low => 1 | .high => 2
/-- R107. -/
def CritKind.num : CritKind → Nat
  | .gm => 0 | .heel => 1 | .release => 2 | .trim => 3 | .draught => 4 | .table => 5 | .shear => 6 | .bending => 7
  | .space => 8 | .crane => 9 | .agreement => 10
/-- R107. -/
def CritState.num : CritState → Nat
  | .off => 0 | .ok => 1 | .near => 2 | .over => 3
/-- R118. -/
def Level.num : Level → Nat
  | .ok => 0 | .near => 1 | .over => 2
/-- R124. -/
def LineMode.num : LineMode → Nat
  | .follow => 0 | .latch => 1
/-- R124. -/
def lineNum : Line → Nat
  | .a => 0 | .b => 1 | .c => 2 | .d => 3
/-- 00 section 2 lists the three links in this order; no rule gives their ordinals (log 9). -/
def linkNum : Link → Nat
  | .planning => 0 | .deck => 1 | .ballast => 2
/-- R150. -/
def StepStatus.num : StepStatus → Nat
  | .pending => 0 | .done => 1 | .withdrawn => 2
/-- R165. -/
def StageKind.num : StageKind → Nat
  | .inHand => 0 | .stowed => 1 | .ballast => 2
/-- R170. -/
def LookOutcome.num : LookOutcome → Nat
  | .none => 0 | .complete => 1 | .abandoned => 2
/-- R188. -/
def JobKind.num : JobKind → Nat
  | .save => 0 | .recall => 1 | .selfCheck => 2 | .referenceWrite => 3 | .lock => 4 | .freeze => 5
  | .identityWrite => 6 | .leaveConfig => 7 | .adopt => 8
/-- Notice kinds count from 1 (R210). -/
def NoticeKind.num : NoticeKind → Nat
  | .verdict => 1 | .hold => 2 | .setDone => 3 | .lot => 4 | .sequence => 5 | .archive => 6 | .channel => 7
/-- R61. -/
def LotEvent.num : LotEvent → Nat
  | .attach => 0 | .liftOff => 1 | .setDown => 2 | .forceLand => 3 | .detach => 4
/-- R189. -/
def Quantity.num : Quantity → Nat
  | .delta => 0 | .lcg => 1 | .tcg => 2 | .kgc => 3 | .gm => 4 | .trim => 5 | .sf => 6 | .bm => 7
/-- R173. -/
def DeviceState.num : DeviceState → Nat
  | .start => 0 | .run => 1 | .config => 2 | .hullFault => 3
/-- R84. -/
def Work.num : Work → Nat
  | .live => 0 | .stage _ => 1 | .selfCheck => 2
/-- The bit of a cause in a cause set, in the order of R117. -/
def Cause.bit : Cause → BitVec 6
  | .periodic => 1 | .requested => 2 | .liftOff => 4 | .setDown => 8 | .change => 16 | .adopt => 32

/-! ## Records in answers and notices -/

/-- A position triple. -/
def posBytes (p : Pos) : List Byte := beS 3 p.x ++ beS 3 p.y ++ beS 3 p.z
/-- A position block (R210). -/
def placeBytes (p : Place) : List Byte := be 1 p.space ++ posBytes p.pos
/-- An optional position block. -/
def optPlace (p : Option Place) : List Byte := optField 10 (p.map placeBytes)
/-- A destination in a message: ASHORE 0 or aboard 1, then the block (log 9). -/
def destBytes (d : Dest) : List Byte :=
  match d with
  | .ashore => 0 :: List.replicate 10 0
  | .aboard p => 1 :: placeBytes p
/-- An optional tag. -/
def optTag (t : Option (List Byte)) : List Byte := optField 8 t
/-- A version. -/
def verBytes (v : Version) : List Byte := be 4 v.toNat

/-- A lot record as read, 55 bytes (R216). -/
def lotBytes (l : Lot) : List Byte :=
  be 2 l.id ++ beS 2 l.declared ++ optField 2 (l.measured.map (beS 2)) ++ beS 2 l.half ++ be 1 l.state.num
    ++ optPlace l.place ++ optPlace l.planned ++ be 1 (l.crane.getD 0)
    ++ be 1 (match l.resting with | none => 0 | some .ashore => 1 | some .aboard => 2)
    ++ (match l.dest with
        | none => 0 :: List.replicate 10 0
        | some .ashore => 1 :: List.replicate 10 0
        | some (.aboard p) => 2 :: placeBytes p)
    ++ flagByte l.discrepancy ++ optTag l.tag

/-- A binding: presence, kind and target (log 8). -/
def bindingBytes (b : Option Binding) : List Byte :=
  optField 2 (b.map fun b => be 1 b.kind.num ++ be 1 b.target)

/-- The configuration fields of a channel after the enable (R65). -/
def channelFields (c : ChannelCfg) : List Byte :=
  be 1 c.al ++ beS 3 c.min ++ beS 3 c.max ++ be 2 c.stale ++ be 1 c.rail ++ optField 3 (c.high.map (beS 3))
    ++ optField 3 (c.low.map (beS 3)) ++ beS 3 c.band ++ lineSetByte c.mask

/-- The causes of a line (R127): the kinds as a set in the order of R107, and the links whose timers run as a set with
bit 0 deck and bit 1 ballast (log 38). -/
def causesBytes (c : HoldCauses) : List Byte :=
  be 2 c.kinds.toNat ++ flagByte c.degraded ++ listField (c.watches.map (be 1))
    ++ be 1 ((if c.deck then 1 else 0) + (if c.ballast then 2 else 0)) ++ flagByte c.start

/-- Base versions and serial (R164). -/
def baseBytes (b : Option BaseInfo) : List Byte :=
  optField 10 (b.map fun b => verBytes b.version ++ verBytes b.seq ++ be 2 b.serial)

/-- The failure of a set (R37), as one optional group (log 8); the edit index is 1 byte (log 46). -/
def failureBytes (f : Option SetFailure) : List Byte :=
  optField 14 (f.map fun f =>
    be 1 f.index ++ be 1 f.kind ++ optField 2 (f.item.map (be 2)) ++ optTag f.tag)

/-- A set's outcome: the SET-DONE content (R37). The set tag is 1 byte here as in the request (log 46). -/
def outcomeBytes (o : SetOutcome) : List Byte :=
  be 1 o.tag ++ be 1 o.edits ++ be 1 o.code.num ++ failureBytes o.failure ++ verBytes o.version

/-- A slot or section: its kind, then its number (log 9). -/
def targetBytes (t : Option Target) : List Byte :=
  optField 2 (t.map fun t => match t with
    | .slot n => be 1 0 ++ be 1 n
    | .sec n => be 1 1 ++ be 1 n)

/-- The address of an item: its section, item kind and two indices (R212). -/
def itemBytes (a : ItemAddr) : List Byte := be 1 a.sec ++ be 1 a.item ++ be 1 a.i ++ be 1 a.j

/-- The kind of a notice. -/
def Notice.kind : Notice → NoticeKind
  | .verdict _ => .verdict | .hold _ => .hold | .setDone _ => .setDone | .lot _ => .lot | .sequence _ => .sequence
  | .archive _ => .archive | .channel _ => .channel

/-- The body of a notice, each field in the order of its owning rule (R204, R212). -/
def Notice.body : Notice → List Byte
  | .verdict n =>
    be 2 n.serial ++ be 1 n.causes.toNat ++ verBytes n.version ++ be 1 n.mode.num ++ be 1 n.level.num
      ++ flagByte n.degraded ++ be 1 n.nOver ++ be 1 n.nNear
      ++ listField (n.overEntries.map fun e => be 1 e.1.num ++ be 1 e.2)
  | .hold n =>
    be 1 (lineNum n.line) ++ be 1 n.mode.num ++ flagByte n.asserted ++ flagByte n.latched ++ causesBytes n.causes
      ++ be 2 n.serial
  | .setDone n => outcomeBytes n
  | .lot n =>
    be 1 n.event.num ++ be 2 n.lot.id ++ optTag n.lot.tag ++ be 1 n.crane
      ++ be 1 (if n.freed then 4 else n.lot.state.num)
      ++ optField 1 (n.lot.resting.map fun r => be 1 r.num) ++ optPlace n.lot.place
      ++ optField 11 (n.lot.dest.map destBytes) ++ optPlace n.lot.planned ++ beS 2 n.lot.declared
      ++ optField 2 (n.lot.measured.map (beS 2)) ++ flagByte n.lot.discrepancy
      ++ optField 4 (n.peak.map (beS 4)) ++ verBytes n.version
  | .sequence n =>
    be 1 n.outcome.num ++ baseBytes n.base ++ be 1 n.nRecords ++ be 1 n.worst.num
      ++ optField 5 (n.firstOver.map fun f =>
          be 1 f.ordinal ++ be 2 f.step ++ be 1 f.kind.num ++ be 1 ((f.worst.map CritKind.num).getD 0))
      ++ flagByte n.differs ++ verBytes n.seq ++ be 1 n.nPending
  | .archive n =>
    be 1 n.job.num ++ targetBytes n.target ++ be 1 n.code.num
      ++ optField 3 (n.check.map fun c => match c with
          | none => be 1 0 ++ optField 1 none
          | some q => be 1 1 ++ optField 1 (some (be 1 q.num)))
      ++ flagByte n.writeError ++ be 1 n.owner.num ++ verBytes n.version
  | .channel n =>
    be 1 n.channel ++ bindingBytes n.binding
      ++ be 1 ((if n.rail then 1 else 0) + (if n.stale then 2 else 0) + (if n.live then 4 else 0)
          + (if n.watchEvent then 8 else 0))
      ++ be 1 n.state.num ++ beS 3 n.value ++ flagByte n.held ++ be 1 n.watch.num

/-- A notice as an outbound message, with the verdict-ready mark as it stood when it was chosen (R204, R212). -/
def noticeMessage (n : Notice) (mark : Bool) : List Byte :=
  be 1 2 ++ be 1 n.kind.num ++ be 2 0 ++ be 1 0 ++ flagByte mark ++ n.body

/-- A response as an outbound message (R201, R212). -/
def responseMessage (r : Response) : List Byte :=
  be 1 1 ++ be 1 r.kind ++ be 2 r.tag ++ be 1 r.code.num ++ flagByte r.mark ++ r.body

/-! ## Reading fields -/

/-- A reader takes a field off the front of a message; it fails where the message is wrong in form (R199, R210). -/
abbrev Reader := StateT (List Byte) Option

/-- One byte. -/
def readByte : Reader Byte := fun bs =>
  match bs with
  | [] => none
  | b :: rest => some (b, rest)

/-- An unsigned number of `n` bytes. -/
def readNat : Nat → Reader Nat
  | 0 => pure 0
  | n + 1 => do
    let hi ← readByte
    let lo ← readNat n
    pure (hi.toNat * 256 ^ n + lo)

/-- A signed number of `n` bytes. -/
def readInt (n : Nat) : Reader Int := do
  let v ← readNat n
  pure (if v < 2 ^ (8 * n - 1) then (v : Int) else (v : Int) - 2 ^ (8 * n))

/-- `n` bytes as they stand. -/
def readBytes : Nat → Reader (List Byte)
  | 0 => pure []
  | n + 1 => do
    let b ← readByte
    let rest ← readBytes n
    pure (b :: rest)

/-- A test on what has been read; where it fails the message is MALFORMED. -/
def require (b : Bool) : Reader Unit := fun bs => if b then some ((), bs) else none

/-- An enumeration given by the list of its values (R210). -/
def readEnum {α : Type} (values : List α) : Reader α := do
  let n ← readNat 1
  match values[n]? with
  | some v => pure v
  | none => fun _ => none

/-- A flag. -/
def readFlag : Reader Bool := readEnum [false, true]

/-- An optional field. Where it is absent its bytes are disregarded, but for an enumeration outside its list (log 8). -/
def readOpt {α : Type} (field : Reader α) : Reader (Option α) := do
  let present ← readFlag
  let v ← field
  pure (if present then some v else none)

/-- `n` entries one after another. -/
def readMany {α : Type} (entry : Reader α) : Nat → Reader (List α)
  | 0 => pure []
  | n + 1 => do
    let v ← entry
    let rest ← readMany entry n
    pure (v :: rest)

/-- A whole body: the reader must use every byte (R199). -/
def readWhole {α : Type} (r : Reader α) (body : List Byte) : Option α :=
  match r body with
  | some (v, []) => some v
  | _ => none

/-- A lot id; 0 is MALFORMED (R22, R43). -/
def readLotId : Reader Nat := do
  let n ← readNat 2
  require (n != 0)
  pure n

/-- A position triple. -/
def readPos : Reader Pos := do
  let x ← readInt 3
  let y ← readInt 3
  let z ← readInt 3
  pure ⟨x, y, z⟩

/-- A position block. -/
def readPlace : Reader Place := do
  let s ← readNat 1
  let p ← readPos
  pure ⟨s, p⟩

/-- A destination: ASHORE 0 or aboard 1, then the block (log 9). -/
def readDest : Reader Dest := do
  let aboard ← readFlag
  let p ← readPlace
  pure (if aboard then .aboard p else .ashore)

/-- A set of hold lines; a bit beyond HOLD-D is MALFORMED (R210). -/
def readLineSet : Reader LineSet := do
  let b ← readByte
  require (b.toNat < 16)
  pure ⟨b.getLsbD 0, b.getLsbD 1, b.getLsbD 2, b.getLsbD 3⟩

/-- The channel kinds in the order of R66. -/
def chanKinds : List ChanKind := [.hook, .reachL, .reachT, .sounding, .heel]

/-- A binding: presence, kind and target (log 8). HEEL has no target (R66), and the byte is then disregarded. -/
def readBinding : Reader (Option Binding) := readOpt do
  let k ← readEnum chanKinds
  let t ← readNat 1
  pure ⟨k, if k = .heel then 0 else t⟩

/-- The channel fields after the enable (R65). -/
def readChannelFields (binding : Option Binding) (enable : Bool) : Reader ChannelCfg := do
  let al ← readNat 1
  let lo ← readInt 3
  let hi ← readInt 3
  let stale ← readNat 2
  let rail ← readNat 1
  let high ← readOpt (readInt 3)
  let low ← readOpt (readInt 3)
  let band ← readInt 3
  let mask ← readLineSet
  pure { binding := binding, enable := enable, al := al, min := lo, max := hi, stale := stale, rail := rail,
         high := high, low := low, band := band, mask := mask }

/-! ## Checks -/

/-- One step of a check register of `w` bits over one bit of input, most significant first. -/
def crcBit {w : Nat} (poly : BitVec w) (reg : BitVec w) (b : Bool) : BitVec w :=
  if reg.msb != b then (reg <<< 1) ^^^ poly else reg <<< 1

/-- A byte entering a check register, most significant bit first (R196, R217). -/
def crcByte {w : Nat} (poly : BitVec w) (reg : BitVec w) (b : Byte) : BitVec w :=
  [7, 6, 5, 4, 3, 2, 1, 0].foldl (fun r k => crcBit poly r (b.getLsbD k)) reg

/-- The 16-bit check of a segment or reply (R196). -/
def crc16 (bs : List Byte) : BitVec 16 := bs.foldl (crcByte 0x1021#16) 0xFFFF#16

/-- The 8-bit check of a sample frame (R217). -/
def crc8 (bs : List Byte) : BitVec 8 := bs.foldl (crcByte 0x07#8) 0#8

/-- A unit with its 16-bit check behind it (R211). -/
def withCheck (bs : List Byte) : List Byte := bs ++ be 2 (crc16 bs).toNat

/-! ## Units (R211) -/

/-- A segment taken from a good unit. -/
structure Segment where
  final : Bool
  seq : Bool
  data : List Byte
deriving DecidableEq, Repr

/-- The segment a unit holds, or none where it fails its check (R196, R211). -/
def segmentOf (u : RxUnit) : Option Segment :=
  if u.framingError then none
  else match u.bytes with
    | b0 :: len :: rest =>
      if rest.length = len.toNat + 2 ∧ len.toNat ≤ Config.segmentData ∧ b0.toNat < 4
          ∧ rest.drop len.toNat = be 2 (crc16 (b0 :: len :: rest.take len.toNat)).toNat then
        some ⟨b0.getLsbD 1, b0.getLsbD 0, rest.take len.toNat⟩
      else none
    | _ => none

/-- Replies to a segment (R197). -/
inductive ReplyKind
  | accept | backOff | discard
deriving DecidableEq, Repr

/-- The number of a reply in its unit (R211). -/
def ReplyKind.num : ReplyKind → Nat
  | .accept => 1 | .backOff => 2 | .discard => 3

/-- A reply unit for a segment with sequence bit `bit` (R211). -/
def replyUnitBytes (bit : Bool) (r : ReplyKind) : List Byte :=
  withCheck (be 1 (128 + if bit then 1 else 0) ++ be 1 r.num)

/-- The reply and sequence bit of an arriving reply unit, or none where it is disregarded (R211). -/
def replyOf (u : RxUnit) : Option (Bool × ReplyKind) :=
  if u.framingError then none
  else match u.bytes with
    | [b0, r, c1, c0] =>
      if [c1, c0] = be 2 (crc16 [b0, r]).toNat ∧ (b0 = 0x80 ∨ b0 = 0x81) then
        if r = 1 then some (b0.getLsbD 0, .accept)
        else if r = 2 then some (b0.getLsbD 0, .backOff)
        else if r = 3 then some (b0.getLsbD 0, .discard)
        else none
      else none
    | _ => none

/-- The data of segment `i` of an outbound message, and whether it is the message's last: the first one shorter than
32 bytes (R198, R203). -/
def segmentDataOf (msg : List Byte) (i : Nat) : List Byte := (msg.drop (Config.segmentData * i)).take Config.segmentData

/-- Whether segment `i` ends the message (R198). -/
def segmentIsLast (msg : List Byte) (i : Nat) : Bool := decide ((segmentDataOf msg i).length < Config.segmentData)

/-- Segment `i` of a message as a unit (R211). -/
def segmentUnit (msg : List Byte) (i : Nat) (bit : Bool) : List Byte :=
  let data := segmentDataOf msg i
  withCheck (be 1 ((if segmentIsLast msg i then 2 else 0) + (if bit then 1 else 0)) ++ be 1 data.length ++ data)

/-- The channel and value of a good sample frame (R217). -/
def frameOf (u : RxUnit) : Option (Nat × Int) :=
  if u.framingError then none
  else match u.bytes with
    | [ch, v2, v1, v0, c] =>
      if c = crc8 [ch, v2, v1, v0] then some (ch.toNat, (v2 ++ v1 ++ v0).toInt) else none
    | _ => none

end Sys2Proof.Machine
end

