-- ==== Sys2Proof/Machine/State.lean ====
section
/-! DEFINITION. State: every piece of state the spec gives the Deplar 480, as plain data, and the machine right
after power-on (R173, R175). INVENTORY.md lists each field with its rule and reset value. -/

namespace Sys2Proof.Machine

/-- The part's whole state. -/
structure State where
  now : Nat
  pending : List Instr
  freeReads : Nat
  device : DeviceState
  hull : Option Hull
  working : Option Hull
  live : Area
  version : Version
  owner : Owner
  trial : Area
  sets : PerLink LinkSets
  ready : List ReadySet
  tracker : List Attachment
  bank : Bank
  unit : Option Computing
  sched : Sched
  crit : List CritEntry
  verdict : Option Verdict
  serial : Nat
  published : Bool
  holds : PerLine HoldLine
  ring : Ring
  look : LookResult
  store : Store
  lius : PerLink Liu
deriving DecidableEq, Repr

/-- No command of the part ends in a fault: the manual describes no event that stops it (R173, R177). -/
inductive Fault
deriving DecidableEq, Repr

/-- Why a command has no next state. -/
inductive Refusal
  /-- Raised by `exec` alone, for a row of the opcode table that has no meaning yet; safe. No row is in this case. -/
  | notModelled (mnemonic : String)
deriving DecidableEq, Repr

/-! ## Reset values -/

/-- No line in the set. -/
def LineSet.none : LineSet := ⟨false, false, false, false⟩

/-- An absent constant slot (R6). -/
def ConstItem.absent : ConstItem := ⟨0, ⟨0, 0, 0⟩⟩

/-- An area that holds nothing: 16 absent constants, HARBOUR (R6, R17, R19 for LIVE; the model's choice for TRIAL, of
which R19 and R4 say only that it is empty, log 43). -/
def Area.empty : Area :=
  { constants := List.replicate 16 ConstItem.absent, lots := [], tanks := [], cranes := [], mode := .harbour }

/-- The configuration of a channel with nothing written: R65's defaults, every other field 0 (R177, log 25). -/
def ChannelCfg.blank : ChannelCfg :=
  { binding := none, enable := false, al := 4, min := 0, max := 0, stale := 1000, rail := 16, high := none, low := none,
    band := 0, mask := LineSet.none }

/-- An unbound DISABLED channel (R67, R83). -/
def Channel.blank : Channel :=
  { cfg := ChannelCfg.blank, state := .disabled, sum := 0, count := 0, value := 0, held := true, railRun := 0,
    watch := .clear, timer := none }

/-- The Bank before start-up has loaded it (R68, R83, log 25). -/
def Bank.reset : Bank := { channels := List.replicate Config.channels Channel.blank, errors := 0 }

/-- A link's open sets and outcome record after a reset (R25, R38). -/
def LinkSets.reset : LinkSets := { open1 := none, open2 := none, outcomes := [] }

/-- A hold line after power-on: asserted, mark clear, timers stopped (R124). -/
def HoldLine.reset : HoldLine := { latched := false, asserted := true, deckTimer := none, ballastTimer := none }

/-- The Scheduler after a reset (R133). -/
def Sched.reset : Sched :=
  { livePending := false, causes := 0, periodic := none, selfCheckWaiting := false, run := none, heldEnter := false }

/-- The ring after a reset (R149, R151, R160); guard and depth 8 and 8 (R152, log 25). -/
def Ring.reset : Ring := { entries := [], readIdx := 0, nextId := 1, guard := 8, depth := 8, version := 0 }

/-- The look-ahead result after a reset (R170). -/
def LookResult.reset : LookResult := { outcome := .none, base := none, records := [], firstOver := none }

/-- Seven empty notice slots (R195). -/
def NoticeSlots.reset : NoticeSlots :=
  { verdict := none, hold := none, setDone := none, lot := none, sequence := none, archive := none, channel := none }

/-- Eight counters at 0 (R195, R206). -/
def Summary.zero : Summary :=
  { accepted := 0, refused := 0, backOffs := 0, discards := 0, overruns := 0, applied := 0, refusedSets := 0,
    replaced := 0 }

/-- The default notice selection: VERDICT and HOLD, for the deck link also LOT (R195). -/
def defaultSelection : Link → BitVec 7
  | .planning => 0b0000011#7
  | .deck => 0b0001011#7
  | .ballast => 0b0000011#7

/-- A Link Interface Unit after a reset (R195), its receive line at the level given (log 22). -/
def Liu.reset (l : Link) (inBreak : Bool) : Liu :=
  { inbound := [], assembly := .idle, lastIn := none, owed := [], ready := [], outbound := none, nextOut := false,
    resend := none, lastNotice := true, lastKind := .channel, slots := NoticeSlots.reset,
    selection := defaultSelection l, clearOnRead := false, summary := Summary.zero, mark := false, inBreak := inBreak,
    tx := [] }

/-- Every stored section bad (log 4). -/
def StoredHull.bad : StoredHull :=
  { s0 := none, s1 := none, s2 := none, s3 := none, s4 := none, s5 := none, s6 := none, s7 := none }

/-- The Store Controller of a part as it leaves the factory, just after power-on: slots EMPTY and lock marks clear
(R182, R191), every section bad, freeze mark clear, identity unwritten, serial zero bytes (log 4); no job, no last
job, no write error (R175, R183). -/
def Store.manufactured : Store :=
  { sections := StoredHull.bad, slots := List.replicate 16 .empty, lockSections := List.replicate 8 false,
    lockSlots := List.replicate 16 false, frozen := false, identity := none,
    factorySerial := List.replicate 8 0#8, directory := List.replicate 16 .empty, job := none, lastJob := none,
    writeError := false, waitingAdopt := false, startRecord := none, restart := none }

/-- The machine right after power-on: START, every block at its reset value (R173, R175, and the reset rules of each
chapter). -/
def State.reset : State :=
  { now := 0
    pending := []
    freeReads := 0
    device := .start
    hull := none
    working := none
    live := Area.empty
    version := 0
    owner := .empty
    trial := Area.empty
    sets := ⟨LinkSets.reset, LinkSets.reset, LinkSets.reset⟩
    ready := []
    tracker := []
    bank := Bank.reset
    unit := none
    sched := Sched.reset
    crit := []
    verdict := none
    serial := 0
    published := false
    holds := ⟨HoldLine.reset, HoldLine.reset, HoldLine.reset, HoldLine.reset⟩
    ring := Ring.reset
    look := LookResult.reset
    store := Store.manufactured
    lius := ⟨Liu.reset .planning false, Liu.reset .deck false, Liu.reset .ballast false⟩ }

end Sys2Proof.Machine
end

