-- ==== Sys2Proof/Machine/Ops.lean ====
section
/-! DEFINITION. Named operations over State: time, notices, live requests, responses and sending, and the lookups of
lots, spaces and channels that several blocks share. Every event of the part ends in `settle`, which lets each LIU
choose its next outbound message (R203, log 3). -/

namespace Sys2Proof.Machine

/-! ## Per link, per line -/

/-- The value of a link. -/
def PerLink.get {α : Type} (p : PerLink α) : Link → α
  | .planning => p.planning
  | .deck => p.deck
  | .ballast => p.ballast

/-- Write the value of a link. -/
def PerLink.set {α : Type} (p : PerLink α) (l : Link) (v : α) : PerLink α :=
  match l with
  | .planning => { p with planning := v }
  | .deck => { p with deck := v }
  | .ballast => { p with ballast := v }

/-- The value of a line. -/
def PerLine.get {α : Type} (p : PerLine α) : Line → α
  | .a => p.a
  | .b => p.b
  | .c => p.c
  | .d => p.d

/-- Write the value of a line. -/
def PerLine.set {α : Type} (p : PerLine α) (h : Line) (v : α) : PerLine α :=
  match h with
  | .a => { p with a := v }
  | .b => { p with b := v }
  | .c => { p with c := v }
  | .d => { p with d := v }

/-- Change one LIU. -/
def modifyLiu (l : Link) (f : Liu → Liu) (s : State) : State := { s with lius := s.lius.set l (f (s.lius.get l)) }

/-- The device timebase moves on to the command's reading, never back (log 1). -/
def atTime (t : Nat) (s : State) : State := { s with now := max s.now t }

/-- Whether a timer has expired at the command's reading (log 1). -/
def expired (t : Nat) (s : State) (timer : Option Nat) : Bool :=
  match timer with
  | none => false
  | some e => decide (e ≤ max s.now t)

/-! ## Summary counters (R206) -/

/-- One more, saturating at 255. -/
def bump (n : Nat) : Nat := satSucc Config.counterMax n

/-! ## Notices (R204) -/

/-- The content of a notice slot. -/
def NoticeSlots.get (n : NoticeSlots) : NoticeKind → Option Notice
  | .verdict => n.verdict
  | .hold => n.hold
  | .setDone => n.setDone
  | .lot => n.lot
  | .sequence => n.sequence
  | .archive => n.archive
  | .channel => n.channel

/-- Write a notice slot. -/
def NoticeSlots.set (n : NoticeSlots) (k : NoticeKind) (v : Option Notice) : NoticeSlots :=
  match k with
  | .verdict => { n with verdict := v }
  | .hold => { n with hold := v }
  | .setDone => { n with setDone := v }
  | .lot => { n with lot := v }
  | .sequence => { n with sequence := v }
  | .archive => { n with archive := v }
  | .channel => { n with channel := v }

/-- Whether a link's selection holds a kind. -/
def Liu.selects (u : Liu) (k : NoticeKind) : Bool := u.selection.getLsbD (k.num - 1)

/-- Write a notice into its slot; unsent content is replaced whole and counted (R204). -/
def Liu.write (u : Liu) (n : Notice) : Liu :=
  { u with
    slots := u.slots.set n.kind (some n)
    summary := if (u.slots.get n.kind).isSome then { u.summary with replaced := bump u.summary.replaced }
               else u.summary }

/-- Raise a notice at one link whatever its selection holds. -/
def raiseAt (l : Link) (n : Notice) (s : State) : State := modifyLiu l (fun u => u.write n) s

/-- Raise a notice at every link whose selection holds its kind, and at those `forced` names (R204). -/
def raiseNotice (forced : Link → Bool) (n : Notice) (s : State) : State :=
  let at' (l : Link) (s : State) : State :=
    if forced l || (s.lius.get l).selects n.kind then raiseAt l n s else s
  at' .ballast (at' .deck (at' .planning s))

/-- No link is forced. -/
def forcedNone (_ : Link) : Bool := false
/-- The planning link is forced. -/
def forcedPlanning (l : Link) : Bool := decide (l = .planning)
/-- Every link is forced. -/
def forcedAll (_ : Link) : Bool := true

/-! ## Live requests (R134) -/

/-- Raise a request for a live evaluation with one cause; outside RUN it is lost. -/
def raiseLive (c : Cause) (s : State) : State :=
  if s.device = .run then
    { s with sched := { s.sched with livePending := true, causes := s.sched.causes ||| c.bit } }
  else s

/-! ## Responses (R201, R202) -/

/-- What an owning block answers at the taking of a request: a response, none yet (a RESERVED entry, R202), or the
response of READ-SUMMARY with clear-on-read ON (R206). -/
inductive Reply
  | answer (code : Code) (body : List Byte)
  | owed (enter : Bool)
  | answerThenClear (body : List Byte)
deriving DecidableEq, Repr

/-- A refusal without further fields. -/
def refuse (c : Code) : Reply := .answer c []

/-- Count a response as it becomes READY (R201, R206). -/
def Summary.countResponse (m : Summary) (c : Code) : Summary :=
  if c.accepted then { m with accepted := bump m.accepted } else { m with refused := bump m.refused }

/-- A response becomes READY, carrying the verdict-ready mark as it stands (R201). -/
def Liu.pushReady (u : Liu) (kind tag : Nat) (code : Code) (body : List Byte) (restart : Bool) : Liu :=
  { u with
    ready := u.ready ++ [{ kind := kind, tag := tag, code := code, mark := u.mark, body := body, restart := restart }]
    summary := u.summary.countResponse code }

/-- Answer a request at its taking. -/
def respond (l : Link) (kind tag : Nat) (r : Reply) (s : State) : State :=
  match r with
  | .answer code body => modifyLiu l (fun u => u.pushReady kind tag code body false) s
  | .owed enter => modifyLiu l (fun u => { u with owed := u.owed ++ [{ enter := enter, tag := tag, kind := kind }] }) s
  | .answerThenClear body =>
    modifyLiu l (fun u => { u.pushReady kind tag .done body false with summary := Summary.zero }) s

/-- Answer a request whose entry stands RESERVED on the planning link. With no such entry the answer is discarded and
not counted (R209). -/
def answerOwed (enter : Bool) (code : Code) (body : List Byte) (restart : Bool) (s : State) : State :=
  modifyLiu .planning (fun u =>
    match u.owed.find? (fun o => o.enter == enter) with
    | none => u
    | some o => { u with owed := u.owed.filter (fun o => o.enter != enter) }.pushReady o.kind o.tag code body restart) s

/-! ## Sending (R203) -/

/-- Put the segment in flight on the transmit line and start the resend timer (R203, log 3). -/
def Liu.transmit (u : Liu) (now : Nat) : Liu :=
  match u.outbound with
  | none => u
  | some o =>
    { u with resend := some (now + Config.resendMs), tx := segmentUnit o.bytes o.index u.nextOut :: u.tx }

/-- The notice kinds in cyclic order, beginning after a kind (R203). -/
def kindsAfter : NoticeKind → List NoticeKind
  | .verdict => [.hold, .setDone, .lot, .sequence, .archive, .channel, .verdict]
  | .hold => [.setDone, .lot, .sequence, .archive, .channel, .verdict, .hold]
  | .setDone => [.lot, .sequence, .archive, .channel, .verdict, .hold, .setDone]
  | .lot => [.sequence, .archive, .channel, .verdict, .hold, .setDone, .lot]
  | .sequence => [.archive, .channel, .verdict, .hold, .setDone, .lot, .sequence]
  | .archive => [.channel, .verdict, .hold, .setDone, .lot, .sequence, .archive]
  | .channel => [.verdict, .hold, .setDone, .lot, .sequence, .archive, .channel]

/-- The first waiting notice in cyclic order. -/
def Liu.nextNotice (u : Liu) : Option Notice := (kindsAfter u.lastKind).findSome? u.slots.get

/-- Begin a response: its entry becomes FREE. -/
def Liu.beginResponse (u : Liu) (r : Response) (rest : List Response) : Liu :=
  { u with ready := rest, outbound := some { bytes := responseMessage r, index := 0, restart := r.restart },
           lastNotice := false }

/-- Begin a notice: its slot becomes empty. -/
def Liu.beginNotice (u : Liu) (n : Notice) : Liu :=
  { u with slots := u.slots.set n.kind none,
           outbound := some { bytes := noticeMessage n u.mark, index := 0, restart := false },
           lastNotice := true, lastKind := n.kind }

/-- With no message being sent, choose the next one and send its first segment (R203). -/
def Liu.choose (u : Liu) (now : Nat) : Liu :=
  match u.ready, u.nextNotice with
  | [], none => u
  | r :: rest, none => (u.beginResponse r rest).transmit now
  | [], some n => (u.beginNotice n).transmit now
  | r :: rest, some n =>
    if u.lastNotice then (u.beginResponse r rest).transmit now else (u.beginNotice n).transmit now

/-- Let one LIU choose: nothing is sent in START or while the break lasts (R203, R208). -/
def Liu.settle (u : Liu) (device : DeviceState) (now : Nat) : Liu :=
  if device = .start || u.inBreak || u.outbound.isSome then u else u.choose now

/-- The end of every event: each LIU chooses where it can. -/
def settle (s : State) : State :=
  { s with lius := { planning := s.lius.planning.settle s.device s.now, deck := s.lius.deck.settle s.device s.now,
                     ballast := s.lius.ballast.settle s.device s.now } }

/-! ## Taking a request (R199) -/

/-- The request kind a message's header names, 0 where it names none (R212). -/
def InMsg.kind (m : InMsg) : Nat :=
  match m.bytes with
  | k :: _ :: _ :: _ => if k.toNat ≤ 42 then k.toNat else 0
  | _ => 0

/-- The request tag of a message: its header's, or the one kept in assembly (R198, R212). -/
def InMsg.requestTag (m : InMsg) : Nat :=
  match m.bytes with
  | _ :: hi :: lo :: _ => hi.toNat * 256 + lo.toNat
  | _ => m.tag

/-- Response entries that are not FREE (R202). -/
def Liu.usedEntries (u : Liu) : Nat := u.owed.length + u.ready.length

/-- The message a link may take now, if it is of this kind (R199). -/
def takeable (kind : Nat) (l : Link) (s : State) : Option InMsg :=
  let u := s.lius.get l
  if s.device = .start then none
  else if Config.responseEntries ≤ u.usedEntries then none
  else match u.inbound with
    | [] => none
    | m :: _ => if m.kind = kind then some m else none

/-- The taken message leaves the inbound queue (R199). -/
def dropHead (l : Link) (s : State) : State := modifyLiu l (fun u => { u with inbound := u.inbound.tail }) s

/-- Take a request and have it answered: form, then rights, then the owning block (R199). A command whose request is
not at the head of the queue, or finds no FREE entry, is not due and changes nothing (log 2). -/
def request {α : Type} (kind : Nat) (form : Reader α) (right : Link → α → Bool)
    (act : Link → α → State → State × Reply) (t : Nat) (l : Link) (s : State) : State :=
  match takeable kind l s with
  | none => s
  | some m =>
    let s := dropHead l (atTime t s)
    let r : State × Reply :=
      if m.malformed then (s, refuse .malformed)
      else match readWhole form (m.bytes.drop 3) with
        | none => (s, refuse .malformed)
        | some a => if right l a then act l a s else (s, refuse .refusedRights)
    settle (respond l kind m.requestTag r.2 r.1)

/-- Given to every link (R200). -/
def anyLink {α : Type} (_ : Link) (_ : α) : Bool := true
/-- Given to the planning link alone (R200). -/
def planningOnly {α : Type} (l : Link) (_ : α) : Bool := decide (l = .planning)
/-- Given to the deck link alone (R200). -/
def deckOnly {α : Type} (l : Link) (_ : α) : Bool := decide (l = .deck)
/-- Given to the ballast link alone (R200). -/
def ballastOnly {α : Type} (l : Link) (_ : α) : Bool := decide (l = .ballast)

/-- A request without fields. -/
def noFields : Reader Unit := pure ()

/-! ## Hull sections in force -/

/-- The space records in force (R7). -/
def State.spaces (s : State) : List SpaceRec := match s.hull with | none => [] | some h => h.s3
/-- The tank records in force (R13). -/
def State.tanks (s : State) : List TankRec := match s.hull with | none => [] | some h => h.s4
/-- The crane records in force (R15). -/
def State.cranes (s : State) : List CraneRec := match s.hull with | none => [] | some h => h.s5

/-- The item numbered from 1, as cranes are (R15). -/
def nth1 {α : Type} (xs : List α) (n : Nat) : Option α := if n = 0 then none else xs[n - 1]?

/-! ## Spaces and lots (R7 to R12) -/

/-- The record of a space id. -/
def spaceOf (spaces : List SpaceRec) (id : Nat) : Option SpaceRec := spaces.find? (fun r => r.id == id)

/-- A position is inside a space (R7). -/
def SpaceRec.holdsPos (r : SpaceRec) (p : Pos) : Bool :=
  within r.xAft r.xFwd p.x && within r.yPort r.yStbd p.y && within r.zFloor 80000 p.z

/-- A span is inside a space (R7). -/
def SpaceRec.holdsSpan (r : SpaceRec) (half : Int) (p : Pos) : Bool :=
  decide (r.xAft ≤ p.x - half) && decide (p.x + half ≤ r.xFwd)

/-- Both tests of R7 for the space a place names. -/
def fits (spaces : List SpaceRec) (half : Int) (p : Place) : Bool :=
  match spaceOf spaces p.space with
  | none => false
  | some r => r.holdsPos p.pos && r.holdsSpan half p.pos

/-- The mass by which a lot is counted (R11). -/
def Lot.massUsed (l : Lot) : Int := l.measured.getD l.declared

/-- The lot of an id. -/
def Area.findLot (a : Area) (id : Nat) : Option Lot := a.lots.find? (fun l => l.id == id)

/-- Put a lot record in place of the one with its id. -/
def Area.putLot (a : Area) (l : Lot) : Area := { a with lots := a.lots.map (fun x => if x.id == l.id then l else x) }

/-- Free a lot: its record leaves and the lots after it close up (R9). -/
def Area.freeLot (a : Area) (id : Nat) : Area := { a with lots := a.lots.filter (fun x => x.id != id) }

/-- Write the attached lot of a crane (R16). -/
def Area.setAttached (a : Area) (crane : Nat) (lot : Option Nat) : Area :=
  { a with cranes := a.cranes.modify (crane - 1) (fun c => { c with attached := lot }) }

/-- The lot a crane has attached. -/
def Area.attachedTo (a : Area) (crane : Nat) : Option Nat := (nth1 a.cranes crane).bind (·.attached)

/-- Whether a lot hangs or stands slung (R178). -/
def Area.anyInHand (a : Area) : Bool := a.lots.any (fun l => l.state == .slung || l.state == .lifted)

/-- A lot brought to PLANNED with the fields of that state (R10). -/
def Lot.toPlanned (l : Lot) : Lot := { l with state := .planned, place := none, crane := none, resting := none, dest := none }

/-- A lot brought to STOWED at a place (R10). -/
def Lot.toStowed (l : Lot) (p : Place) : Lot :=
  { l with state := .stowed, place := some p, crane := none, resting := none, dest := none }

/-- A lot standing at its destination on its crane (R52): ASHORE without position, or ABOARD at the place. -/
def Lot.toLanded (l : Lot) : Lot :=
  match l.dest with
  | some (.aboard p) => { l with state := .slung, resting := some .aboard, place := some p }
  | _ => { l with state := .slung, resting := some .ashore, place := none }

/-! ## Channels (R66) -/

/-- The channel bound to a kind and target, with its number. -/
def boundChannel (chs : List Channel) (kind : ChanKind) (target : Nat) : Option (Nat × Channel) :=
  ((List.range chs.length).zip chs).find? (fun c => c.2.cfg.binding == some ⟨kind, target⟩)

/-- Whether a SOUNDING channel is bound to a tank (R14). -/
def gaugeBound (chs : List Channel) (tank : Nat) : Bool := (boundChannel chs .sounding tank).isSome

/-- The rest value of a range (R67). -/
def restValue (lo hi : Int) : Int := clamp lo hi 0

/-- Advance the condition version (R18). -/
def bumpVersion (s : State) : State := { s with version := s.version + 1 }

end Sys2Proof.Machine
end

