-- ==== Sys2Proof/Machine/Condition.lean ====
section
/-! DEFINITION. READ-CONDITION: the parts of an area, each taken at one event (R21, R216). -/

namespace Sys2Proof.Machine

/-- The parts of READ-CONDITION with their fields (R21). -/
inductive ConditionPart
  | head
  | lots (start count : Nat)
  | lot (id : Nat)
  | tanks (first count : Nat)
  | cranes
  | constants
deriving DecidableEq, Repr

/-- The further fields of a part, named by its ordinal (R21); an ordinal beyond the list is MALFORMED. -/
def readConditionPart (part : Nat) : Reader ConditionPart :=
  match part with
  | 0 => pure .head
  | 1 => do
    let start ← readNat 2
    let n ← readNat 1
    require (decide (1 ≤ n) && decide (n ≤ 8))
    pure (.lots start n)
  | 2 => do
    let id ← readNat 2
    pure (.lot id)
  | 3 => do
    let first ← readNat 1
    let n ← readNat 1
    require (decide (1 ≤ n) && decide (n ≤ 16))
    pure (.tanks first n)
  | 4 => pure .cranes
  | 5 => pure .constants
  | _ => fun _ => none

/-- The part, then the area, LIVE 0 or TRIAL 1, then the part's further fields (R212, log 10). -/
def readConditionForm : Reader (Bool × ConditionPart) := do
  let n ← readNat 1
  let trial ← readFlag
  let part ← readConditionPart n
  pure (trial, part)

/-- Lots in a state. -/
def Area.countIn (a : Area) (st : LotState) : Nat := (a.lots.filter (fun l => l.state == st)).length

/-- The HEAD part (R21). -/
def headPart (s : State) (a : Area) : List Byte :=
  be 1 s.owner.num ++ verBytes s.version ++ be 1 a.mode.num ++ be 2 a.lots.length ++ be 2 (a.countIn .planned)
    ++ be 2 (a.countIn .slung) ++ be 2 (a.countIn .lifted) ++ be 2 (a.countIn .stowed)
    ++ be 1 (a.constants.filter (fun c => c.mass != 0)).length ++ be 1 a.tanks.length ++ be 1 a.cranes.length

/-- A tank in an answer. -/
def tankBytes (k : TankState) : List Byte := be 1 k.source.num ++ beS 3 k.volume ++ beS 2 k.density
/-- A crane in an answer. -/
def areaCraneBytes (c : AreaCrane) : List Byte := beS 3 c.height ++ optField 2 (c.attached.map (be 2))
/-- A constant slot in an answer. -/
def constBytes (c : ConstItem) : List Byte := beS 2 c.mass ++ posBytes c.pos

/-- The content of a part, or its refusal (R21). -/
def partContent (s : State) (a : Area) : ConditionPart → Option (List Byte)
  | .head => some (headPart s a)
  | .lots start n => some (listField (((a.lots.drop start).take n).map lotBytes))
  | .lot id => (a.findLot id).map lotBytes
  | .tanks first n =>
    if a.tanks.length ≤ first then none else some (listField (((a.tanks.drop first).take n).map tankBytes))
  | .cranes => some (listField (a.cranes.map areaCraneBytes))
  | .constants => some (a.constants.map constBytes).flatten

/-- READ-CONDITION (R21): every answer carries the area and the condition version of LIVE. -/
def readConditionAct (_ : Link) (q : Bool × ConditionPart) (s : State) : State × Reply :=
  if q.1 && s.owner != .recalled then (s, refuse .refusedState)
  else match partContent s (if q.1 then s.trial else s.live) q.2 with
    | none => (s, refuse .unknownItem)
    | some bs => (s, .answer .done (bs ++ flagByte q.1 ++ verBytes s.version))

/-- READ_CONDITION (R21). -/
def execReadCondition (t : Nat) (l : Link) (s : State) : Host.Outcome State Fault Refusal :=
  .next (request 23 readConditionForm anyLink readConditionAct t l s)

end Sys2Proof.Machine
end

