-- ==== Sys2Proof/Machine/Flags.lean ====
section
/-! DEFINITION. The hold lines: the causes present for a line, its latched mark and its asserted state, recomputed at
every event that can change them (R125 to R127, R131). The modes and masks are read from section 7 in force, FOLLOW
and empty where none is in force (R124, log 24). -/

namespace Sys2Proof.Machine

/-- The four lines in the order they are recomputed (R127). -/
def allLines : List Line := [.a, .b, .c, .d]

/-- A line's settings (R124). -/
def State.lineCfg (s : State) (h : Line) : LineCfg :=
  match s.hull with
  | none => { mode := .follow, degraded := false }
  | some hull => hull.s7.lines.get h

/-- A criterion kind's masks (R124). -/
def State.masksOf (s : State) (k : CritKind) : KindMasks :=
  match s.hull with
  | none => { overMask := LineSet.none, nearMask := LineSet.none }
  | some hull => hull.s7.masks.getD k.num { overMask := LineSet.none, nearMask := LineSet.none }

/-- Whether an entry of the verdict is a cause for a line (R125). -/
def State.entryHolds (s : State) (h : Line) (e : CritEntry) : Bool :=
  ((s.masksOf e.kind).overMask.get h && e.state == .over)
    || ((s.masksOf e.kind).nearMask.get h && (e.state == .near || e.state == .over))

/-- The bit of a criterion kind in a set of kinds (R210). -/
def CritKind.bit (k : CritKind) : BitVec 11 := 1#11 <<< k.num

/-- Whether a verdict has been published since RUN was last entered and the device is in RUN (R125). -/
def State.verdictCounts (s : State) : Bool := s.device == .run && s.published

/-- The kinds whose masks contribute to a line (R125, R127). -/
def State.holdKinds (s : State) (h : Line) : BitVec 11 :=
  match s.verdict with
  | none => 0
  | some v => v.entries.foldl (fun m e => if s.entryHolds h e then m ||| e.kind.bit else m) 0

/-- The channels whose watches contribute to a line (R75, R125). -/
def State.holdWatches (s : State) (h : Line) : List Nat :=
  (List.range s.bank.channels.length).filter (fun k =>
    match s.bank.channels[k]? with
    | none => false
    | some c => c.watch != .clear && c.cfg.mask.get h)

/-- The causes present for a line (R125). -/
def State.causesOf (s : State) (h : Line) : HoldCauses :=
  { kinds := if s.verdictCounts then s.holdKinds h else 0
    degraded := s.verdictCounts && (s.lineCfg h).degraded
      && (match s.verdict with | none => false | some v => v.figures.degraded)
    watches := s.holdWatches h
    deck := (s.holds.get h).deckTimer.isSome
    ballast := (s.holds.get h).ballastTimer.isSome
    start := !s.verdictCounts }

/-- A criterion, degraded or watch cause: those that set the mark and stop an acknowledgement (R126, R128). -/
def HoldCauses.latches (c : HoldCauses) : Bool := c.kinds != 0 || c.degraded || !c.watches.isEmpty

/-- Any cause (R126). -/
def HoldCauses.any (c : HoldCauses) : Bool := c.latches || c.deck || c.ballast || c.start

/-- The latched mark a recomputation leaves (R126). -/
def State.latchedNext (s : State) (h : Line) : Bool :=
  match (s.lineCfg h).mode with
  | .follow => false
  | .latch => (s.holds.get h).latched || (s.causesOf h).latches

/-- The asserted state a recomputation leaves (R126). -/
def State.assertedNext (s : State) (h : Line) : Bool := (s.causesOf h).any || s.latchedNext h

/-- The HOLD notice of a line as it stands (R127). -/
def State.holdNotice (s : State) (h : Line) : Notice :=
  .hold { line := h, mode := (s.lineCfg h).mode, asserted := (s.holds.get h).asserted,
          latched := (s.holds.get h).latched, causes := s.causesOf h, serial := s.serial }

/-- Whether the open-drain output of a line conducts: it does while the line is unasserted and is off while it is
asserted (R218, log 29). -/
def HoldLine.conducts (r : HoldLine) : Bool := !r.asserted

/-- Write a line's record as recomputed. -/
def setLine (h : Line) (s : State) : State :=
  { s with holds := s.holds.set h { s.holds.get h with latched := s.latchedNext h, asserted := s.assertedNext h } }

/-- Recompute one line; a change of its asserted state raises a HOLD notice (R127). -/
def recompute (h : Line) (s : State) : State :=
  if s.assertedNext h = (s.holds.get h).asserted then setLine h s
  else raiseNotice forcedNone ((setLine h s).holdNotice h) (setLine h s)

/-- Recompute several lines in order (R127). -/
def recomputeLines (hs : List Line) (s : State) : State := hs.foldl (fun s h => recompute h s) s

/-- Recompute all four lines. -/
def recomputeAll (s : State) : State := recomputeLines allLines s

/-- Recompute the lines of a mask. -/
def recomputeMask (m : LineSet) (s : State) : State := recomputeLines (allLines.filter m.get) s

/-- Write the timer of a link on a line record (R124); the planning link has none. -/
def HoldLine.setTimer (r : HoldLine) (l : Link) (timer : Option Nat) : HoldLine :=
  match l with
  | .planning => r
  | .deck => { r with deckTimer := timer }
  | .ballast => { r with ballastTimer := timer }

/-- The timer of a link on a line record. -/
def HoldLine.timer (r : HoldLine) : Link → Option Nat
  | .planning => none
  | .deck => r.deckTimer
  | .ballast => r.ballastTimer

/-- Write a timer and recompute its line (R129, R130). -/
def setHoldTimer (l : Link) (h : Line) (timer : Option Nat) (s : State) : State :=
  recompute h { s with holds := s.holds.set h ((s.holds.get h).setTimer l timer) }

end Sys2Proof.Machine
end

