-- ==== Sys2Proof/Machine/Holds.lean ====
section
/-! DEFINITION. The commands of the Hold Line Driver: HOLD-ACK, TIMED-HOLD, READ-HOLDS and a timer's expiry
(R128 to R132). -/

namespace Sys2Proof.Machine

/-- HOLD-ACK judged against the causes present (R128). -/
def holdAckAct (_ : Link) (h : Line) (s : State) : State × Reply :=
  if !(s.holds.get h).latched then (s, .answer .done [])
  else if (s.causesOf h).latches then (s, .answer .stillActive [])
  else (recompute h { s with holds := s.holds.set h { s.holds.get h with latched := false } }, .answer .done [])

/-- HOLD_ACK (R128). -/
def execHoldAck (t : Nat) (l : Link) (s : State) : Host.Outcome State Fault Refusal :=
  .next (request 17 (readEnum allLines) deckOnly holdAckAct t l s)

/-- TIMED-HOLD on the timer of the requesting link (R129). -/
def timedHoldAct (l : Link) (q : Line × Nat) (s : State) : State × Reply :=
  if 600 < q.2 then (s, refuse .refusedRange)
  else
    let timer := (s.holds.get q.1).timer l
    let s' :=
      if q.2 = 0 then (if timer.isSome then setHoldTimer l q.1 none s else s)
      else setHoldTimer l q.1 (some (s.now + 1000 * q.2)) s
    (s', .answer .done (be 1 (lineNum q.1) ++ be 4 (timeLeft ((s'.holds.get q.1).timer l) s'.now)))

/-- The fields of TIMED-HOLD. -/
def readTimedHold : Reader (Line × Nat) := do
  let h ← readEnum allLines
  let n ← readNat 2
  pure (h, n)

/-- TIMED_HOLD (R129). -/
def execTimedHold (t : Nat) (l : Link) (s : State) : Host.Outcome State Fault Refusal :=
  .next (request 18 readTimedHold (fun l _ => decide (l ≠ .planning)) timedHoldAct t l s)

/-- The kinds with a mask that holds a line, as a set (R132). -/
def State.membership (s : State) (h : Line) (mask : KindMasks → LineSet) : BitVec 11 :=
  [CritKind.gm, .heel, .release, .trim, .draught, .table, .shear, .bending, .space, .crane, .agreement].foldl
    (fun m k => if (mask (s.masksOf k)).get h then m ||| k.bit else m) 0

/-- One line of READ-HOLDS (R132), its membership of the OVER-masks and of the NEAR-masks as two sets of kinds
(log 38). -/
def lineAnswer (s : State) (h : Line) : List Byte :=
  let r := s.holds.get h
  be 1 (s.lineCfg h).mode.num ++ flagByte r.asserted ++ flagByte r.latched ++ causesBytes (s.causesOf h)
    ++ be 4 (timeLeft r.deckTimer s.now) ++ be 4 (timeLeft r.ballastTimer s.now)
    ++ be 2 (s.membership h (·.overMask)).toNat ++ be 2 (s.membership h (·.nearMask)).toNat
    ++ flagByte (s.lineCfg h).degraded

/-- READ-HOLDS (R132). -/
def readHoldsAct (_ : Link) (_ : Unit) (s : State) : State × Reply :=
  (s, .answer .done ((allLines.map (lineAnswer s)).flatten ++ be 2 s.serial ++ be 1 s.device.num))

/-- READ_HOLDS (R132). -/
def execReadHolds (t : Nat) (l : Link) (s : State) : Host.Outcome State Fault Refusal :=
  .next (request 19 noFields anyLink readHoldsAct t l s)

/-- TIMED_HOLD_EXPIRY (R130): a running timer whose time is reached stops, and its line is recomputed. -/
def execTimedHoldExpiry (t : Nat) (l : Link) (h : Line) (s : State) : Host.Outcome State Fault Refusal :=
  .next (if expired t s ((s.holds.get h).timer l) then settle (setHoldTimer l h none (atTime t s)) else s)

end Sys2Proof.Machine
end

