-- ==== Sys2Proof/WellFormed.lean ====
section
/-! DEFINITION. Which commands can be spelled at all: a unit has at least one character and is of the kind its
row names (R211), a channel and a timer exist (R65, R124), and a section write names a section (R174). `exec` is
total on every command; an ill-formed one is no event of the part. -/

namespace Sys2Proof

/-- A unit is a run of characters, so it is not empty (R211). -/
def RxUnit.present (u : RxUnit) : Bool := !u.bytes.isEmpty

/-- Bit 7 of the first byte tells a reply unit from a segment (R211). -/
def RxUnit.isReply (u : RxUnit) : Bool :=
  match u.bytes with
  | [] => false
  | b :: _ => b.getLsbD 7

/-- The form of a command's operands. -/
def Instr.wellFormed : Instr → Bool
  | .powerOn _ cut => decide (cut.verified ≤ 8)
  | .resetLine _ cut => decide (cut.verified ≤ 8)
  | .segmentArrival _ _ u => u.present && !u.isReply
  | .replyUnit _ _ u => u.present && u.isReply
  | .sampleFrame _ u => u.present
  | .staleTimerExpiry _ ch => decide (ch < 24)
  | .timedHoldExpiry _ l _ => decide (l ≠ .planning)
  | .leaveConfigWriteEnd _ failed =>
    match failed with
    | none => true
    | some n => decide (n < 8)
  | .startUpEnd _ _ _ | .restart _ | .resendTimerExpiry _ _ | .linkReset _ _ | .unknownRequestKind _ _
  | .changeSetMessage _ _ | .readSets _ _ | .attach _ _ | .detach _ _ | .forceLand _ _ | .readHooks _ _
  | .stepAppend _ _ | .stepWithdraw _ _ | .stepDone _ _ | .seqSet _ _ | .readSequence _ _ | .readLookahead _ _
  | .channelSet _ _ | .channelEnable _ _ | .channelDisable _ _ | .readChannels _ _ | .holdAck _ _ | .timedHold _ _
  | .readHolds _ _ | .readVerdict _ _ | .evaluateNow _ _ | .readScheduler _ _ | .readCondition _ _
  | .enterConfig _ _ | .heldEnterConfig _ | .hullWrite _ _ | .leaveConfig _ _ | .save _ _ | .saveEnd _ _
  | .recall _ _ | .recallReadEnd _ _ | .selfCheck _ _ | .selfCheckReadEnd _ _ | .referenceWrite _ _
  | .referenceWriteEnd _ _ | .lock _ _ | .lockEnd _ _ | .freeze _ _ | .freezeEnd _ _ | .identityWrite _ _
  | .identityWriteEnd _ _ | .releaseTrial _ _ | .adopt _ _ | .readStore _ _ | .readArchive _ _ | .readIdentity _ _
  | .readHull _ _ | .noticeSelect _ _ | .linkSet _ _ | .readSummary _ _ | .periodicTimerExpiry _ | .grant _
  | .liveCompletion _ | .stageCompletion _ | .selfCheckCompletion _ | .linkBreakEnd _ _ => true

end Sys2Proof
end

