-- ==== Sys2Proof/Machine/Links.lean ====
section
/-! DEFINITION. The Link Interface Units at segment level, and the requests an LIU answers itself (R195 to R206). -/

namespace Sys2Proof.Machine

/-! ## Segments in (R197, R198) -/

/-- Bytes of the message being assembled. -/
def Assembly.length : Assembly → Nat
  | .idle => 0
  | .assembling bytes _ => bytes.length
  | .discarding _ => 0

/-- Bytes of the complete messages of an inbound queue. -/
def queuedBytes : List InMsg → Nat
  | [] => 0
  | m :: ms => m.bytes.length + queuedBytes ms

/-- The free space of an inbound queue (R198). -/
def Liu.freeBytes (u : Liu) : Nat := Config.inboundBytes - (queuedBytes u.inbound + u.assembly.length)

/-- The request tag in the first bytes of a message (R198, R212). -/
def headTag : List Byte → Nat
  | _ :: hi :: lo :: _ => hi.toNat * 256 + lo.toNat
  | _ => 0

/-- A message that has ended stands complete behind those before it (R198). -/
def Liu.complete (u : Liu) (m : InMsg) : Liu := { u with inbound := u.inbound ++ [m], assembly := .idle }

/-- A segment that was taken acts on the assembly state (R198). -/
def Liu.assemble (u : Liu) (g : Segment) : Liu :=
  let ends := decide (g.data.length < Config.segmentData)
  let join (bytes : List Byte) (malformed : Bool) : Liu :=
    let all := bytes ++ g.data
    let bad := malformed || (g.final != ends)
    if Config.maxMessage < all.length then
      if ends then u.complete { bytes := [], malformed := true, tag := headTag all }
      else { u with assembly := .discarding (headTag all) }
    else if ends then u.complete { bytes := all, malformed := bad || decide (all.length < 3), tag := 0 }
    else { u with assembly := .assembling all bad }
  match u.assembly with
  | .idle => join [] false
  | .assembling bytes malformed => join bytes malformed
  | .discarding tag => if ends then u.complete { bytes := [], malformed := true, tag := tag } else u

/-- Send a reply unit at once (R197, log 3). -/
def Liu.reply (u : Liu) (bit : Bool) (r : ReplyKind) : Liu := { u with tx := replyUnitBytes bit r :: u.tx }

/-- The sequence bit of a unit: bit 0 of its first byte (log 28). -/
def rxSeqBit (u : RxUnit) : Bool :=
  match u.bytes with
  | [] => false
  | b :: _ => b.getLsbD 0

/-- Judge an arriving segment by the five tests of R197. -/
def Liu.judge (u : Liu) (device : DeviceState) (rx : RxUnit) : Liu :=
  if device = .start then u.reply (rxSeqBit rx) .backOff
  else match segmentOf rx with
    | none => { u.reply (rxSeqBit rx) .discard with summary := { u.summary with discards := bump u.summary.discards } }
    | some g =>
      if u.lastIn = some g.seq then u.reply g.seq .accept
      else if u.freeBytes < Config.segmentRoom then
        { u.reply g.seq .backOff with summary := { u.summary with backOffs := bump u.summary.backOffs } }
      else { (u.assemble g).reply g.seq .accept with lastIn := some g.seq }

/-- SEGMENT_ARRIVAL (R197). While the break lasts no segment arrives (R208). -/
def execSegmentArrival (t : Nat) (l : Link) (rx : RxUnit) (s : State) : Host.Outcome State Fault Refusal :=
  .next (if (s.lius.get l).inBreak || !rx.present || rx.isReply then s
    else settle (modifyLiu l (fun u => u.judge s.device rx) (atTime t s)))

/-! ## Replies in, segments out (R203) -/

/-- An ACCEPT of the segment in flight: the bit is inverted, and the next segment goes out or the message ends. -/
def Liu.accepted (u : Liu) (o : Outbound) (now : Nat) : Liu :=
  if segmentIsLast o.bytes o.index then { u with nextOut := !u.nextOut, outbound := none, resend := none }
  else ({ u with nextOut := !u.nextOut, outbound := some { o with index := o.index + 1 } }).transmit now

/-- A reply that matches the segment in flight (R203). -/
def Liu.replied (u : Liu) (o : Outbound) (r : ReplyKind) (now : Nat) : Liu :=
  match r with
  | .accept => u.accepted o now
  | .discard => u.transmit now
  | .backOff => { u with resend := some (now + Config.resendMs) }

/-- The matching reply of a unit: a segment is in flight, and the reply is good and carries its bit (R203, R211). -/
def Liu.matching (u : Liu) (rx : RxUnit) : Option (Outbound × ReplyKind) :=
  match u.outbound, replyOf rx with
  | some o, some (bit, r) => if bit = u.nextOut then some (o, r) else none
  | _, _ => none

/-- The station's ACCEPT of the whole answer of R181 makes the restart due. -/
def markDelivered (o : Outbound) (r : ReplyKind) (s : State) : State :=
  if o.restart && r == .accept && segmentIsLast o.bytes o.index then
    { s with store := { s.store with restart := s.store.restart.map (fun w => { w with due := true }) } }
  else s

/-- REPLY_UNIT (R203). -/
def execReplyUnit (t : Nat) (l : Link) (rx : RxUnit) (s : State) : Host.Outcome State Fault Refusal :=
  .next (match (s.lius.get l).matching rx with
    | none => s
    | some (o, r) =>
      let s' := atTime t s
      settle (markDelivered o r (modifyLiu l (fun u => u.replied o r s'.now) s')))

/-- RESEND_TIMER_EXPIRY (R203): the same segment is sent again with the same bit. -/
def execResendTimerExpiry (t : Nat) (l : Link) (s : State) : Host.Outcome State Fault Refusal :=
  .next (if expired t s (s.lius.get l).resend then
      let s' := atTime t s
      settle (modifyLiu l (fun u => u.transmit s'.now) s')
    else s)

/-- LINK_BREAK_END (R208): the receive line leaves the break level, and the LIU may send again. -/
def execLinkBreakEnd (t : Nat) (l : Link) (s : State) : Host.Outcome State Fault Refusal :=
  .next (if (s.lius.get l).inBreak then settle (modifyLiu l (fun u => { u with inBreak := false }) (atTime t s)) else s)

/-! ## Requests the LIU answers itself -/

/-- UNKNOWN_REQUEST_KIND (R199): a message whose header names no defined kind is taken and answered MALFORMED. -/
def execUnknownRequestKind (t : Nat) (l : Link) (s : State) : Host.Outcome State Fault Refusal :=
  .next (request 0 noFields anyLink (fun _ _ s => (s, refuse .malformed)) t l s)

/-- A selection: one byte, bit 7 beyond the list (R205, R210). -/
def readSelection : Reader (BitVec 7) := do
  let b ← readNat 1
  require (decide (b < 128))
  pure (BitVec.ofNat 7 b)

/-- NOTICE-SELECT (R205). -/
def noticeSelectAct (l : Link) (sel : BitVec 7) (s : State) : State × Reply :=
  (modifyLiu l (fun u => { u with selection := sel }) s, .answer .done (be 1 sel.toNat))

/-- NOTICE_SELECT (R205). -/
def execNoticeSelect (t : Nat) (l : Link) (s : State) : Host.Outcome State Fault Refusal :=
  .next (request 40 readSelection anyLink noticeSelectAct t l s)

/-- LINK-SET (R205). -/
def linkSetAct (l : Link) (on : Bool) (s : State) : State × Reply :=
  (modifyLiu l (fun u => { u with clearOnRead := on }) s, .answer .done (flagByte on))

/-- LINK_SET (R205). -/
def execLinkSet (t : Nat) (l : Link) (s : State) : Host.Outcome State Fault Refusal :=
  .next (request 41 readFlag anyLink linkSetAct t l s)

/-- The kinds whose slots hold unsent content, as a set (R206). -/
def NoticeSlots.filled (n : NoticeSlots) : BitVec 7 :=
  [NoticeKind.verdict, .hold, .setDone, .lot, .sequence, .archive, .channel].foldl
    (fun m k => if (n.get k).isSome then m ||| (1#7 <<< (k.num - 1)) else m) 0

/-- The answer of READ-SUMMARY (R215). The read itself is counted before it is formed, and its own entry is not FREE
(R206). -/
def summaryAnswer (u : Liu) : List Byte :=
  be 1 (bump u.summary.accepted) ++ be 1 u.summary.refused ++ be 1 u.summary.backOffs ++ be 1 u.summary.discards
    ++ be 1 u.summary.overruns ++ be 1 u.summary.applied ++ be 1 u.summary.refusedSets ++ be 1 u.summary.replaced
    ++ flagByte u.mark ++ be 1 u.selection.toNat ++ flagByte u.clearOnRead ++ be 2 u.freeBytes
    ++ be 1 (u.usedEntries + 1) ++ be 1 u.slots.filled.toNat

/-- READ-SUMMARY (R206). -/
def readSummaryAct (l : Link) (_ : Unit) (s : State) : State × Reply :=
  let u := s.lius.get l
  (s, if u.clearOnRead then .answerThenClear (summaryAnswer u) else .answer .done (summaryAnswer u))

/-- READ_SUMMARY (R206). -/
def execReadSummary (t : Nat) (l : Link) (s : State) : Host.Outcome State Fault Refusal :=
  .next (request 42 noFields anyLink readSummaryAct t l s)

end Sys2Proof.Machine
end

