-- ==== Sys2Proof/Machine/Ring.lean ====
section
/-! DEFINITION. The sequence ring: appending, marking, head removal, the sequence version, and the requests of the
planning and ballast links on it (R149 to R162), with the reading of the look-ahead result (R163, R171, R172). -/

namespace Sys2Proof.Machine

/-! ## The ring (R149, R159, R160) -/

/-- The write index (R149). -/
def Ring.writeIdx (r : Ring) : Nat := (r.readIdx + r.entries.length) % Config.ringSlots

/-- Free slots: 127 less the number of entries (R149). -/
def Ring.free (r : Ring) : Nat := (Config.ringSlots - 1) - r.entries.length

/-- Count `n` changes in the sequence version (R160). -/
def Ring.count (r : Ring) (n : Nat) : Ring := { r with version := r.version + BitVec.ofNat 32 n }

/-- Entries at the head that are not PENDING (R159). -/
def finishedHeads : List Step → Nat
  | [] => 0
  | e :: es => if e.status = .pending then 0 else finishedHeads es + 1

/-- Head removal: each removal moves the read index and counts once (R149, R159). -/
def Ring.removeHeads (r : Ring) : Ring :=
  let n := finishedHeads r.entries
  ({ r with entries := r.entries.drop n, readIdx := (r.readIdx + n) % Config.ringSlots }).count n

/-- Mark the PENDING entries a test picks, counting each, then remove finished heads (R158 to R160). -/
def Ring.mark (r : Ring) (picks : Step → Bool) (f : Step → Step) : Ring :=
  let hit (e : Step) : Bool := e.status == .pending && picks e
  (({ r with entries := r.entries.map (fun e => if hit e then f e else e) }).count
    (r.entries.filter hit).length).removeHeads

/-- An entry as WITHDRAWN. -/
def Step.withdraw (e : Step) : Step := { e with status := .withdrawn }

/-- An entry as DONE with its deviation mark. -/
def Step.finish (e : Step) (deviation : Bool) : Step := { e with status := .done, deviation := deviation }

/-- Whether an entry is a LOT step of a lot. -/
def Step.isLot (e : Step) (lot : Nat) : Bool :=
  match e.work with
  | .lot id _ _ => id == lot
  | .ballast _ _ => false

/-- The deviation mark of a lot step by where the lot came to rest: a space, or freed (R60). -/
def Step.deviates (e : Step) (reached : Option Nat) : Bool :=
  match e.work, reached with
  | .lot _ .ashore _, none => false
  | .lot _ (.aboard p) _, some s => p.space != s
  | _, _ => true

/-- A lot reaching STOWED in a space, or being freed, marks its PENDING steps DONE (R60, R158). -/
def Ring.completeLot (r : Ring) (lot : Nat) (reached : Option Nat) : Ring :=
  r.mark (fun e => e.isLot lot) (fun e => e.finish (e.deviates reached))

/-- An applied LOT-DROP marks the lot's steps that are not DONE as WITHDRAWN (R33, R158). -/
def Ring.withdrawLot (r : Ring) (lot : Nat) : Ring := r.mark (fun e => e.isLot lot) Step.withdraw

/-- The entry of a step id (R151). -/
def Ring.find (r : Ring) (id : Nat) : Option Step := r.entries.find? (fun e => e.id == id)

/-- Entries appended by a link (R162). -/
def Ring.byLink (r : Ring) (l : Link) : Nat := (r.entries.filter (fun e => e.link == l)).length

/-- PENDING entries (R171). -/
def Ring.nPending (r : Ring) : Nat := (r.entries.filter (fun e => e.status == .pending)).length

/-- Append an entry at the tail with the next step id (R149, R151, R154). -/
def Ring.append (r : Ring) (l : Link) (w : StepWork) : Ring :=
  let e : Step := { id := r.nextId, link := l, work := w, status := .pending, deviation := false }
  ({ r with entries := r.entries ++ [e], nextId := nextCount r.nextId }).count 1

/-- Whether a link's append finds room (R155). -/
def Ring.hasRoom (r : Ring) (l : Link) : Bool :=
  if l = .planning then decide (r.guard < r.free) else decide (0 < r.free)

/-! ## STEP-APPEND (R153 to R155) -/

/-- A crane of R153: its number is one the format defines. -/
def readStepCrane : Reader (Option StepCrane) := do
  let given ← readFlag
  let c ← readNat 1
  let x ← readInt 3
  let y ← readInt 3
  require (!given || (decide (1 ≤ c) && decide (c ≤ 3)))
  pure (if given then some ⟨c, x, y⟩ else none)

/-- The kind and fields of a step (R153, log 10). -/
def readStepWork : Reader StepWork := do
  let ballast ← readFlag
  if ballast then do
    let tank ← readNat 1
    let v ← readNat 3
    pure (.ballast tank v)
  else do
    let id ← readLotId
    let d ← readDest
    let c ← readStepCrane
    pure (.lot id d c)

/-- Rights on a step: planning both kinds, ballast BALLAST (R153, R200). -/
def stepRight (l : Link) (w : StepWork) : Bool :=
  match l, w with
  | .planning, _ => true
  | .ballast, .ballast _ _ => true
  | _, _ => false

/-- A planned reach in range (R150). -/
def reachRange (v : Int) : Bool := within (-100000) 100000 v

/-- The checks of R154, the first failing one first. -/
def stepCheck (l : Link) (w : StepWork) (s : State) : Option Code :=
  if s.device ≠ .run then some .refusedState
  else match w with
  | .lot id d c =>
    match s.live.findLot id with
    | none => some .unknownItem
    | some lot =>
      let known := match d with | .ashore => true | .aboard p => (spaceOf s.spaces p.space).isSome
      let craneKnown := match c with | none => true | some c => (nth1 s.cranes c.crane).isSome
      let inside := match d with | .ashore => true | .aboard p => fits s.spaces lot.half p
      let reach := match c with | none => true | some c => reachRange c.l && reachRange c.t
      if !(known && craneKnown) then some .unknownItem
      else if !(inside && reach) then some .refusedRange
      else if s.ring.hasRoom l then none else some .full
  | .ballast tank v =>
    match s.tanks[tank]? with
    | none => some .unknownItem
    | some r =>
      if !within 0 r.capacity v then some .refusedRange
      else if s.ring.hasRoom l then none else some .full

/-- STEP-APPEND (R154). -/
def stepAppendAct (l : Link) (w : StepWork) (s : State) : State × Reply :=
  match stepCheck l w s with
  | some c => (s, refuse c)
  | none =>
    let r := s.ring.append l w
    ({ s with ring := r },
     .answer .done (be 2 s.ring.nextId ++ be 1 r.entries.length ++ be 1 r.free ++ verBytes r.version))

/-- STEP_APPEND (R154). -/
def execStepAppend (t : Nat) (l : Link) (s : State) : Host.Outcome State Fault Refusal :=
  .next (request 7 readStepWork stepRight stepAppendAct t l s)

/-! ## STEP-WITHDRAW and STEP-DONE (R156, R157) -/

/-- The answer of both requests. -/
def stepAnswer (id : Nat) (r : Ring) : Reply :=
  .answer .done (be 2 id ++ be 1 r.entries.length ++ verBytes r.version)

/-- STEP-WITHDRAW (R156). -/
def stepWithdrawAct (l : Link) (id : Nat) (s : State) : State × Reply :=
  if s.device ≠ .run then (s, refuse .refusedState)
  else match s.ring.find id with
    | none => (s, refuse .unknownItem)
    | some e =>
      if e.link ≠ l then (s, refuse .refusedRights)
      else if e.status ≠ .pending then (s, refuse .refusedState)
      else
        let r := s.ring.mark (fun e => e.id == id) Step.withdraw
        ({ s with ring := r }, stepAnswer id r)

/-- STEP_WITHDRAW (R156). -/
def execStepWithdraw (t : Nat) (l : Link) (s : State) : Host.Outcome State Fault Refusal :=
  .next (request 8 (readNat 2) (fun l _ => decide (l ≠ .deck)) stepWithdrawAct t l s)

/-- The fields of STEP-DONE. -/
def readStepDone : Reader (Nat × Bool) := do
  let id ← readNat 2
  let d ← readFlag
  pure (id, d)

/-- Whether an entry is a BALLAST step. -/
def Step.isBallast (e : Step) : Bool :=
  match e.work with
  | .lot _ _ _ => false
  | .ballast _ _ => true

/-- STEP-DONE (R157). -/
def stepDoneAct (_ : Link) (q : Nat × Bool) (s : State) : State × Reply :=
  if s.device ≠ .run then (s, refuse .refusedState)
  else match s.ring.find q.1 with
    | none => (s, refuse .unknownItem)
    | some e =>
      if !(e.isBallast && e.status == .pending) then (s, refuse .refusedState)
      else
        let r := s.ring.mark (fun e => e.id == q.1) (fun e => e.finish q.2)
        ({ s with ring := r }, stepAnswer q.1 r)

/-- STEP_DONE (R157). -/
def execStepDone (t : Nat) (l : Link) (s : State) : Host.Outcome State Fault Refusal :=
  .next (request 9 readStepDone ballastOnly stepDoneAct t l s)

/-! ## SEQ-SET (R152) -/

/-- The fields of SEQ-SET: a guard and a depth, each optional (log 10); both may be absent (log 40).
Each is 1 byte (log 46). -/
def readSeqSet : Reader (Option Nat × Option Nat) := do
  let g ← readOpt (readNat 1)
  let d ← readOpt (readNat 1)
  pure (g, d)

/-- Write guard and depth; a change of depth counts once (R152, R160). -/
def Ring.setting (r : Ring) (guard depth : Nat) : Ring :=
  ({ r with guard := guard, depth := depth }).count (if depth = r.depth then 0 else 1)

/-- SEQ-SET (R152). One that names neither setting passes the checks and changes nothing (log 40). -/
def seqSetAct (_ : Link) (q : Option Nat × Option Nat) (s : State) : State × Reply :=
  let g := q.1.getD s.ring.guard
  let d := q.2.getD s.ring.depth
  if s.device ≠ .run then (s, refuse .refusedState)
  else if 32 < q.1.getD 0 ∨ 16 < q.2.getD 1 ∨ q.2.getD 1 = 0 then (s, refuse .refusedRange)
  else if g ≠ s.ring.guard ∧ s.ring.entries ≠ [] then (s, refuse .refusedState)
  else ({ s with ring := s.ring.setting g d }, .answer .done (be 1 g ++ be 1 d))

/-- SEQ_SET (R152). -/
def execSeqSet (t : Nat) (l : Link) (s : State) : Host.Outcome State Fault Refusal :=
  .next (request 10 readSeqSet planningOnly seqSetAct t l s)

/-! ## READ-SEQUENCE (R162) -/

/-- The forms of READ-SEQUENCE. -/
inductive SequenceForm
  | range (start count : Nat)
  | step (id : Nat)
deriving DecidableEq, Repr

/-- The form and its fields (R162); RANGE's start ordinal is 1 byte, a width no rule gives (log 46). -/
def readSequenceForm : Reader SequenceForm := do
  let one ← readFlag
  if one then do
    let id ← readNat 2
    pure (.step id)
  else do
    let start ← readNat 1
    let n ← readNat 1
    require (decide (start ≤ 126) && decide (1 ≤ n) && decide (n ≤ 8))
    pure (.range start n)

/-- An entry in an answer: every field of R150, absent ones as absent (log 8). -/
def stepBytes (e : Step) : List Byte :=
  let fields : List Byte := match e.work with
    | .lot id d c =>
      be 1 0 ++ optField 2 (some (be 2 id)) ++ optField 11 (some (destBytes d))
        ++ optField 1 (c.map fun c => be 1 c.crane) ++ optField 6 (c.map fun c => beS 3 c.l ++ beS 3 c.t)
        ++ optField 1 none ++ optField 3 none
    | .ballast tank v =>
      be 1 1 ++ optField 2 none ++ optField 11 none ++ optField 1 none ++ optField 6 none
        ++ optField 1 (some (be 1 tank)) ++ optField 3 (some (beS 3 v))
  be 2 e.id ++ be 1 (linkNum e.link) ++ fields ++ be 1 e.status.num ++ flagByte e.deviation

/-- What every READ-SEQUENCE answer carries behind its entries (R162): the entries appended by each link are two counts,
planning and ballast (log 38). The read and the write index are 1 byte each (log 46). -/
def ringBytes (r : Ring) : List Byte :=
  be 1 r.readIdx ++ be 1 r.writeIdx ++ be 1 r.entries.length ++ be 1 (r.byLink .planning) ++ be 1 (r.byLink .ballast)
    ++ be 1 r.free ++ be 1 r.guard ++ be 1 r.depth ++ be 2 r.nextId ++ verBytes r.version

/-- READ-SEQUENCE (R162). -/
def readSequenceAct (_ : Link) (q : SequenceForm) (s : State) : State × Reply :=
  match q with
  | .range start n =>
    (s, .answer .done (listField (((s.ring.entries.drop start).take n).map stepBytes) ++ ringBytes s.ring))
  | .step id =>
    match s.ring.find id with
    | none => (s, refuse .unknownItem)
    | some e => (s, .answer .done (stepBytes e ++ ringBytes s.ring))

/-- READ_SEQUENCE (R162). -/
def execReadSequence (t : Nat) (l : Link) (s : State) : Host.Outcome State Fault Refusal :=
  .next (request 11 readSequenceForm anyLink readSequenceAct t l s)

/-! ## The look-ahead result (R163, R169 to R172) -/

/-- Whether the result is current (R163). -/
def State.lookCurrent (s : State) : Bool :=
  match s.look.outcome, s.look.base with
  | .complete, some b => b.version == s.version && b.seq == s.ring.version
  | _, _ => false

/-- The worse of two levels (R116, R118). -/
def Level.worse : Level → Level → Level
  | .over, _ => .over
  | _, .over => .over
  | .near, _ => .near
  | _, .near => .near
  | .ok, .ok => .ok

/-- Whether two first OVER stages differ (R171). -/
def firstOverDiffers : Option FirstOver → Option FirstOver → Bool
  | none, none => false
  | some a, some b => a.step != b.step || a.kind != b.kind
  | _, _ => true

/-- The SEQUENCE notice of the result as it stands: R171's fields, from whose versions staleness is judged (log 41). -/
def State.sequenceNotice (s : State) (differs : Bool) : Notice :=
  .sequence
    { outcome := s.look.outcome, base := s.look.base, nRecords := s.look.records.length
      worst := s.look.records.foldl (fun w r => w.worse r.level) .ok
      firstOver := s.look.firstOver, differs := differs, seq := s.ring.version, nPending := s.ring.nPending }

/-- The run state in reads: NONE 0, STAGE 1, SUSPENDED 2 (R133). -/
def runStateNum (r : Option Run) : Nat :=
  match r with
  | none => 0
  | some r => if r.suspended then 2 else 1

/-- A stage record (R169); its ordinal is 1 byte (log 46). -/
def stageRecordBytes (r : StageRecord) : List Byte :=
  be 1 r.ordinal ++ be 2 r.step ++ be 1 r.kind.num ++ be 1 r.level.num
    ++ optField 1 (r.worst.map fun k => be 1 k.num) ++ beS 4 r.gm ++ beS 2 r.heel ++ beS 2 r.trim
    ++ flagByte r.degraded

/-- The fields of READ-LOOKAHEAD (R172); the first ordinal is 1 byte (log 46). -/
def readLookRange : Reader (Nat × Nat) := do
  let first ← readNat 1
  let n ← readNat 1
  require (decide (1 ≤ first) && decide (first ≤ 32) && decide (1 ≤ n) && decide (n ≤ 16))
  pure (first, n)

/-- READ-LOOKAHEAD (R172); the first OVER's ordinal and the next stage are 1 byte each (log 46). -/
def readLookaheadAct (_ : Link) (q : Nat × Nat) (s : State) : State × Reply :=
  (s, .answer .done
    (be 1 s.look.outcome.num ++ baseBytes s.look.base ++ flagByte (!s.lookCurrent) ++ verBytes s.version
      ++ verBytes s.ring.version
      ++ optField 4 (s.look.firstOver.map fun f => be 1 f.ordinal ++ be 2 f.step ++ be 1 f.kind.num)
      ++ be 1 s.look.records.length
      ++ listField (((s.look.records.drop (q.1 - 1)).take q.2).map stageRecordBytes)
      ++ be 1 (runStateNum s.sched.run) ++ optField 1 (s.sched.run.map fun r => be 1 r.next)
      ++ be 1 s.owner.num))

/-- READ_LOOKAHEAD (R172). -/
def execReadLookahead (t : Nat) (l : Link) (s : State) : Host.Outcome State Fault Refusal :=
  .next (request 12 readLookRange anyLink readLookaheadAct t l s)

end Sys2Proof.Machine
end

