-- ==== Sys2Proof/Machine/Movements.lean ====
section
/-! DEFINITION. The Movement Tracker: attaching and detaching, lift-off, peak, set-down and weighing from HOOK
outputs, and landing without a reading (R43 to R63). -/

namespace Sys2Proof.Machine

/-! ## Net load, thresholds, load point (R47 to R49, R52) -/

/-- The net load of a HOOK value (R47). -/
def netLoad (tare value : Int) : Int := if value < tare then 0 else value - tare

/-- A percentage of a mass, rounded (R49, R52). -/
def percentOf (mass pct : Int) : Int := roundDiv (mass * pct) 100

/-- The filtered value of the channel bound to a kind and target, 0 where none is bound (R47, R48). -/
def boundValue (chs : List Channel) (kind : ChanKind) (target : Nat) : Int :=
  match boundChannel chs kind target with
  | none => 0
  | some c => c.2.value

/-! ## LOT notices (R61, R62) -/

/-- Raise the LOT notice of a movement; a set-down with the discrepancy mark set is forced to the planning link. -/
def lotNotice (event : LotEvent) (lot : Lot) (freed : Bool) (crane : Nat) (peak : Option Int) (s : State) : State :=
  raiseNotice (fun l => event == .setDown && lot.discrepancy && forcedPlanning l)
    (.lot { event := event, lot := lot, freed := freed, crane := crane, peak := peak, version := s.version }) s

/-- The answer of an accepted movement request (R43). -/
def movementAnswer (lot : Lot) (freed : Bool) (s : State) : Reply :=
  .answer .done (be 2 lot.id ++ be 1 (if freed then 4 else lot.state.num)
    ++ optField 1 (lot.resting.map fun r => be 1 r.num) ++ verBytes s.version)

/-! ## ATTACH (R45, R46) -/

/-- The fields of ATTACH (R43). -/
structure AttachFields where
  lot : Nat
  crane : Nat
  dest : Dest
deriving DecidableEq, Repr

/-- The form of ATTACH (R43). -/
def readAttach : Reader AttachFields := do
  let lot ← readLotId
  let crane ← readNat 1
  require (decide (1 ≤ crane) && decide (crane ≤ 3))
  let dest ← readDest
  pure ⟨lot, crane, dest⟩

/-- Whether a destination's space is known (R45). -/
def Dest.known (d : Dest) (spaces : List SpaceRec) : Bool :=
  match d with
  | .ashore => true
  | .aboard p => (spaceOf spaces p.space).isSome

/-- Whether a destination passes both tests of R7. -/
def Dest.fits (d : Dest) (spaces : List SpaceRec) (half : Int) : Bool :=
  match d with
  | .ashore => true
  | .aboard p => Machine.fits spaces half p

/-- The checks of R45 in order: a refusal, or the lot. -/
def attachCheck (q : AttachFields) (s : State) : Except Code Lot :=
  if s.device ≠ .run then .error .refusedState
  else match s.live.findLot q.lot with
    | none => .error .unknownItem
    | some lot =>
      if (nth1 s.cranes q.crane).isNone || !q.dest.known s.spaces then .error .unknownItem
      else if lot.state = .slung ∨ lot.state = .lifted then .error .refusedState
      else if lot.state = .planned ∧ q.dest = .ashore then .error .refusedState
      else if (s.live.attachedTo q.crane).isSome then .error .busy
      else if !q.dest.fits s.spaces lot.half then .error .refusedRange
      else .ok lot

/-- A PLANNED lot rests ASHORE without position, a STOWED one ABOARD where it stands (R46). -/
def Lot.toSlung (lot : Lot) (crane : Nat) (dest : Dest) : Lot :=
  { lot with
    state := .slung, crane := some crane, dest := some dest
    resting := some (if lot.state = .stowed then .aboard else .ashore)
    place := if lot.state = .stowed then lot.place else none }

/-- ATTACH (R45, R46). -/
def attachAct (_ : Link) (q : AttachFields) (s : State) : State × Reply :=
  match attachCheck q s with
  | .error c => (s, refuse c)
  | .ok lot =>
    let lot' := lot.toSlung q.crane q.dest
    let s1 := { s with live := (s.live.putLot lot').setAttached q.crane (some lot'.id) }
    (lotNotice .attach lot' false q.crane none s1, movementAnswer lot' false s1)

/-- ATTACH (R45). -/
def execAttach (t : Nat) (l : Link) (s : State) : Host.Outcome State Fault Refusal :=
  .next (request 3 readAttach deckOnly attachAct t l s)

/-! ## HOOK outputs (R47, R50 to R53) -/

/-- Write the attachment record of a crane (R44). -/
def modifyTracker (crane : Nat) (f : Attachment → Attachment) (s : State) : State :=
  { s with tracker := s.tracker.modify (crane - 1) f }

/-- Lift-off (R50). -/
def liftOff (lot : Lot) (crane : Nat) (net : Int) (s : State) : State :=
  let lot' := { lot with state := .lifted, place := none, resting := none }
  let s1 := modifyTracker crane (fun a => { a with peak := some net }) { s with live := s.live.putLot lot' }
  lotNotice .liftOff lot' false crane none (raiseLive .liftOff (bumpVersion s1))

/-- The weighing of a set-down (R53). -/
def Lot.weigh (lot : Lot) (peak tolerance : Int) : Lot :=
  { lot with
    measured := some (if Config.weighedMax < peak then Config.weighedMax else peak)
    discrepancy := decide (tolerance * lot.declared < absDiff peak lot.declared * 100) }

/-- Steps 2 to 6 of a set-down (R52, R54). -/
def land (event : LotEvent) (lot : Lot) (crane : Nat) (peak : Option Int) (s : State) : State × Lot :=
  let lot' := lot.toLanded
  let s1 := modifyTracker crane (fun a => { a with peak := none }) { s with live := s.live.putLot lot' }
  (lotNotice event lot' false crane peak (raiseLive .setDown (bumpVersion s1)), lot')

/-- A HOOK output while the lot is LIFTED: the peak rises first, then the set-down test is made (R51, R52). -/
def hookWhileLifted (lot : Lot) (crane : Nat) (rec : CraneRec) (peak net : Int) (s : State) : State :=
  let peak' := if peak < net then net else peak
  let s1 := modifyTracker crane (fun a => { a with peak := some peak' }) s
  if net ≤ percentOf peak' rec.setPct then
    (land .setDown (lot.weigh peak' rec.tolerance) crane (some peak') s1).1
  else s1

/-- The lot a crane has attached, as its record. -/
def Area.lotOn (a : Area) (crane : Nat) : Option Lot := (a.attachedTo crane).bind a.findLot

/-- A HOOK output reaches the Tracker (R47). -/
def hookOutput (crane : Nat) (value : Int) (s : State) : State :=
  match nth1 s.cranes crane with
  | none => s
  | some rec =>
    let net := netLoad rec.tare value
    let s1 := modifyTracker crane (fun a => { a with lastNet := net }) s
    match s1.live.lotOn crane with
    | none => s1
    | some lot =>
      match lot.state with
      | .slung => if percentOf lot.massUsed rec.liftPct ≤ net then liftOff lot crane net s1 else s1
      | .lifted => hookWhileLifted lot crane rec (((nth1 s1.tracker crane).bind (·.peak)).getD 0) net s1
      | _ => s1

/-! ## FORCE-LAND (R54) -/

/-- Whether the HOOK channel of a crane is LIVE (R54). -/
def hookIsLive (chs : List Channel) (crane : Nat) : Bool :=
  match boundChannel chs .hook crane with
  | none => false
  | some c => c.2.state == .live

/-- FORCE-LAND (R54). -/
def forceLandAct (_ : Link) (id : Nat) (s : State) : State × Reply :=
  if s.device ≠ .run then (s, refuse .refusedState)
  else match s.live.findLot id with
    | none => (s, refuse .unknownItem)
    | some lot =>
      let crane := lot.crane.getD 0
      if lot.state ≠ .lifted then (s, refuse .refusedState)
      else if hookIsLive s.bank.channels crane then (s, refuse .refusedState)
      else
        let r := land .forceLand lot crane none s
        (r.1, movementAnswer r.2 false r.1)

/-- FORCE_LAND (R54). -/
def execForceLand (t : Nat) (l : Link) (s : State) : Host.Outcome State Fault Refusal :=
  .next (request 5 readLotId deckOnly forceLandAct t l s)

/-! ## DETACH (R56, R60) -/

/-- The effect of an accepted DETACH on the lot, by where it rests (R56). -/
def detach (lot : Lot) (s : State) : State × Reply :=
  let crane := lot.crane.getD 0
  match lot.resting, lot.dest, lot.place with
  | some .aboard, _, some p =>
    let lot' := lot.toStowed p
    let s1 := bumpVersion { s with live := (s.live.putLot lot').setAttached crane none
                                   ring := s.ring.completeLot lot.id (some p.space) }
    (lotNotice .detach lot' false crane none s1, movementAnswer lot' false s1)
  | _, some .ashore, _ =>
    let s1 := bumpVersion { s with live := (s.live.freeLot lot.id).setAttached crane none
                                   ring := s.ring.completeLot lot.id none }
    (lotNotice .detach lot.toPlanned true crane none s1, movementAnswer lot.toPlanned true s1)
  | _, _, _ =>
    let lot' := lot.toPlanned
    let s1 := { s with live := (s.live.putLot lot').setAttached crane none }
    (lotNotice .detach lot' false crane none s1, movementAnswer lot' false s1)

/-- DETACH (R56). -/
def detachAct (_ : Link) (id : Nat) (s : State) : State × Reply :=
  if s.device ≠ .run then (s, refuse .refusedState)
  else match s.live.findLot id with
    | none => (s, refuse .unknownItem)
    | some lot => if lot.state ≠ .slung then (s, refuse .refusedState) else detach lot s

/-- DETACH (R56). -/
def execDetach (t : Nat) (l : Link) (s : State) : Host.Outcome State Fault Refusal :=
  .next (request 4 readLotId deckOnly detachAct t l s)

/-! ## READ-HOOKS (R63) -/

/-- One crane of READ-HOOKS (R63). The load point is a position of three coordinates of 3 bytes (log 7, log 35). -/
def hookAnswer (s : State) (crane : Nat) (rec : CraneRec) : List Byte :=
  let chs := s.bank.channels
  let lot := s.live.lotOn crane
  let att := (nth1 s.tracker crane).getD { lastNet := 0, peak := none }
  let height := ((nth1 s.live.cranes crane).map (·.height)).getD 0
  let liftThr := lot.bind fun l => if l.state = .slung then some (percentOf l.massUsed rec.liftPct) else none
  let setThr := lot.bind fun l =>
    if l.state = .lifted then some (percentOf (att.peak.getD 0) rec.setPct) else none
  be 1 crane ++ optField 2 ((s.live.attachedTo crane).map (be 2)) ++ optField 1 (lot.map fun l => be 1 l.state.num)
    ++ optField 1 ((lot.bind (·.resting)).map fun r => be 1 r.num)
    ++ optField 2 ((boundChannel chs .hook crane).map fun c => be 1 c.1 ++ be 1 c.2.state.num)
    ++ beS 4 att.lastNet ++ optField 4 (att.peak.map (beS 4)) ++ optField 4 (liftThr.map (beS 4))
    ++ optField 4 (setThr.map (beS 4))
    ++ posBytes ⟨rec.px + boundValue chs .reachL crane, rec.py + boundValue chs .reachT crane, height⟩

/-- The items of a list with their numbers, counted from `n`. -/
def numbered {α : Type} : Nat → List α → List (Nat × α)
  | _, [] => []
  | n, x :: xs => (n, x) :: numbered (n + 1) xs

/-- READ-HOOKS (R63). -/
def readHooksAct (_ : Link) (_ : Unit) (s : State) : State × Reply :=
  (s, .answer .done (listField ((numbered 1 s.cranes).map fun c => hookAnswer s c.1 c.2) ++ verBytes s.version))

/-- READ_HOOKS (R63). -/
def execReadHooks (t : Nat) (l : Link) (s : State) : Host.Outcome State Fault Refusal :=
  .next (request 6 noFields anyLink readHooksAct t l s)

end Sys2Proof.Machine
end

