-- ==== Sys2Proof/Machine/Evaluation.lean ====
section
/-! DEFINITION. Evaluation Arithmetic: the six stages over a snapshot, giving a result (R86 to R106). The sums stand in
the Unit's working accumulators (`Snapshot.accumulators`), and the result is formed from them (`Snapshot.resultFrom`).
Every quotient is `roundDiv`, and every sum and product is exact. -/

namespace Sys2Proof.Machine

/-! ## Stage 1: items (R88 to R91) -/

/-- A mass with its place; `half` is the half-length of a span, 0 for a point (R101). -/
structure Item where
  mass : Int
  pos : Pos
  half : Int
deriving DecidableEq, Repr

/-- The net load a snapshot gives a crane. -/
def Snapshot.netOf (sn : Snapshot) (crane : Nat) : Int := ((nth1 sn.cranes crane).map (·.net.value)).getD 0

/-- The counted mass of a lot (R57, R89). -/
def Snapshot.counted (sn : Snapshot) (lot : Lot) : Int :=
  match lot.state, lot.resting with
  | .stowed, _ => lot.massUsed
  | .slung, some .aboard => lot.massUsed - min lot.massUsed (sn.netOf (lot.crane.getD 0))
  | _, _ => 0

/-- A lot as an item; one without a position adds nothing (R89). -/
def Snapshot.lotItem (sn : Snapshot) (lot : Lot) : Item :=
  match lot.place with
  | none => ⟨0, ⟨0, 0, 0⟩, 0⟩
  | some p => ⟨sn.counted lot, p.pos, lot.half⟩

/-- The counted load of a space (R8, R89). -/
def Snapshot.spaceLoad (sn : Snapshot) (r : SpaceRec) : Int :=
  sumInt ((sn.area.lots.filter (fun l => (l.place.map (·.space)) == some r.id)).map sn.counted)

/-- What a tank adds (R90, R91). -/
structure TankFigures where
  volume : Int
  vcg : Int
  mass : Int
  fsm : Int
  clamped : Bool
deriving DecidableEq, Repr

/-- Volume, VCG and clamping of a tank: a GAUGED one keyed by sounding, a STATED one by volume (R90). -/
def tankLookup (r : TankRec) (k : TankState) (sounding : Int) : Int × Int × Bool :=
  match k.source with
  | .gauged =>
    let b := bracket sounding (r.points.map (·.sounding))
    (interpolate b (r.points.map (·.volume)), interpolate b (r.points.map (·.vcg)), b.outside)
  | .stated => (k.volume, interpolate (bracket k.volume (r.points.map (·.volume))) (r.points.map (·.vcg)), false)

/-- Whether a volume is slack in a tank (R91). -/
def slack (capacity v : Int) : Bool := decide (2 * capacity < 100 * v) && decide (100 * v < 98 * capacity)

/-- A tank's figures (R90, R91). -/
def tankFigures (r : TankRec) (k : TankState) (sounding : Int) : TankFigures :=
  let v := tankLookup r k sounding
  { volume := v.1, vcg := v.2.1, mass := roundDiv (v.1 * k.density) 100000
    fsm := if slack r.capacity v.1 then roundDiv (r.coeff * k.density) 1000 else 0
    clamped := v.2.2 }

/-- A tank of the snapshot with its sounding. A GAUGED tank always has one; 0 stands for none (log 20). -/
def Snapshot.soundingOf (sn : Snapshot) (tank : Nat) : Option Frozen := (sn.soundings[tank]?).join

/-- Every tank with its record, number and figures. -/
def Snapshot.tanks (sn : Snapshot) : List (Nat × TankRec × TankFigures) :=
  (numbered 0 (sn.hull.s4.zip sn.area.tanks)).map fun t =>
    (t.1, t.2.1, tankFigures t.2.1 t.2.2 (((sn.soundingOf t.1).map (·.value)).getD 0))

/-- A tank as an item (R91). -/
def tankItem (r : TankRec) (f : TankFigures) : Item := ⟨f.mass, ⟨r.lcg, r.tcg, f.vcg⟩, r.half⟩

/-- The items of stage 1 that are neither lightship nor crane terms. -/
def Snapshot.items (sn : Snapshot) : List Item :=
  sn.area.constants.map (fun c => ⟨c.mass, c.pos, 0⟩) ++ sn.area.lots.map sn.lotItem
    ++ sn.tanks.map (fun t => tankItem t.2.1 t.2.2)

/-- The crane terms in crane order: net load at the load point (R48, R88). -/
def Snapshot.craneItems (sn : Snapshot) : List Item :=
  (numbered 0 (sn.hull.s5.zip sn.cranes)).map fun c =>
    let height := ((sn.area.cranes[c.1]?).map (·.height)).getD 0
    ⟨c.2.2.net.value, ⟨c.2.1.px + c.2.2.l.value, c.2.1.py + c.2.2.t.value, height⟩, 0⟩

/-! ## Stage 2: totals (R87, R92, R93) -/

/-- A moment sum of items about the origin. -/
def moment (coord : Pos → Int) (items : List Item) : Int := sumInt (items.map fun i => i.mass * coord i.pos)

/-- Sums over lightship and the items that are no crane terms. -/
def Snapshot.baseSums (sn : Snapshot) : Sums :=
  let all : List Item := ⟨sn.hull.s0.lightMass, sn.hull.s0.light, 0⟩ :: sn.items
  ⟨sumInt (all.map (·.mass)), moment (·.x) all, moment (·.y) all, moment (·.z) all⟩

/-- A moment sum with the crane terms added in order, and which crane's term stopped it (R87). -/
def Snapshot.withCranes (sn : Snapshot) (start : Int) (term : Item → Int) : MomentSum :=
  addCranes ⟨start, false⟩ (sn.craneItems.map term)

/-- The total crane net load (R98). -/
def Snapshot.totalNet (sn : Snapshot) : Int := sumInt (sn.cranes.map (·.net.value))

/-- The free-surface sum (R93). -/
def Snapshot.fsm (sn : Snapshot) : Int := sumInt (sn.tanks.map (·.2.2.fsm))

/-! ## Stages 3 and 4: hydrostatics, stability, trim (R94 to R97) -/

/-- Heel and negative-GM flag from TCG and GM (R96). -/
def heelRule (tcg gm : Int) : Int × Bool :=
  if 0 < gm then (clamp (-10000) 10000 (roundDiv (10000 * tcg) gm), false)
  else (if tcg = 0 then 0 else if tcg < 0 then -10000 else 10000, true)

/-- The column of a hydrostatic lookup. -/
def hydro (h : Hull) (b : Bracket) (column : HydroRow → Int) : Int := interpolate b (h.s1.map column)

/-- The hydrostatic bracket of a displacement (R94). -/
def hydroBracket (h : Hull) (delta : Int) : Bracket := bracket delta (h.s1.map (·.delta))

/-! ## Stage 5: release heel (R98, R99) -/

/-- The release group from the sums kept apart, absent where no crane carries a net load. -/
def Snapshot.release (sn : Snapshot) (a : Accumulators) : Option Release :=
  if 0 < sn.totalNet then
    let b := a.base
    let tcg := roundDiv b.my b.mass
    let kgc := roundDiv b.mz b.mass + roundDiv a.fsm b.mass
    let br := hydroBracket sn.hull b.mass
    let gm := hydro sn.hull br (·.km) - kgc
    let heel := heelRule tcg gm
    some { heel := heel.1, gm := gm, flag := br.flag, negGm := heel.2 }
  else none

/-! ## Stage 6: strength (R100 to R104) -/

/-- What an item adds to the weight aft of a station (R101). -/
def weightAft (xs : Int) (i : Item) : Int :=
  if i.half = 0 then (if i.pos.x < xs then i.mass else 0)
  else if i.pos.x + i.half ≤ xs then i.mass
  else if xs ≤ i.pos.x - i.half then 0
  else roundDiv (i.mass * (xs - (i.pos.x - i.half))) (2 * i.half)

/-- What an item adds to the weight moment of a station (R102). -/
def momentAft (xs : Int) (i : Item) : Int :=
  if i.half = 0 then (if i.pos.x < xs then i.mass * (xs - i.pos.x) else 0)
  else if i.pos.x + i.half ≤ xs then i.mass * (xs - i.pos.x)
  else if xs ≤ i.pos.x - i.half then 0
  else roundDiv (weightAft xs i * (xs - (i.pos.x - i.half))) 2

/-- The buoyancy aft of a station (R103). -/
def buoyancyAft (delta : Int) (b : Bracket) (cells : List BuoyCell) : Int :=
  roundDiv (delta * interpolate b (cells.map (·.f))) 10000

/-- The accumulators of one station, the crane terms added to its weight moment under the accumulator's bound (R87, R101
to R103). -/
def Snapshot.stationSums (sn : Snapshot) (delta : Int) (b : Bracket) (r : StationRec) (cells : List BuoyCell) :
    StationSums :=
  { weight := r.aftMass + sumInt (sn.items.map (weightAft r.x)) + sumInt (sn.craneItems.map (weightAft r.x))
    moment := sn.withCranes (r.aftMass * (r.x - r.aftX) + sumInt (sn.items.map (momentAft r.x))) (momentAft r.x)
    buoyancy := buoyancyAft delta b cells * (r.x - interpolate b (cells.map (·.b))) }

/-- The strength figures of one station from its accumulators (R104). -/
def StationSums.strength (q : StationSums) (delta : Int) (b : Bracket) (cells : List BuoyCell) : Strength :=
  let buoy := buoyancyAft delta b cells
  { w := q.weight, b := buoy, sf := q.weight - buoy, bm := roundDiv (q.moment.value - q.buoyancy) 10000 }

/-! ## The working accumulators (R84, R87) -/

/-- The working accumulators with every sum formed over a snapshot (R87). -/
def Snapshot.accumulators (sn : Snapshot) : Accumulators :=
  let base := sn.baseSums
  let delta := base.mass + sn.totalNet
  { base := base, mass := delta
    mx := sn.withCranes base.mx (fun i => i.mass * i.pos.x)
    my := sn.withCranes base.my (fun i => i.mass * i.pos.y)
    mz := sn.withCranes base.mz (fun i => i.mass * i.pos.z)
    fsm := sn.fsm
    stations := (sn.hull.s0.stations.zip sn.hull.s2.cells).map fun s =>
      sn.stationSums delta (hydroBracket sn.hull delta) s.1 s.2 }

/-- Whether a crane's term stopped some moment accumulator (R87). -/
def Accumulators.stopped (a : Accumulators) (k : Nat) : Bool :=
  ([a.mx, a.my, a.mz] ++ a.stations.map (·.moment)).any (fun m => m.stops.getD k false)

/-! ## Degradation (R105) -/

/-- A value that is marked held. -/
def Frozen.heldFrom (f : Frozen) : List Nat := if f.held then f.channel.toList else []

/-- The channels a crane term adds to the list: its held ones, or all bound ones where its term stopped a sum. -/
def CraneTerm.listed (c : CraneTerm) (stopped : Bool) : List Nat :=
  if stopped then c.net.channel.toList ++ c.l.channel.toList ++ c.t.channel.toList
  else c.net.heldFrom ++ c.l.heldFrom ++ c.t.heldFrom

/-- Whether a crane term degrades the evaluation. -/
def CraneTerm.degrades (c : CraneTerm) (stopped : Bool) : Bool := stopped || c.net.held || c.l.held || c.t.held

/-- The soundings in use with the clamping of their tanks. -/
def Snapshot.gauges (sn : Snapshot) : List (Frozen × Bool) :=
  sn.tanks.filterMap fun t =>
    match sn.area.tanks[t.1]?, sn.soundingOf t.1 with
    | some ⟨.gauged, _, _⟩, some f => some (f, t.2.2.clamped)
    | _, _ => none

/-- Whether the evaluation is degraded (R105). -/
def Snapshot.degraded (sn : Snapshot) (a : Accumulators) : Bool :=
  (numbered 0 sn.cranes).any (fun c => c.2.degrades (a.stopped c.1))
    || sn.gauges.any (fun g => g.1.held || g.2) || sn.heel.any (·.held)

/-- The channels concerned, in ascending order, each once (R105). -/
def Snapshot.degradedChannels (sn : Snapshot) (a : Accumulators) : List Nat :=
  let named := ((numbered 0 sn.cranes).map (fun c => c.2.listed (a.stopped c.1))).flatten
    ++ (sn.gauges.map (fun g => if g.2 then g.1.channel.toList else g.1.heldFrom)).flatten
    ++ ((sn.heel.map Frozen.heldFrom).getD [])
  (List.range Config.channels).filter (fun k => named.contains k)

/-- The crane figures of a result, each marked where a channel of the crane is listed (R105, R106). -/
def Snapshot.craneFigures (sn : Snapshot) (a : Accumulators) : List CraneFigures :=
  (numbered 0 sn.cranes).map fun c =>
    { net := c.2.net.value, l := c.2.l.value, t := c.2.t.value
      degraded := !(c.2.listed (a.stopped c.1)).isEmpty }

/-! ## The result (R106) -/

/-- The result the stages give from a snapshot and the sums in the working accumulators. -/
def Snapshot.resultFrom (sn : Snapshot) (a : Accumulators) : Result :=
  let delta := a.mass
  let lcg := roundDiv a.mx.value delta
  let tcg := roundDiv a.my.value delta
  let kg := roundDiv a.mz.value delta
  let kgc := kg + roundDiv a.fsm delta
  let br := hydroBracket sn.hull delta
  let t := hydro sn.hull br (·.t)
  let km := hydro sn.hull br (·.km)
  let lcb := hydro sn.hull br (·.lcb)
  let lcf := hydro sn.hull br (·.lcf)
  let mct := hydro sn.hull br (·.mct)
  let gm := km - kgc
  let heel := heelRule tcg gm
  let trim := clamp (-32000) 32000 (roundDiv (delta * (lcb - lcg)) mct)
  let tAft := t + roundDiv (trim * lcf) sn.hull.s0.lpp
  { source := sn.source, ident := sn.ident, mode := sn.area.mode
    delta := delta, lcg := lcg, tcg := tcg, kg := kg, fsm := a.fsm, kgc := kgc
    t := t, km := km, lcb := lcb, lcf := lcf, mct := mct, flag := br.flag
    gm := gm, heel := heel.1, negGm := heel.2, trim := trim, tAft := tAft, tFwd := tAft - trim
    release := sn.release a
    strength := (a.stations.zip sn.hull.s2.cells).map fun q => q.1.strength delta br q.2
    spaces := sn.hull.s3.map sn.spaceLoad
    cranes := sn.craneFigures a
    observed := sn.heel.map (·.value)
    degraded := sn.degraded a, degradedChannels := sn.degradedChannels a }

/-- Evaluate a snapshot: the six stages in order. -/
def evaluate (sn : Snapshot) : Result := sn.resultFrom sn.accumulators

/-! ## The Unit (R84) -/

/-- The Unit as granted for a work: it takes the snapshot and forms its sums (R84, R85, log 37). -/
def Computing.granted (work : Work) (sn : Snapshot) : Computing :=
  { work := work, snap := sn, acc := sn.accumulators }

end Sys2Proof.Machine
end

