-- ==== Sys2Proof/Machine/Criteria.lean ====
section
/-! DEFINITION. The Criteria Monitor: margins, states, the verdict and its publication, and READ-VERDICT (R107 to
R123). -/

namespace Sys2Proof.Machine

/-! ## Margins (R109 to R112) -/

/-- One criterion judged from a result: its margin, absent when OFF, and whether a flag forces OVER (R112, R114). -/
structure Judged where
  kind : CritKind
  index : Nat
  margin : Option Int
  forced : Bool
  degraded : Bool
deriving DecidableEq, Repr

/-- A criterion that no flag forces and that carries no mark. -/
def Judged.plain (k : CritKind) (index : Nat) (m : Int) : Judged := ⟨k, index, some m, false, false⟩

/-- The limit set of a mode (R108). -/
def Sec6.limits (s6 : Sec6) : Mode → LimitSet
  | .harbour => s6.harbour
  | .sea => s6.sea

/-- |v|. -/
def absInt (v : Int) : Int := v.natAbs

/-- The SWL at a squared radius: the first point far enough out, 0 beyond the table (R111). -/
def swlAt (points : List SwlPoint) (r2 : Int) : Int :=
  match points.find? (fun p => decide (r2 ≤ p.radius * p.radius)) with
  | none => 0
  | some p => p.swl

/-- The single kinds before the stations (R109, R112, R114). -/
def judgeSingles (h : Hull) (lim : LimitSet) (r : Result) : List Judged :=
  [ .plain .gm 0 (r.gm - h.s0.gmMin)
  , .plain .heel 0 (lim.heel - absInt r.heel)
  , { kind := .release, index := 0, margin := r.release.map (fun x => lim.release - absInt x.heel)
      forced := (r.release.map (·.negGm)).getD false, degraded := false }
  , .plain .trim 0 (min (r.trim - lim.trimMin) (lim.trimMax - r.trim))
  , .plain .draught 0 (lim.tMax - max r.tAft r.tFwd)
  , { kind := .table, index := 0, margin := some (h.s0.deltaMax - r.delta), forced := r.flag != .none, degraded := false } ]

/-- SHEAR of each station (R110). -/
def judgeShear (lim : LimitSet) (r : Result) : List Judged :=
  (numbered 0 (lim.stations.zip r.strength)).map fun x => .plain .shear x.1 (x.2.1.shear - absInt x.2.2.sf)

/-- BENDING of each station (R110). -/
def judgeBending (lim : LimitSet) (r : Result) : List Judged :=
  (numbered 0 (lim.stations.zip r.strength)).map fun x =>
    .plain .bending x.1 (min (x.2.1.hog - x.2.2.bm) (x.2.2.bm + x.2.1.sag))

/-- SPACE of each space record, indexed by its id (R110). -/
def judgeSpaces (h : Hull) (r : Result) : List Judged :=
  (h.s3.zip r.spaces).map fun x => .plain .space x.1.id (x.1.maxMass - x.2)

/-- CRANE of each crane (R111, R115). -/
def judgeCranes (h : Hull) (r : Result) : List Judged :=
  (numbered 1 (h.s5.zip r.cranes)).map fun x =>
    { kind := .crane, index := x.1
      margin := some (swlAt x.2.1.swl (x.2.2.l * x.2.2.l + x.2.2.t * x.2.2.t) - x.2.2.net)
      forced := false, degraded := x.2.2.degraded }

/-- AGREEMENT (R109, R112). -/
def judgeAgreement (lim : LimitSet) (r : Result) : List Judged :=
  [{ kind := .agreement, index := 0, margin := r.observed.map (fun o => lim.agreement - absDiff o r.heel)
     forced := false, degraded := false }]

/-- Every criterion of a result, in the order of R107. -/
def judge (h : Hull) (r : Result) : List Judged :=
  let lim := h.s6.limits r.mode
  judgeSingles h lim r ++ judgeShear lim r ++ judgeBending lim r ++ judgeSpaces h r ++ judgeCranes h r
    ++ judgeAgreement lim r

/-! ## States (R113 to R116) -/

/-- The near band and recovery of a kind (R108). -/
def Sec6.band (s6 : Sec6) (k : CritKind) : Band := s6.bands.getD k.num { n := 0, r := 0 }

/-- The four tests of R113, with R114's forced OVER in place of the first. -/
def nextState (b : Band) (prev : CritState) (forced : Bool) (m : Int) : CritState :=
  if forced || decide (m < 0) then .over
  else if prev = .over ∧ m < b.r then .over
  else if m ≤ b.n then .near
  else .ok

/-- An entry as a publication leaves it (R112 to R115). One that was OFF is judged as from OK, which `nextState` treats
alike. -/
def CritEntry.publish (e : CritEntry) (b : Band) (j : Judged) : CritEntry :=
  match j.margin with
  | none => { e with state := .off, degraded := j.degraded }
  | some m => { e with state := nextState b e.state j.forced m, margin := m, degraded := j.degraded }

/-- The state a look-ahead stage or a self-check gives a criterion, without a previous state (R116). -/
def Judged.freshState (j : Judged) (b : Band) : CritState :=
  match j.margin with
  | none => .off
  | some m => nextState b .ok j.forced m

/-- A state as a level; OFF counts as OK. -/
def CritState.level : CritState → Level
  | .over => .over
  | .near => .near
  | _ => .ok

/-- The worst of several states (R116, R118). -/
def worstLevel (states : List CritState) : Level := states.foldl (fun w c => w.worse c.level) .ok

/-- The level and worst kind of a look-ahead stage or self-check (R116). -/
def judgeLevel (h : Hull) (r : Result) : Level × Option CritKind :=
  let states := (judge h r).map fun j => (j.kind, j.freshState (h.s6.band j.kind))
  let level := worstLevel (states.map (·.2))
  (level, if level = .ok then none else (states.find? (fun x => x.2.level == level)).map (·.1))

/-! ## The criterion table (R107) -/

/-- An entry as the table is built: OK, margin 0, mark clear. -/
def CritEntry.fresh (k : CritKind) (index : Nat) : CritEntry :=
  { kind := k, index := index, state := .ok, margin := 0, degraded := false }

/-- The table built from the hull data in force (R107). Station indices count from 0, a start no rule gives (log 11). -/
def buildTable (h : Hull) : List CritEntry :=
  [.fresh .gm 0, .fresh .heel 0, .fresh .release 0, .fresh .trim 0, .fresh .draught 0, .fresh .table 0]
    ++ (numbered 0 h.s0.stations).map (fun x => .fresh .shear x.1)
    ++ (numbered 0 h.s0.stations).map (fun x => .fresh .bending x.1)
    ++ h.s3.map (fun r => .fresh .space r.id)
    ++ (numbered 1 h.s5).map (fun x => .fresh .crane x.1)
    ++ [.fresh .agreement 0]

/-! ## Publication (R119 to R123) -/

/-- The level of a verdict (R118). -/
def Verdict.level (v : Verdict) : Level := worstLevel (v.entries.map (·.state))

/-- The entries in a state. -/
def Verdict.inState (v : Verdict) (c : CritState) : List CritEntry := v.entries.filter (fun e => e.state == c)

/-- The kind and index of each entry OVER, in order (R123). -/
def Verdict.overSet (v : Verdict) : List (CritKind × Nat) := (v.inState .over).map (fun e => (e.kind, e.index))

/-- The condition version and cause set of a verdict (R117): those of its result. A result handed to the Monitor is
a live one and has them (log 20). -/
def Verdict.ident (v : Verdict) : LiveIdent := v.figures.ident.getD { version := 0, causes := 0 }

/-- The VERDICT notice of a verdict (R123). -/
def Verdict.notice (v : Verdict) : Notice :=
  .verdict
    { serial := v.serial, causes := v.ident.causes, version := v.ident.version, mode := v.figures.mode
      level := v.level, degraded := v.figures.degraded, nOver := (v.inState .over).length
      nNear := (v.inState .near).length, overEntries := v.overSet }

/-- Whether a publication calls for a VERDICT notice (R123): always at the first since RUN was entered. -/
def State.verdictNews (s : State) (v : Verdict) : Bool :=
  !s.published ||
    match s.verdict with
    | none => true
    | some old => old.level != v.level || old.figures.degraded != v.figures.degraded || old.overSet != v.overSet

/-- Set the verdict-ready mark, counting an overrun where it was already set (R122). -/
def Liu.markVerdict (u : Liu) : Liu :=
  { u with mark := true
           summary := if u.mark then { u.summary with overruns := bump u.summary.overruns } else u.summary }

/-- The three marks of a publication. -/
def markAll (s : State) : State :=
  { s with lius := { planning := s.lius.planning.markVerdict, deck := s.lius.deck.markVerdict,
                     ballast := s.lius.ballast.markVerdict } }

/-- The new criterion table of a publication (R119). -/
def State.tableAfter (s : State) (h : Hull) (r : Result) : List CritEntry :=
  List.zipWith (fun e j => e.publish (h.s6.band e.kind) j) s.crit (judge h r)

/-- The verdict a result gives (R117, R120). -/
def State.verdictOf (s : State) (h : Hull) (r : Result) : Verdict :=
  { serial := nextCount s.serial, figures := r, entries := s.tableAfter h r }

/-- Publication: the five parts of R119 as one event, under the hull data of the snapshot. -/
def publish (h : Hull) (r : Result) (s : State) : State :=
  let v := s.verdictOf h r
  let s1 := { s with crit := v.entries, serial := v.serial, verdict := some v, published := true }
  let s2 := markAll (recomputeAll s1)
  if s.verdictNews v then raiseNotice forcedNone v.notice s2 else s2

/-! ## READ-VERDICT (R121) -/

/-- The parts of READ-VERDICT. -/
inductive VerdictPart
  | summary
  | strength
  | criteria (first count : Nat)
deriving DecidableEq, Repr

/-- The part and its fields (R121, R212); the first entry ordinal is 1 byte (log 46). -/
def readVerdictPart : Reader VerdictPart := do
  let part ← readNat 1
  match part with
  | 0 => pure .summary
  | 1 => pure .strength
  | 2 => do
    let first ← readNat 1
    let n ← readNat 1
    require (decide (first ≤ 81) && decide (1 ≤ n) && decide (n ≤ 48))
    pure (.criteria first n)
  | _ => fun _ => none

/-- The SUMMARY part (R214). -/
def summaryPart (v : Verdict) : List Byte :=
  let r := v.figures
  be 2 v.serial ++ be 1 v.ident.causes.toNat ++ verBytes v.ident.version ++ be 1 r.mode.num ++ beS 4 r.delta ++ beS 4 r.lcg
    ++ beS 4 r.tcg ++ beS 4 r.kg ++ beS 6 r.fsm ++ beS 4 r.kgc ++ beS 4 r.km ++ beS 4 r.gm ++ beS 2 r.heel
    ++ beS 2 r.trim ++ beS 4 r.t ++ beS 4 r.tAft ++ beS 4 r.tFwd ++ be 1 r.flag.num ++ flagByte r.negGm
    ++ optField 4 (r.release.map fun x => beS 2 x.heel ++ be 1 x.flag.num ++ flagByte x.negGm)
    ++ be 1 v.level.num ++ be 1 (v.inState .over).length ++ be 1 (v.inState .near).length ++ flagByte r.degraded
    ++ listField (r.degradedChannels.map (be 1))

/-- The margin of an entry in the verdict record: absent when OFF (R112, R117). -/
def CritEntry.recorded (e : CritEntry) : Option Int := if e.state = .off then none else some e.margin

/-- The margin a read shows: the record's, and beside OFF the one the table entry keeps (R112, R121, log 14). -/
def CritEntry.shown (e : CritEntry) : Int := e.recorded.getD e.margin

/-- One entry of the CRITERIA part (R121), its margin an optional field that is present beside OFF too (log 14). Its
index is 1 byte (log 46). -/
def critBytes (e : CritEntry) : List Byte :=
  be 1 e.kind.num ++ be 1 e.index ++ be 1 e.state.num ++ optField 4 (some (beS 4 e.shown)) ++ flagByte e.degraded

/-- READ-VERDICT (R121): a SUMMARY read clears the reading link's mark. -/
def readVerdictAct (l : Link) (q : VerdictPart) (s : State) : State × Reply :=
  match s.verdict with
  | none => (s, refuse .refusedState)
  | some v =>
    match q with
    | .summary => (modifyLiu l (fun u => { u with mark := false }) s, .answer .done (summaryPart v))
    | .strength =>
      (s, .answer .done (be 2 v.serial
        ++ listField (v.figures.strength.map fun x => beS 4 x.sf ++ beS 4 x.bm)))
    | .criteria first n =>
      (s, .answer .done (be 2 v.serial ++ be 1 v.entries.length
        ++ listField (((v.entries.drop first).take n).map critBytes)))

/-- READ_VERDICT (R121). -/
def execReadVerdict (t : Nat) (l : Link) (s : State) : Host.Outcome State Fault Refusal :=
  .next (request 20 readVerdictPart anyLink readVerdictAct t l s)

end Sys2Proof.Machine
end

