-- ==== Sys2Proof/Machine/Channels.lean ====
section
/-! DEFINITION. The Sample Interface and Channel Bank: frames, rails, blocks, staleness, watches, and the channel
requests of the planning link (R65 to R82). -/

namespace Sys2Proof.Machine

/-! ## Records -/

/-- Write one channel record. -/
def putChannel (ch : Nat) (c : Channel) (s : State) : State :=
  { s with bank := { s.bank with channels := s.bank.channels.set ch c } }

/-- The working fields of a channel that leaves its block: accumulator emptied, rail run 0, value held (R69, R72). -/
def Channel.dropBlock (c : Channel) : Channel := { c with sum := 0, count := 0, railRun := 0, held := true }

/-- A channel as disabling leaves its working fields (R79). -/
def Channel.toDisabled (c : Channel) : Channel :=
  { c.dropBlock with state := .disabled, watch := .clear, timer := none }

/-- A channel entering FILLING (R79, R83). -/
def Channel.toFilling (c : Channel) (now : Nat) : Channel :=
  { c.dropBlock with state := .filling, watch := .clear, timer := some (now + c.cfg.stale) }

/-- What one occurrence on a channel reports (R81). -/
structure ChanEvents where
  rail : Bool
  stale : Bool
  live : Bool
  watch : Bool
deriving DecidableEq, Repr

/-- Raise the CHANNEL notice of an occurrence; without an event there is none (R81). -/
def channelNotice (ch : Nat) (c : Channel) (e : ChanEvents) (s : State) : State :=
  if e.rail || e.stale || e.live || e.watch then
    raiseNotice forcedNone
      (.channel { channel := ch, binding := c.cfg.binding, rail := e.rail, stale := e.stale, live := e.live,
                  watchEvent := e.watch, state := c.state, value := c.value, held := c.held, watch := c.watch }) s
  else s

/-! ## Blocks and watches (R69 to R74) -/

/-- v ≥ watch high, an absent one taking no part (R74). -/
def atHigh (c : ChannelCfg) (v : Int) : Bool :=
  match c.high with
  | none => false
  | some h => decide (h ≤ v)

/-- v ≤ watch low, an absent one taking no part (R74). -/
def atLow (c : ChannelCfg) (v : Int) : Bool :=
  match c.low with
  | none => false
  | some w => decide (v ≤ w)

/-- The watch state a block output leaves (R74). -/
def watchNext (c : ChannelCfg) (w : Watch) (v : Int) : Watch :=
  match w with
  | .clear => if atHigh c v then .high else if atLow c v then .low else .clear
  | .high =>
    if atLow c v then .low
    else match c.high with
      | none => .high
      | some h => if v ≤ h - c.band then .clear else .high
  | .low =>
    if atHigh c v then .high
    else match c.low with
      | none => .low
      | some w => if w + c.band ≤ v then .clear else .low

/-- How a sample leaves a channel: its record and whether it completed a block or entered RAIL. -/
inductive SampleResult
  | collecting (c : Channel)
  | railed (c : Channel)
  | block (c : Channel) (wasFilling : Bool)
deriving DecidableEq, Repr

/-- A sample added to the accumulator, completing the block at AL (R70). -/
def Channel.addSample (c : Channel) (v : Int) : SampleResult :=
  if c.cfg.al ≤ c.count + 1 then
    .block { c with value := roundDiv (c.sum + v) c.cfg.al, held := false, state := .live, sum := 0, count := 0,
                    watch := watchNext c.cfg c.watch (roundDiv (c.sum + v) c.cfg.al) }
      (c.state == .filling)
  else .collecting { c with sum := c.sum + v, count := c.count + 1 }

/-- Whether a clamped value stands at an end of the range (R69). -/
def ChannelCfg.atEnd (c : ChannelCfg) (v : Int) : Bool := v == c.min || v == c.max

/-- A sample of a FILLING or LIVE channel, already clamped: the rail test, then the block (R69, R70). -/
def Channel.railTest (c : Channel) (v : Int) : SampleResult :=
  let run := if c.cfg.atEnd v then c.railRun + 1 else 0
  if c.cfg.rail ≤ run then .railed { c.dropBlock with state := .rail }
  else { c with railRun := run }.addSample v

/-- A sample taken by an enabled channel (R69 to R72); its stale timer has been restarted. -/
def Channel.take (c : Channel) (value : Int) : SampleResult :=
  let v := clamp c.cfg.min c.cfg.max value
  match c.state with
  | .rail =>
    if c.cfg.atEnd v then .collecting c
    else { c.dropBlock with state := .filling }.addSample v
  | .stale => { c with state := .filling }.railTest v
  | _ => c.railTest v

/-- Hand a block output on: to the watch's lines, and for HOOK to the Tracker (R73, R75). -/
def handOn (c : Channel) (watchChanged : Bool) (s : State) : State :=
  let s1 := if watchChanged then recomputeMask c.cfg.mask s else s
  match c.cfg.binding with
  | some ⟨.hook, crane⟩ => hookOutput crane c.value s1
  | _ => s1

/-- A sample frame for an enabled channel: record, notice and hand-over as one event (R68 to R73). -/
def takeSample (ch : Nat) (c : Channel) (value : Int) (s : State) : State :=
  let old := c.watch
  match { c with timer := some (s.now + c.cfg.stale) }.take value with
  | .collecting c' => putChannel ch c' s
  | .railed c' => channelNotice ch c' ⟨true, false, false, false⟩ (putChannel ch c' s)
  | .block c' wasFilling =>
    let changed := c'.watch != old
    handOn c' changed (channelNotice ch c' ⟨false, false, wasFilling, changed⟩ (putChannel ch c' s))

/-- Count a frame in error (R68). -/
def countError (s : State) : State := { s with bank := { s.bank with errors := satSucc Config.errorMax s.bank.errors } }

/-- A frame taken outside START (R68). -/
def takeFrame (u : RxUnit) (s : State) : State :=
  match frameOf u with
  | none => countError s
  | some (ch, v) =>
    match s.bank.channels[ch]? with
    | none => countError s
    | some c => if c.state = .disabled then s else takeSample ch c v s

/-- SAMPLE_FRAME (R68). A frame in START is dropped. -/
def execSampleFrame (t : Nat) (u : RxUnit) (s : State) : Host.Outcome State Fault Refusal :=
  .next (if s.device = .start then s else settle (takeFrame u (atTime t s)))

/-- STALE_TIMER_EXPIRY (R72). -/
def execStaleTimerExpiry (t : Nat) (ch : Nat) (s : State) : Host.Outcome State Fault Refusal :=
  .next (match s.bank.channels[ch]? with
    | none => s
    | some c =>
      if expired t s c.timer then
        let c' := { c.dropBlock with state := .stale, timer := none }
        settle (channelNotice ch c' ⟨false, true, false, false⟩ (putChannel ch c' (atTime t s)))
      else s)

/-! ## Disabling (R79, R83) -/

/-- Disable one channel with the effects of R79: a HIGH or LOW watch becomes CLEAR with a notice. -/
def disableChannel (ch : Nat) (c : Channel) (s : State) : State :=
  let c' := c.toDisabled
  channelNotice ch c' ⟨false, false, false, c.watch != .clear⟩ (putChannel ch c' s)

/-! ## The channel requests (R78, R79) -/

/-- Whether a binding names a target of the hull sections in force (R66). -/
def Binding.exists (b : Binding) (cranes : List CraneRec) (tanks : List TankRec) : Bool :=
  match b.kind with
  | .hook => (nth1 cranes b.target).isSome
  | .reachL => (nth1 cranes b.target).isSome
  | .reachT => (nth1 cranes b.target).isSome
  | .sounding => decide (b.target < tanks.length)
  | .heel => true

/-- Whether another channel holds a binding (R66, R78). -/
def boundElsewhere (chs : List Channel) (ch : Nat) (b : Option Binding) : Bool :=
  match b with
  | none => false
  | some b => (numbered 0 chs).any (fun c => c.1 != ch && c.2.cfg.binding == some b)

/-- Whether a binding is a SOUNDING binding to a tank GAUGED in an area (R14, R78). -/
def guardsGauge (a : Area) (b : Option Binding) : Bool :=
  match b with
  | some ⟨.sounding, tank⟩ =>
    match a.tanks[tank]? with
    | some tk => tk.source == .gauged
    | none => false
  | _ => false

/-- Whether a binding is a HOOK binding to a crane with an attached lot (R55, R78). -/
def guardsHook (a : Area) (b : Option Binding) : Bool :=
  match b with
  | some ⟨.hook, crane⟩ => (a.attachedTo crane).isSome
  | _ => false

/-- Every field of a channel configuration in its range (R65, R78). -/
def ChannelCfg.inRange (c : ChannelCfg) : Bool :=
  decide (1 ≤ c.al) && decide (c.al ≤ 32) && channelRange c.min && channelRange c.max && decide (c.min < c.max)
    && decide (20 ≤ c.stale) && decide (c.stale ≤ 10000) && decide (1 ≤ c.rail) && decide (c.rail ≤ 255)
    && within 0 8388607 c.band && (c.high.all channelRange) && (c.low.all channelRange)
    && (match c.high, c.low with
        | some h, some w => decide (w < h)
        | _, _ => true)

/-- The fields of CHANNEL-SET: a channel and every configuration field but the enable (R78). -/
def readChannelSet : Reader (Nat × ChannelCfg) := do
  let ch ← readNat 1
  let b ← readBinding
  let c ← readChannelFields b false
  pure (ch, c)

/-- The checks of R78 in order: a refusal, or the channel's record. -/
def channelSetCheck (ch : Nat) (c : ChannelCfg) (s : State) : Except Code Channel :=
  if s.device ≠ .run then .error .refusedState
  else match s.bank.channels[ch]? with
    | none => .error .unknownItem
    | some old =>
      if !(c.binding.all (fun b => b.exists s.cranes s.tanks)) then .error .unknownItem
      else if old.state ≠ .disabled then .error .refusedState
      else if boundElsewhere s.bank.channels ch c.binding then .error .refusedState
      else if c.binding ≠ old.cfg.binding ∧ guardsGauge s.live old.cfg.binding then .error .refusedState
      else if c.binding ≠ old.cfg.binding ∧ (guardsHook s.live old.cfg.binding ∨ guardsHook s.live c.binding) then
        .error .refusedState
      else if !c.inRange then .error .refusedRange
      else .ok old

/-- The record an accepted CHANNEL-SET leaves (R78). Unbound before and after counts as the binding kept, and a kept
binding keeps the value, clamped, even where no block was output yet (R67, log 32). -/
def Channel.configure (old : Channel) (c : ChannelCfg) : Channel :=
  { old with
    cfg := { c with enable := old.cfg.enable && c.binding.isSome }
    value := if c.binding = old.cfg.binding then clamp c.min c.max old.value else restValue c.min c.max }

/-- CHANNEL-SET (R78). -/
def channelSetAct (_ : Link) (q : Nat × ChannelCfg) (s : State) : State × Reply :=
  match channelSetCheck q.1 q.2 s with
  | .error c => (s, refuse c)
  | .ok old => (putChannel q.1 (old.configure q.2) s, .answer .done [])

/-- CHANNEL_SET (R78). -/
def execChannelSet (t : Nat) (l : Link) (s : State) : Host.Outcome State Fault Refusal :=
  .next (request 13 readChannelSet planningOnly channelSetAct t l s)

/-- CHANNEL-ENABLE (R79). -/
def channelEnableAct (_ : Link) (ch : Nat) (s : State) : State × Reply :=
  if s.device ≠ .run then (s, refuse .refusedState)
  else match s.bank.channels[ch]? with
    | none => (s, refuse .unknownItem)
    | some c =>
      if c.cfg.binding.isNone then (s, refuse .refusedState)
      else if c.state ≠ .disabled then (s, .answer .done [])
      else (putChannel ch ({ c with cfg := { c.cfg with enable := true } }.toFilling s.now) s, .answer .done [])

/-- CHANNEL_ENABLE (R79). -/
def execChannelEnable (t : Nat) (l : Link) (s : State) : Host.Outcome State Fault Refusal :=
  .next (request 14 (readNat 1) planningOnly channelEnableAct t l s)

/-- CHANNEL-DISABLE (R79). -/
def channelDisableAct (_ : Link) (ch : Nat) (s : State) : State × Reply :=
  if s.device ≠ .run then (s, refuse .refusedState)
  else match s.bank.channels[ch]? with
    | none => (s, refuse .unknownItem)
    | some c =>
      if c.state = .disabled then (s, .answer .done [])
      else
        let s1 := disableChannel ch { c with cfg := { c.cfg with enable := false } } s
        (if c.watch = .clear then s1 else recomputeMask c.cfg.mask s1, .answer .done [])

/-- CHANNEL_DISABLE (R79). -/
def execChannelDisable (t : Nat) (l : Link) (s : State) : Host.Outcome State Fault Refusal :=
  .next (request 15 (readNat 1) planningOnly channelDisableAct t l s)

/-! ## READ-CHANNELS (R82) -/

/-- The fields of READ-CHANNELS. -/
def readChannelRange : Reader (Nat × Nat) := do
  let first ← readNat 1
  let n ← readNat 1
  require (decide (1 ≤ n) && decide (n ≤ 8))
  pure (first, n)

/-- One channel of READ-CHANNELS. -/
def channelAnswer (now : Nat) (c : Channel) : List Byte :=
  bindingBytes c.cfg.binding ++ flagByte c.cfg.enable ++ channelFields c.cfg ++ be 1 c.state.num ++ beS 3 c.value
    ++ flagByte c.held ++ be 1 c.count ++ be 1 c.railRun ++ be 1 c.watch.num
    ++ optField 4 (c.timer.map fun e => be 4 (e - now))

/-- READ-CHANNELS (R82). -/
def readChannelsAct (_ : Link) (q : Nat × Nat) (s : State) : State × Reply :=
  if Config.channels ≤ q.1 then (s, refuse .unknownItem)
  else
    (s, .answer .done (listField (((s.bank.channels.drop q.1).take q.2).map (channelAnswer s.now))
      ++ be 2 s.bank.errors))

/-- READ_CHANNELS (R82). -/
def execReadChannels (t : Nat) (l : Link) (s : State) : Host.Outcome State Fault Refusal :=
  .next (request 16 readChannelRange anyLink readChannelsAct t l s)

end Sys2Proof.Machine
end

