-- ==== Sys2Proof/Machine/Hull.lean ====
section
/-! DEFINITION. Hull data: the items of a section as HULL-WRITE gives and READ-HULL returns them, their own ranges, the
validation of a full set of sections, and the comparison of its three forms (R174, R176, R179, R212). Stations, rows,
points, spaces and tanks count from 0, cranes from 1 (log 11). -/

namespace Sys2Proof.Machine

/-! ## Empty sections (R177) -/

/-- A station with every field 0. -/
def StationRec.zero : StationRec := ⟨0, 0, 0⟩
/-- A hydrostatic row with every field 0. -/
def HydroRow.zero : HydroRow := ⟨0, 0, 0, 0, 0, 0⟩
/-- A cell with every field 0. -/
def BuoyCell.zero : BuoyCell := ⟨0, 0⟩
/-- A space with every field 0. -/
def SpaceRec.zero : SpaceRec := ⟨0, List.replicate 8 0#8, 0, 0, 0, 0, 0, 0⟩
/-- A tank with every field 0. -/
def TankRec.zero : TankRec := ⟨0, 0, 0, 0, [], 0⟩
/-- A sounding point with every field 0. -/
def TankPoint.zero : TankPoint := ⟨0, 0, 0⟩
/-- A new crane: the percentages of R15, every other field 0. -/
def CraneRec.fresh : CraneRec := ⟨0, 0, 0, 90, 10, 5, [], 0⟩
/-- An SWL point with every field 0. -/
def SwlPoint.zero : SwlPoint := ⟨0, 0⟩
/-- Station limits with every field 0. -/
def StationLimits.zero : StationLimits := ⟨0, 0, 0⟩
/-- A limit set with every field 0. -/
def LimitSet.zero : LimitSet := ⟨0, 0, 0, 0, 0, 0, []⟩

/-- The working copy of a bad section 0 (R177). -/
def Sec0.blank : Sec0 := ⟨0, 0, ⟨0, 0, 0⟩, 0, 0, []⟩
/-- The working copy of a bad section 2. -/
def Sec2.blank : Sec2 := ⟨0, []⟩
/-- The working copy of a bad section 6. -/
def Sec6.blank : Sec6 := ⟨LimitSet.zero, LimitSet.zero, List.replicate 11 ⟨0, 0⟩⟩
/-- The working copy of a bad section 7: R65's defaults, and 500 ms, 8 and 8 (R177). -/
def Sec7.blank : Sec7 :=
  { channels := List.replicate Config.channels ChannelCfg.blank
    lines := ⟨⟨.follow, false⟩, ⟨.follow, false⟩, ⟨.follow, false⟩, ⟨.follow, false⟩⟩
    masks := List.replicate 11 ⟨LineSet.none, LineSet.none⟩
    period := 500, guard := 8, depth := 8 }

/-- The working copy on entry to HULL-FAULT: good sections as read, bad ones empty (R177). -/
def StoredHull.working (st : StoredHull) : Hull :=
  { s0 := st.s0.getD Sec0.blank, s1 := st.s1.getD [], s2 := st.s2.getD Sec2.blank, s3 := st.s3.getD []
    s4 := st.s4.getD [], s5 := st.s5.getD [], s6 := st.s6.getD Sec6.blank, s7 := st.s7.getD Sec7.blank }

/-- The full set of sections where every one is good. -/
def StoredHull.full (st : StoredHull) : Option Hull :=
  match st.s0, st.s1, st.s2, st.s3, st.s4, st.s5, st.s6, st.s7 with
  | some a, some b, some c, some d, some e, some f, some g, some h => some ⟨a, b, c, d, e, f, g, h⟩
  | _, _, _, _, _, _, _, _ => none

/-! ## Sections by number -/

/-- Whether a section of two sets is the same. -/
def Hull.sameSec (a b : Hull) : Nat → Bool
  | 0 => a.s0 == b.s0
  | 1 => a.s1 == b.s1
  | 2 => a.s2 == b.s2
  | 3 => a.s3 == b.s3
  | 4 => a.s4 == b.s4
  | 5 => a.s5 == b.s5
  | 6 => a.s6 == b.s6
  | 7 => a.s7 == b.s7
  | _ => true

/-- Whether a stored section is good and holds what a set holds. -/
def StoredHull.holds (st : StoredHull) (h : Hull) : Nat → Bool
  | 0 => st.s0 == some h.s0
  | 1 => st.s1 == some h.s1
  | 2 => st.s2 == some h.s2
  | 3 => st.s3 == some h.s3
  | 4 => st.s4 == some h.s4
  | 5 => st.s5 == some h.s5
  | 6 => st.s6 == some h.s6
  | 7 => st.s7 == some h.s7
  | _ => true

/-- Whether a stored section is good. -/
def StoredHull.good (st : StoredHull) : Nat → Bool
  | 0 => st.s0.isSome
  | 1 => st.s1.isSome
  | 2 => st.s2.isSome
  | 3 => st.s3.isSome
  | 4 => st.s4.isSome
  | 5 => st.s5.isSome
  | 6 => st.s6.isSome
  | 7 => st.s7.isSome
  | _ => false

/-- Write one section of the store: the set's content with a good check, or a bad section (R180). -/
def StoredHull.write (st : StoredHull) (h : Hull) (verified : Bool) (n : Nat) : StoredHull :=
  match n with
  | 0 => { st with s0 := if verified then some h.s0 else none }
  | 1 => { st with s1 := if verified then some h.s1 else none }
  | 2 => { st with s2 := if verified then some h.s2 else none }
  | 3 => { st with s3 := if verified then some h.s3 else none }
  | 4 => { st with s4 := if verified then some h.s4 else none }
  | 5 => { st with s5 := if verified then some h.s5 else none }
  | 6 => { st with s6 := if verified then some h.s6 else none }
  | 7 => { st with s7 := if verified then some h.s7 else none }
  | _ => st

/-- Write several sections, each verified. -/
def StoredHull.writeAll (st : StoredHull) (h : Hull) (ns : List Nat) : StoredHull :=
  ns.foldl (fun st n => st.write h true n) st

/-- The store with the named sections gone bad (log 5). -/
def StoredHull.spoil (st : StoredHull) (bad : BitVec 8) : StoredHull :=
  { s0 := if bad.getLsbD 0 then none else st.s0, s1 := if bad.getLsbD 1 then none else st.s1
    s2 := if bad.getLsbD 2 then none else st.s2, s3 := if bad.getLsbD 3 then none else st.s3
    s4 := if bad.getLsbD 4 then none else st.s4, s5 := if bad.getLsbD 5 then none else st.s5
    s6 := if bad.getLsbD 6 then none else st.s6, s7 := if bad.getLsbD 7 then none else st.s7 }

/-- The sections 0..7. -/
def allSections : List Nat := [0, 1, 2, 3, 4, 5, 6, 7]

/-! ## Items by address (R179, R212) -/

/-- How many item kinds a section holds. -/
def itemKinds (sec : Nat) : Nat := [3, 2, 2, 2, 3, 3, 4, 4].getD sec 0

/-- Whether an index that is an enumeration (a mode, a criterion kind, a line) lies in its list (R210, log 11). -/
def ItemAddr.enumsGood (a : ItemAddr) : Bool :=
  match a.sec, a.item with
  | 6, 1 => decide (a.i < 2)
  | 6, 2 => decide (a.i < 2)
  | 6, 3 => decide (a.i < 11)
  | 7, 1 => decide (a.i < 4)
  | 7, 2 => decide (a.i < 11)
  | _, _ => true

/-- The address of an item, as HULL-WRITE and READ-HULL name it: section, item kind, two indices. A section or kind that
does not exist is MALFORMED, and so is an index outside its enumeration (R179, R194, R210). -/
def readItemAddr : Reader ItemAddr := do
  let sec ← readNat 1
  let item ← readNat 1
  let i ← readNat 1
  let j ← readNat 1
  require (decide (item < itemKinds sec) && (⟨sec, item, i, j⟩ : ItemAddr).enumsGood)
  pure ⟨sec, item, i, j⟩

/-- The value an index that is an enumeration names (log 11). -/
def indexIn {α : Type} (values : List α) (i : Nat) : Reader α :=
  match values[i]? with
  | some v => pure v
  | none => fun _ => none

/-- Section 0's items. -/
def readItem0 (a : ItemAddr) : Reader HullItem :=
  match a.item with
  | 0 => do
    let n ← readNat 1
    pure (.layout 0 n 0)
  | 1 => do
    let lpp ← readInt 4
    let m ← readInt 4
    let p ← readPos
    let d ← readInt 4
    let g ← readInt 4
    pure (.principal lpp m p d g)
  | _ => do
    let x ← readInt 3
    let m ← readInt 4
    let c ← readInt 3
    pure (.station a.i ⟨x, m, c⟩)

/-- Section 1's items. -/
def readItem1 (a : ItemAddr) : Reader HullItem :=
  match a.item with
  | 0 => do
    let n ← readNat 1
    pure (.layout 1 n 0)
  | _ => do
    let d ← readInt 4
    let t ← readInt 4
    let km ← readInt 4
    let lcb ← readInt 3
    let lcf ← readInt 3
    let mct ← readInt 4
    pure (.row a.i ⟨d, t, km, lcb, lcf, mct⟩)

/-- Section 2's items. -/
def readItem2 (a : ItemAddr) : Reader HullItem :=
  match a.item with
  | 0 => do
    let n ← readNat 1
    let r ← readNat 1
    pure (.layout 2 n r)
  | _ => do
    let f ← readInt 4
    let b ← readInt 3
    pure (.cell a.i a.j ⟨f, b⟩)

/-- Section 3's items. The characters of a space name are not judged (log 10). -/
def readItem3 (a : ItemAddr) : Reader HullItem :=
  match a.item with
  | 0 => do
    let n ← readNat 1
    pure (.layout 3 n 0)
  | _ => do
    let id ← readNat 1
    let name ← readBytes 8
    let xa ← readInt 3
    let xf ← readInt 3
    let yp ← readInt 3
    let ys ← readInt 3
    let z ← readInt 3
    let m ← readInt 4
    pure (.space a.i ⟨id, name, xa, xf, yp, ys, z, m⟩)

/-- Section 4's items. -/
def readItem4 (a : ItemAddr) : Reader HullItem :=
  match a.item with
  | 0 => do
    let n ← readNat 1
    pure (.layout 4 n 0)
  | 1 => do
    let cap ← readNat 3
    let lcg ← readInt 3
    let tcg ← readInt 3
    let half ← readNat 2
    let n ← readNat 1
    let co ← readInt 6
    pure (.tank a.i cap lcg tcg half n co)
  | _ => do
    let s ← readInt 4
    let v ← readNat 3
    let z ← readInt 3
    pure (.point a.i a.j ⟨s, v, z⟩)

/-- Section 5's items. -/
def readItem5 (a : ItemAddr) : Reader HullItem :=
  match a.item with
  | 0 => do
    let n ← readNat 1
    pure (.layout 5 n 0)
  | 1 => do
    let px ← readInt 3
    let py ← readInt 3
    let tare ← readNat 2
    let lift ← readNat 1
    let set ← readNat 1
    let tol ← readNat 1
    let n ← readNat 1
    let h ← readInt 3
    pure (.crane a.i px py tare lift set tol n h)
  | _ => do
    let r ← readInt 3
    let m ← readInt 4
    pure (.swl a.i a.j ⟨r, m⟩)

/-- Section 6's items. -/
def readItem6 (a : ItemAddr) : Reader HullItem :=
  match a.item with
  | 0 => do
    let n ← readNat 1
    pure (.layout 6 n 0)
  | 1 => do
    let m ← indexIn [Mode.harbour, Mode.sea] a.i
    let heel ← readInt 2
    let rel ← readInt 2
    let lo ← readInt 2
    let hi ← readInt 2
    let t ← readInt 4
    let g ← readInt 2
    pure (.limits m heel rel lo hi t g)
  | 2 => do
    let m ← indexIn [Mode.harbour, Mode.sea] a.i
    let s ← readInt 4
    let h ← readInt 4
    let g ← readInt 4
    pure (.stationLimits m a.j ⟨s, h, g⟩)
  | _ => do
    let n ← readInt 4
    let r ← readInt 4
    pure (.band a.i ⟨n, r⟩)

/-- Section 7's items. -/
def readItem7 (a : ItemAddr) : Reader HullItem :=
  match a.item with
  | 0 => do
    let b ← readBinding
    let e ← readFlag
    let c ← readChannelFields b e
    pure (.channel a.i c)
  | 1 => do
    let h ← indexIn allLines a.i
    let m ← readEnum [LineMode.follow, LineMode.latch]
    let d ← readFlag
    pure (.line h ⟨m, d⟩)
  | 2 => do
    let o ← readLineSet
    let n ← readLineSet
    pure (.masks a.i ⟨o, n⟩)
  | _ => do
    let p ← readNat 2
    let g ← readNat 1
    let d ← readNat 1
    pure (.settings p g d)

/-- The body of HULL-WRITE: an address and the item's content (R212). -/
def readHullItem : Reader HullItem := do
  let a ← readItemAddr
  match a.sec with
  | 0 => readItem0 a
  | 1 => readItem1 a
  | 2 => readItem2 a
  | 3 => readItem3 a
  | 4 => readItem4 a
  | 5 => readItem5 a
  | 6 => readItem6 a
  | _ => readItem7 a

/-- The section an item belongs to. -/
def HullItem.sec : HullItem → Nat
  | .layout sec _ _ => sec
  | .principal _ _ _ _ _ => 0
  | .station _ _ => 0
  | .row _ _ => 1
  | .cell _ _ _ => 2
  | .space _ _ => 3
  | .tank _ _ _ _ _ _ _ => 4
  | .point _ _ _ => 4
  | .crane _ _ _ _ _ _ _ _ _ => 5
  | .swl _ _ _ => 5
  | .limits _ _ _ _ _ _ _ => 6
  | .stationLimits _ _ _ => 6
  | .band _ _ => 6
  | .channel _ _ => 7
  | .line _ _ => 7
  | .masks _ _ => 7
  | .settings _ _ _ => 7

/-! ## Ranges (R174, R176) -/

/-- lo ≤ n ≤ hi for a count. -/
def countIn (lo hi n : Nat) : Bool := decide (lo ≤ n) && decide (n ≤ hi)

/-- The counts a LAYOUT may hold (R174). -/
def layoutRange (sec n rows : Nat) : Bool :=
  match sec with
  | 0 => countIn 2 12 n
  | 1 => countIn 2 48 n
  | 2 => countIn 2 12 n && countIn 2 48 rows
  | 3 => countIn 1 48 n
  | 4 => countIn 0 32 n
  | 5 => countIn 0 3 n
  | _ => countIn 2 12 n

/-- PRINCIPAL's ranges (R176). -/
def principalRange (lpp m : Int) (p : Pos) (dmax gmin : Int) : Bool :=
  within 20000 250000 lpp && within 1 2000000 m && p.inRange && within 1 41085821 dmax && within 1 5000 gmin

/-- A row's own ranges (R94). -/
def HydroRow.inRange (r : HydroRow) : Bool :=
  within 1 41085821 r.delta && within 0 80000 r.t && within 0 80000 r.km && xRange r.lcb && xRange r.lcf
    && within 1 2000000000 r.mct

/-- A cell's ranges (R100). -/
def BuoyCell.inRange (c : BuoyCell) : Bool := within 0 10000 c.f && xRange c.b

/-- A space's own ranges (R7). -/
def SpaceRec.inRange (r : SpaceRec) : Bool :=
  countIn 0 47 r.id && xRange r.xAft && xRange r.xFwd && yRange r.yPort && yRange r.yStbd && zRange r.zFloor
    && within 1 1000000 r.maxMass

/-- A tank's own ranges (R13). -/
def tankRange (cap lcg tcg half : Int) (points : Nat) (co : Int) : Bool :=
  within 1 5000000 cap && xRange lcg && yRange tcg && within 0 30000 half && countIn 2 16 points
    && within 0 2000000000 co

/-- A sounding point's ranges but for its volume's bound, which is the tank's capacity (R176, log 13). -/
def TankPoint.inRange (p : TankPoint) : Bool := channelRange p.sounding && decide (0 ≤ p.volume) && zRange p.vcg

/-- A crane's own ranges (R15). -/
def craneRange (px py tare lift set tol : Int) (points : Nat) (h : Int) : Bool :=
  xRange px && yRange py && within 0 1000 tare && within 50 100 lift && within 0 50 set && within 1 20 tol
    && countIn 1 8 points && zRange h

/-- An SWL point's ranges (R15). -/
def SwlPoint.inRange (p : SwlPoint) : Bool := within 0 150000 p.radius && within 0 1000000 p.swl

/-- A limit set's own ranges (R108). -/
def limitRange (heel rel lo hi t g : Int) : Bool :=
  within 1 10000 heel && within 1 10000 rel && within (-32000) 32000 lo && within (-32000) 32000 hi
    && within 1 80000 t && within 1 10000 g

/-- Station limits' ranges (R108). -/
def StationLimits.inRange (r : StationLimits) : Bool :=
  within 1 10000000 r.shear && within 1 10000000 r.hog && within 1 10000000 r.sag

/-- A band's ranges (R108). -/
def Band.inRange (b : Band) : Bool := within 0 10000000 b.n && within 0 10000000 b.r

/-- A channel's own fields, apart from the tests between fields (R65, R66). -/
def ChannelCfg.ownRange (c : ChannelCfg) : Bool :=
  countIn 1 32 c.al && channelRange c.min && channelRange c.max && countIn 20 10000 c.stale && countIn 1 255 c.rail
    && within 0 8388607 c.band && c.high.all channelRange && c.low.all channelRange
    && c.binding.all (fun b => match b.kind with
        | .sounding => countIn 0 31 b.target
        | .heel => true
        | _ => countIn 1 3 b.target)

/-- SETTINGS' ranges (R176). -/
def settingsRange (period guard depth : Nat) : Bool :=
  countIn 100 5000 period && countIn 0 32 guard && countIn 1 16 depth

/-- Each field of an item within its own range (R179). -/
def HullItem.inRange : HullItem → Bool
  | .layout sec n rows => layoutRange sec n rows
  | .principal lpp m p d g => principalRange lpp m p d g
  | .station _ r => decide (0 ≤ r.x) && xRange r.x && decide (0 ≤ r.aftMass) && xRange r.aftX
  | .row _ r => r.inRange
  | .cell _ _ c => c.inRange
  | .space _ r => r.inRange
  | .tank _ cap lcg tcg half n co => tankRange cap lcg tcg half n co
  | .point _ _ p => p.inRange
  | .crane _ px py tare lift set tol n h => craneRange px py tare lift set tol n h
  | .swl _ _ p => p.inRange
  | .limits _ heel rel lo hi t g => limitRange heel rel lo hi t g
  | .stationLimits _ _ r => r.inRange
  | .band _ b => b.inRange
  | .channel _ c => c.ownRange
  | .line _ _ => true
  | .masks _ _ => true
  | .settings p g d => settingsRange p g d

/-! ## Writing an item (R179) -/

/-- A list brought to a count: items beyond it leave, new ones take a default. -/
def resize {α : Type} (n : Nat) (new : α) (xs : List α) : List α := xs.take n ++ List.replicate (n - xs.length) new

/-- Replace the item at an index; none where it lies beyond the count. -/
def setAt {α : Type} (xs : List α) (i : Nat) (f : α → α) : Option (List α) :=
  if i < xs.length then some (xs.modify i f) else none

/-- The index of a crane number; one that no list reaches for 0. -/
def craneIndex (c : Nat) : Nat := if c = 0 then 255 else c - 1

/-- Write the counts of a section. -/
def Hull.putLayout (h : Hull) (sec n rows : Nat) : Hull :=
  match sec with
  | 0 => { h with s0 := { h.s0 with stations := resize n StationRec.zero h.s0.stations } }
  | 1 => { h with s1 := resize n HydroRow.zero h.s1 }
  | 2 => { h with s2 := { rows := rows, cells :=
      (resize n [] h.s2.cells).map (fun row => resize rows BuoyCell.zero row) } }
  | 3 => { h with s3 := resize n SpaceRec.zero h.s3 }
  | 4 => { h with s4 := resize n TankRec.zero h.s4 }
  | 5 => { h with s5 := resize n CraneRec.fresh h.s5 }
  | _ => { h with s6 := { h.s6 with
      harbour := { h.s6.harbour with stations := resize n StationLimits.zero h.s6.harbour.stations }
      sea := { h.s6.sea with stations := resize n StationLimits.zero h.s6.sea.stations } } }

/-- The limit set of a mode, changed. -/
def Sec6.modifyLimits (s : Sec6) (m : Mode) (f : LimitSet → LimitSet) : Sec6 :=
  match m with
  | .harbour => { s with harbour := f s.harbour }
  | .sea => { s with sea := f s.sea }

/-- The limit set of a mode, with one station's limits replaced. -/
def Sec6.putStation (s : Sec6) (m : Mode) (k : Nat) (r : StationLimits) : Option Sec6 :=
  let lim := match m with | .harbour => s.harbour | .sea => s.sea
  (setAt lim.stations k (fun _ => r)).map (fun xs => s.modifyLimits m (fun l => { l with stations := xs }))

/-- Replace an item of the working copy; none where its index lies beyond the count (R179). -/
def Hull.put (h : Hull) : HullItem → Option Hull
  | .layout sec n rows => some (h.putLayout sec n rows)
  | .principal lpp m p d g =>
    some { h with s0 := { h.s0 with lpp := lpp, lightMass := m, light := p, deltaMax := d, gmMin := g } }
  | .station k r => (setAt h.s0.stations k (fun _ => r)).map (fun xs => { h with s0 := { h.s0 with stations := xs } })
  | .row i r => (setAt h.s1 i (fun _ => r)).map (fun xs => { h with s1 := xs })
  | .cell k i c =>
    if i < h.s2.rows then
      (setAt h.s2.cells k (fun row => row.set i c)).map (fun xs => { h with s2 := { h.s2 with cells := xs } })
    else none
  | .space k r => (setAt h.s3 k (fun _ => r)).map (fun xs => { h with s3 := xs })
  | .tank k cap lcg tcg half n co =>
    (setAt h.s4 k (fun t => { capacity := cap, lcg := lcg, tcg := tcg, half := half
                              points := resize n TankPoint.zero t.points, coeff := co })).map
      (fun xs => { h with s4 := xs })
  | .point k j p =>
    if j < ((h.s4[k]?).map (·.points.length)).getD 0 then
      (setAt h.s4 k (fun t => { t with points := t.points.set j p })).map (fun xs => { h with s4 := xs })
    else none
  | .crane c px py tare lift set tol n z =>
    (setAt h.s5 (craneIndex c) (fun r =>
      { px := px, py := py, tare := tare, liftPct := lift, setPct := set, tolerance := tol
        swl := resize n SwlPoint.zero r.swl, height := z })).map (fun xs => { h with s5 := xs })
  | .swl c j p =>
    if j < ((h.s5[craneIndex c]?).map (·.swl.length)).getD 0 then
      (setAt h.s5 (craneIndex c) (fun r => { r with swl := r.swl.set j p })).map (fun xs => { h with s5 := xs })
    else none
  | .limits m heel rel lo hi t g =>
    some { h with s6 := h.s6.modifyLimits m (fun l =>
      { l with heel := heel, release := rel, trimMin := lo, trimMax := hi, tMax := t, agreement := g }) }
  | .stationLimits m k r => (h.s6.putStation m k r).map (fun s => { h with s6 := s })
  | .band k b => (setAt h.s6.bands k (fun _ => b)).map (fun xs => { h with s6 := { h.s6 with bands := xs } })
  | .channel k c => (setAt h.s7.channels k (fun _ => c)).map (fun xs => { h with s7 := { h.s7 with channels := xs } })
  | .line l c => some { h with s7 := { h.s7 with lines := h.s7.lines.set l c } }
  | .masks k m => (setAt h.s7.masks k (fun _ => m)).map (fun xs => { h with s7 := { h.s7 with masks := xs } })
  | .settings p g d => some { h with s7 := { h.s7 with period := p, guard := g, depth := d } }

/-! ## Reading an item (R194) -/

/-- An item's content in section 0. -/
def Sec0.content (s : Sec0) (a : ItemAddr) : Option (List Byte) :=
  match a.item with
  | 0 => some (be 1 s.stations.length)
  | 1 => some (beS 4 s.lpp ++ beS 4 s.lightMass ++ posBytes s.light ++ beS 4 s.deltaMax ++ beS 4 s.gmMin)
  | _ => (s.stations[a.i]?).map fun r => beS 3 r.x ++ beS 4 r.aftMass ++ beS 3 r.aftX

/-- An item's content in section 1. -/
def rowContent (s : List HydroRow) (a : ItemAddr) : Option (List Byte) :=
  match a.item with
  | 0 => some (be 1 s.length)
  | _ => (s[a.i]?).map fun r =>
      beS 4 r.delta ++ beS 4 r.t ++ beS 4 r.km ++ beS 3 r.lcb ++ beS 3 r.lcf ++ beS 4 r.mct

/-- An item's content in section 2. -/
def Sec2.content (s : Sec2) (a : ItemAddr) : Option (List Byte) :=
  match a.item with
  | 0 => some (be 1 s.cells.length ++ be 1 s.rows)
  | _ => (s.cells[a.i]?).bind fun row => (row[a.j]?).map fun c => beS 4 c.f ++ beS 3 c.b

/-- An item's content in section 3. -/
def spaceContent (s : List SpaceRec) (a : ItemAddr) : Option (List Byte) :=
  match a.item with
  | 0 => some (be 1 s.length)
  | _ => (s[a.i]?).map fun r =>
      be 1 r.id ++ r.name ++ beS 3 r.xAft ++ beS 3 r.xFwd ++ beS 3 r.yPort ++ beS 3 r.yStbd ++ beS 3 r.zFloor
        ++ beS 4 r.maxMass

/-- An item's content in section 4. -/
def tankContent (s : List TankRec) (a : ItemAddr) : Option (List Byte) :=
  match a.item with
  | 0 => some (be 1 s.length)
  | 1 => (s[a.i]?).map fun r =>
      beS 3 r.capacity ++ beS 3 r.lcg ++ beS 3 r.tcg ++ beS 2 r.half ++ be 1 r.points.length ++ beS 6 r.coeff
  | _ => (s[a.i]?).bind fun r => (r.points[a.j]?).map fun p => beS 4 p.sounding ++ beS 3 p.volume ++ beS 3 p.vcg

/-- An item's content in section 5. -/
def craneContent (s : List CraneRec) (a : ItemAddr) : Option (List Byte) :=
  match a.item with
  | 0 => some (be 1 s.length)
  | 1 => (nth1 s a.i).map fun r =>
      beS 3 r.px ++ beS 3 r.py ++ beS 2 r.tare ++ beS 1 r.liftPct ++ beS 1 r.setPct ++ beS 1 r.tolerance
        ++ be 1 r.swl.length ++ beS 3 r.height
  | _ => (nth1 s a.i).bind fun r => (r.swl[a.j]?).map fun p => beS 3 p.radius ++ beS 4 p.swl

/-- The limit set an index names (R179, log 11). -/
def Sec6.byIndex (s : Sec6) (i : Nat) : Option LimitSet := [s.harbour, s.sea][i]?

/-- An item's content in section 6. -/
def Sec6.content (s : Sec6) (a : ItemAddr) : Option (List Byte) :=
  match a.item with
  | 0 => some (be 1 s.harbour.stations.length)
  | 1 => (s.byIndex a.i).map fun l =>
      beS 2 l.heel ++ beS 2 l.release ++ beS 2 l.trimMin ++ beS 2 l.trimMax ++ beS 4 l.tMax ++ beS 2 l.agreement
  | 2 => (s.byIndex a.i).bind fun l => (l.stations[a.j]?).map fun r => beS 4 r.shear ++ beS 4 r.hog ++ beS 4 r.sag
  | _ => (s.bands[a.i]?).map fun b => beS 4 b.n ++ beS 4 b.r

/-- An item's content in section 7. -/
def Sec7.content (s : Sec7) (a : ItemAddr) : Option (List Byte) :=
  match a.item with
  | 0 => (s.channels[a.i]?).map fun c => bindingBytes c.binding ++ flagByte c.enable ++ channelFields c
  | 1 => (allLines[a.i]?).map fun h => be 1 (s.lines.get h).mode.num ++ flagByte (s.lines.get h).degraded
  | 2 => (s.masks[a.i]?).map fun m => lineSetByte m.overMask ++ lineSetByte m.nearMask
  | _ => some (be 2 s.period ++ be 1 s.guard ++ be 1 s.depth)

/-- The content of an item, none beyond a count (R194). -/
def Hull.content (h : Hull) (a : ItemAddr) : Option (List Byte) :=
  match a.sec with
  | 0 => h.s0.content a
  | 1 => rowContent h.s1 a
  | 2 => h.s2.content a
  | 3 => spaceContent h.s3 a
  | 4 => tankContent h.s4 a
  | 5 => craneContent h.s5 a
  | 6 => h.s6.content a
  | _ => h.s7.content a

/-! ## Validation (R176) -/

/-- A test of validation with the item it reports. -/
abbrev ItemTest := Bool × ItemAddr

/-- The item of the first failing test. -/
def firstFailure (tests : List ItemTest) : Option ItemAddr := (tests.find? (fun t => !t.1)).map (·.2)

/-- Whether a column ascends strictly up to an item: false where the item is not above the one before. -/
def ascendsAt (column : List Int) (i : Nat) : Bool :=
  match i with
  | 0 => true
  | j + 1 => decide (column.getD j 0 < column.getD (j + 1) 0)

/-- Section 0's tests. -/
def testSec0 (s : Sec0) : List ItemTest :=
  (countIn 2 12 s.stations.length, ⟨0, 0, 0, 0⟩)
    :: (principalRange s.lpp s.lightMass s.light s.deltaMax s.gmMin, ⟨0, 1, 0, 0⟩)
    :: (numbered 0 s.stations).map fun x =>
        (within 0 s.lpp x.2.x && ascendsAt (s.stations.map (·.x)) x.1 && within 0 s.lightMass x.2.aftMass
          && xRange x.2.aftX, ⟨0, 2, x.1, 0⟩)

/-- Section 1's tests. -/
def testSec1 (s : List HydroRow) : List ItemTest :=
  (countIn 2 48 s.length, ⟨1, 0, 0, 0⟩)
    :: (numbered 0 s).map fun x => (x.2.inRange && ascendsAt (s.map (·.delta)) x.1, ⟨1, 1, x.1, 0⟩)

/-- Section 2's tests. -/
def testSec2 (s : Sec2) : List ItemTest :=
  (countIn 2 12 s.cells.length && countIn 2 48 s.rows, ⟨2, 0, 0, 0⟩)
    :: ((numbered 0 s.cells).map fun r =>
        (numbered 0 r.2).map fun c => (c.2.inRange, (⟨2, 1, r.1, c.1⟩ : ItemAddr))).flatten

/-- Section 3's tests. -/
def testSec3 (s : List SpaceRec) : List ItemTest :=
  (countIn 1 48 s.length, ⟨3, 0, 0, 0⟩)
    :: (numbered 0 s).map fun x =>
        (x.2.inRange && !((s.take x.1).any (fun r => r.id == x.2.id)) && decide (x.2.xAft < x.2.xFwd)
          && decide (x.2.yPort < x.2.yStbd), ⟨3, 1, x.1, 0⟩)

/-- The tests of one tank: its record, then its points. -/
def testTank (k : Nat) (r : TankRec) : List ItemTest :=
  (tankRange r.capacity r.lcg r.tcg r.half r.points.length r.coeff && xRange (r.lcg - r.half) && xRange (r.lcg + r.half),
    ⟨4, 1, k, 0⟩)
    :: (numbered 0 r.points).map fun p =>
        (p.2.inRange && decide (p.2.volume ≤ r.capacity) && ascendsAt (r.points.map (·.sounding)) p.1
          && ascendsAt (r.points.map (·.volume)) p.1, ⟨4, 2, k, p.1⟩)

/-- Section 4's tests. -/
def testSec4 (s : List TankRec) : List ItemTest :=
  (countIn 0 32 s.length, ⟨4, 0, 0, 0⟩) :: ((numbered 0 s).map fun x => testTank x.1 x.2).flatten

/-- The tests of one crane: its record, then its SWL points. -/
def testCrane (c : Nat) (r : CraneRec) : List ItemTest :=
  (craneRange r.px r.py r.tare r.liftPct r.setPct r.tolerance r.swl.length r.height, ⟨5, 1, c, 0⟩)
    :: (numbered 0 r.swl).map fun p =>
        (p.2.inRange && ascendsAt (r.swl.map (·.radius)) p.1, ⟨5, 2, c, p.1⟩)

/-- Section 5's tests. -/
def testSec5 (s : List CraneRec) : List ItemTest :=
  (countIn 0 3 s.length, ⟨5, 0, 0, 0⟩) :: ((numbered 1 s).map fun x => testCrane x.1 x.2).flatten

/-- The tests of one limit set. -/
def testLimits (m : Nat) (l : LimitSet) : List ItemTest :=
  (limitRange l.heel l.release l.trimMin l.trimMax l.tMax l.agreement && decide (l.trimMin < l.trimMax), ⟨6, 1, m, 0⟩)
    :: (numbered 0 l.stations).map fun x => (x.2.inRange, ⟨6, 2, m, x.1⟩)

/-- Section 6's tests. -/
def testSec6 (s : Sec6) : List ItemTest :=
  (countIn 2 12 s.harbour.stations.length, ⟨6, 0, 0, 0⟩) :: testLimits 0 s.harbour ++ testLimits 1 s.sea
    ++ (numbered 0 s.bands).map (fun x => (x.2.inRange, ⟨6, 3, x.1, 0⟩))

/-- One channel's tests: its fields, its binding's target, no earlier channel with the same binding (R176). -/
def testChannel (known : Binding → Bool) (s : Sec7) (k : Nat) (c : ChannelCfg) : Bool :=
  c.inRange && c.binding.all known
    && !(c.binding.isSome && ((s.channels.take k).any (fun d => d.binding == c.binding)))
    && (c.binding.isSome || !c.enable)

/-- Section 7's tests, the targets of bindings judged by `known`. -/
def testSec7 (known : Binding → Bool) (s : Sec7) : List ItemTest :=
  (numbered 0 s.channels).map (fun x => (testChannel known s x.1 x.2, (⟨7, 0, x.1, 0⟩ : ItemAddr)))
    ++ [(settingsRange s.period s.guard s.depth, ⟨7, 3, 0, 0⟩)]

/-- Section 2 has section 0's stations (R176). A failure is reported as section 2's LAYOUT (log 44). -/
def testStations2 (s0 : Sec0) (s2 : Sec2) : List ItemTest := [(s2.cells.length == s0.stations.length, ⟨2, 0, 0, 0⟩)]

/-- Section 6 has section 0's stations in both sets (R176). A failure is reported as section 6's LAYOUT (log 44). -/
def testStations6 (s0 : Sec0) (s6 : Sec6) : List ItemTest :=
  [(s6.harbour.stations.length == s0.stations.length && s6.sea.stations.length == s0.stations.length, ⟨6, 0, 0, 0⟩)]

/-- Section 2 has section 1's rows (R176). A failure is reported as section 2's LAYOUT (log 44). -/
def testRows (s1 : List HydroRow) (s2 : Sec2) : List ItemTest :=
  [(s2.rows == s1.length && s2.cells.all (fun r => r.length == s2.rows), ⟨2, 0, 0, 0⟩)]

/-- Every test of a full set, in order (R176): section by section, within a section item by item with all tests of an
item together (log 44), then across sections. -/
def allTests (h : Hull) : List ItemTest :=
  testSec0 h.s0 ++ testSec1 h.s1 ++ testSec2 h.s2 ++ testSec3 h.s3 ++ testSec4 h.s4 ++ testSec5 h.s5 ++ testSec6 h.s6
    ++ testSec7 (fun b => b.exists h.s5 h.s4) h.s7
    ++ testStations2 h.s0 h.s2 ++ testStations6 h.s0 h.s6 ++ testRows h.s1 h.s2

/-- Validation of a full set: the first failing item, or none (R176). -/
def validate (h : Hull) : Option ItemAddr := firstFailure (allTests h)

/-- Tests on one section, none where it reads bad. -/
def testsOn {α : Type} (sec : Option α) (tests : α → List ItemTest) : List ItemTest :=
  match sec with
  | none => []
  | some x => tests x

/-- Whether a binding's target is known, taking it as known where the section that would hold it reads bad. -/
def StoredHull.known (st : StoredHull) (b : Binding) : Bool :=
  match b.kind, st.s5, st.s4 with
  | .sounding, _, none => true
  | .sounding, _, some tanks => decide (b.target < tanks.length)
  | .heel, _, _ => true
  | _, none, _ => true
  | _, some cranes, _ => (nth1 cranes b.target).isSome

/-- The first validation failure at start-up: the sections that read good are validated, and a test that needs two
sections is made where both are good (R175). -/
def StoredHull.failure (st : StoredHull) : Option ItemAddr :=
  firstFailure (testsOn st.s0 testSec0 ++ testsOn st.s1 testSec1 ++ testsOn st.s2 testSec2 ++ testsOn st.s3 testSec3
    ++ testsOn st.s4 testSec4 ++ testsOn st.s5 testSec5 ++ testsOn st.s6 testSec6
    ++ testsOn st.s7 (testSec7 st.known)
    ++ testsOn st.s0 (fun s0 => testsOn st.s2 (testStations2 s0))
    ++ testsOn st.s0 (fun s0 => testsOn st.s6 (testStations6 s0))
    ++ testsOn st.s1 (fun s1 => testsOn st.s2 (testRows s1)))

end Sys2Proof.Machine
end

