-- ==== Sys2Proof/Machine/Archive.lean ====
section
/-! DEFINITION. The Store Controller's jobs on slots, marks and the identity record, RELEASE-TRIAL and ADOPT, and the
reads of the store (R182 to R194). -/

namespace Sys2Proof.Machine

/-! ## Jobs (R183, R188) -/

/-- Raise an ARCHIVE notice, forced to the planning link where it tells of an ADOPT (R188, R204). -/
def archiveNotice (job : JobKind) (target : Option Target) (code : Code) (check : Option (Option Quantity))
    (s : State) : State :=
  raiseNotice (fun l => job == .adopt && forcedPlanning l)
    (.archive { job := job, target := target, code := code, check := check, writeError := s.store.writeError
                owner := s.owner, version := s.version }) s

/-- A waiting ADOPT is cancelled with its notice (R187). -/
def cancelAdopt (s : State) : State :=
  if s.store.waitingAdopt then
    archiveNotice .adopt none .refusedState none { s with store := { s.store with waitingAdopt := false } }
  else s

/-- A job begins: BUSY, the write-error mark cleared (R183). -/
def startJob (j : Job) (s : State) : State := { s with store := { s.store with job := some j, writeError := false } }

/-- The write-error mark is set by a failed read-back. -/
def markWriteError (failed : Bool) (s : State) : State :=
  if failed then { s with store := { s.store with writeError := true } } else s

/-- A job ends: IDLE with its outcome recorded, the answer given, the ARCHIVE notice raised (R183, R188). `restart`
marks the answer of R181. -/
def endJobWith (restart : Bool) (kind : JobKind) (target : Option Target) (code : Code)
    (check : Option (Option Quantity)) (body : List Byte) (s : State) : State :=
  let s1 := { s with store := { s.store with
    job := none, lastJob := some { kind := kind, target := target, code := code } } }
  archiveNotice kind target code check (answerOwed false code body restart s1)

/-- A job other than the last write of R181 ends. -/
def endJob (kind : JobKind) (target : Option Target) (code : Code) (check : Option (Option Quantity))
    (body : List Byte) (s : State) : State := endJobWith false kind target code check body s

/-- TRIAL with its owner; EMPTY discards the contents (R4). -/
def setTrial (owner : Owner) (a : Area) (s : State) : State := { s with owner := owner, trial := a }

/-- TRIAL becomes EMPTY. -/
def emptyTrial (s : State) : State := setTrial .empty Area.empty s

/-- A run in progress is abandoned: the outcome becomes ABANDONED and a SEQUENCE notice goes to the selecting links
(R144, R170, R171). -/
def abandonLook (s : State) : State :=
  match s.sched.run with
  | none => s
  | some _ =>
    let s1 := { s with sched := { s.sched with run := none }, look := { s.look with outcome := .abandoned } }
    raiseNotice forcedNone (s1.sequenceNotice false) s1

/-- RUN or CONFIG (R184 and the job rules after it). -/
def State.serves (s : State) : Bool := s.device == .run || s.device == .config

/-- A slot number; one above 15 is MALFORMED (R183). -/
def readSlot : Reader Nat := do
  let n ← readNat 1
  require (decide (n < 16))
  pure n

/-! ## Slots and the directory (R182) -/

/-- The directory entry of a slot as it stands. -/
def Slot.entry : Slot → DirEntry
  | .empty => .empty
  | .bad => .invalid
  | .good image ref => .valid (ref.map (·.stations.length)) image.lots.length image.version image.serial

/-- Write a slot and its directory entry. -/
def putSlot (n : Nat) (v : Slot) (s : State) : State :=
  { s with store := { s.store with slots := s.store.slots.set n v, directory := s.store.directory.set n v.entry } }

/-- A slot's directory entry alone, as at the start of a write. -/
def putEntry (n : Nat) (e : DirEntry) (s : State) : State :=
  { s with store := { s.store with directory := s.store.directory.set n e } }

/-- Whether a slot's lock mark is set. -/
def State.slotLocked (s : State) (n : Nat) : Bool := s.store.lockSlots.getD n false

/-! ## SAVE (R184) -/

/-- A lot as an image takes it: STOWED at its position, a SLUNG one ABOARD at its resting position (R184). -/
def Lot.imaged (l : Lot) : Option Lot :=
  match l.state, l.resting, l.place with
  | .stowed, _, some p => some (l.toStowed p)
  | .slung, some .aboard, some p => some (l.toStowed p)
  | _, _, _ => none

/-- The image of an area (R182, R184). -/
def imageOf (a : Area) (version : Version) (serial : Nat) : Image :=
  { lots := a.lots.filterMap Lot.imaged, constants := a.constants, tanks := a.tanks, mode := a.mode, version := version
    serial := serial }

/-- SAVE (R184). -/
def saveAct (_ : Link) (n : Nat) (s : State) : State × Reply :=
  if !s.serves then (s, refuse .refusedState)
  else if s.store.job.isSome then (s, refuse .busy)
  else if s.slotLocked n then (s, refuse .locked)
  else if s.owner = .recalled then (s, refuse .refusedState)
  else (putEntry n .invalid (startJob (.save n s.version s.serial) (setTrial .archive s.live (abandonLook s))),
        .owed false)

/-- SAVE (R184). -/
def execSave (t : Nat) (l : Link) (s : State) : Host.Outcome State Fault Refusal :=
  .next (request 27 readSlot planningOnly saveAct t l s)

/-- The identification an answer gives: number of lots, condition version, serial (R184, R185). -/
def imageBytes (i : Image) : List Byte := be 2 i.lots.length ++ verBytes i.version ++ be 2 i.serial

/-- SAVE_END (R184). -/
def execSaveEnd (t : Nat) (verified : Bool) (s : State) : Host.Outcome State Fault Refusal :=
  .next (match s.store.job with
    | some (.save n version serial) =>
      let s0 := atTime t s
      let image := imageOf s0.trial version serial
      let s1 := emptyTrial (markWriteError (!verified) (putSlot n (if verified then .good image none else .bad) s0))
      settle (endJob .save (some (.slot n)) (if verified then .done else .slotInvalid) none
        (if verified then imageBytes image else []) s1)
    | _ => s)

/-! ## RECALL (R185) -/

/-- Whether an image fits the sections in force (R185). -/
def Image.fitsHull (i : Image) (spaces : List SpaceRec) (tanks : List TankRec) : Bool :=
  i.lots.all (fun l => l.place.any (fun p => fits spaces l.half p))
    && (numbered 0 i.tanks).all (fun k =>
        match tanks[k.1]? with
        | some r => within 0 r.capacity k.2.volume
        | none => k.2.volume == 0)

/-- A planned stow kept where its space exists and holds its position (R20, R185). -/
def keepStow (spaces : List SpaceRec) (l : Lot) : Lot :=
  match l.planned with
  | none => l
  | some p =>
    match spaceOf spaces p.space with
    | none => { l with planned := none }
    | some r => if r.holdsPos p.pos then l else { l with planned := none }

/-- A tank of the image as TRIAL takes it: STATED where no SOUNDING channel is bound, or where all are (R4, R189). -/
def takeTank (chs : List Channel) (allStated : Bool) (k : Nat) (t : TankState) : TankState :=
  if allStated || !gaugeBound chs k then { t with source := .stated } else t

/-- An image as an area (R185). -/
def loadImage (i : Image) (spaces : List SpaceRec) (tanks : List TankRec) (cranes : List CraneRec) (chs : List Channel)
    (allStated : Bool) : Area :=
  { constants := i.constants, mode := i.mode
    lots := i.lots.map (keepStow spaces)
    tanks := (numbered 0 tanks).map (fun k => takeTank chs allStated k.1 (i.tanks.getD k.1 ⟨.stated, 0, 1025⟩))
    cranes := cranes.map (fun c => { height := c.height, attached := none }) }

/-- RECALL (R185). TRIAL is ARCHIVE from here on, without contents until the read ends (R4, log 43). -/
def recallAct (_ : Link) (n : Nat) (s : State) : State × Reply :=
  if !s.serves then (s, refuse .refusedState)
  else if s.store.job.isSome then (s, refuse .busy)
  else if s.owner = .recalled then (s, refuse .refusedState)
  else (startJob (.recall n) (setTrial .archive Area.empty (abandonLook s)), .owed false)

/-- RECALL (R185). -/
def execRecall (t : Nat) (l : Link) (s : State) : Host.Outcome State Fault Refusal :=
  .next (request 28 readSlot planningOnly recallAct t l s)

/-- How a slot was found (R185): unusable with a code, or an image that fits with its reference. -/
def judgeSlot (n : Nat) (s : State) : Except Code (Image × Option Reference) :=
  match s.store.slots.getD n .bad with
  | .empty => .error .unknownItem
  | .bad => .error .slotInvalid
  | .good image ref => if image.fitsHull s.spaces s.tanks then .ok (image, ref) else .error .slotInvalid

/-- The read of a slot: a failed check finds it bad from then on (R185, log 5). -/
def readSlotContent (n : Nat) (checkGood : Bool) (s : State) : State :=
  putSlot n (if checkGood then s.store.slots.getD n .bad else .bad) s

/-- RECALL_READ_END (R185). -/
def execRecallReadEnd (t : Nat) (checkGood : Bool) (s : State) : Host.Outcome State Fault Refusal :=
  .next (match s.store.job with
    | some (.recall n) =>
      let s1 := readSlotContent n checkGood (atTime t s)
      settle (match judgeSlot n s1 with
        | .error c => endJob .recall (some (.slot n)) c none [] (emptyTrial s1)
        | .ok (image, ref) =>
          endJob .recall (some (.slot n)) .done none (imageBytes image ++ flagByte ref.isSome)
            (setTrial .recalled (loadImage image s1.spaces s1.tanks s1.cranes s1.bank.channels false) s1))
    | _ => s)

/-! ## SELF-CHECK (R189) -/

/-- SELF-CHECK (R189). TRIAL is ARCHIVE from here on, without contents until the read ends (R4, log 43). -/
def selfCheckAct (_ : Link) (n : Nat) (s : State) : State × Reply :=
  if !s.serves then (s, refuse .refusedState)
  else if s.store.job.isSome then (s, refuse .busy)
  else (cancelAdopt (startJob (.selfCheck n none) (setTrial .archive Area.empty (abandonLook s))), .owed false)

/-- SELF_CHECK (R189). -/
def execSelfCheck (t : Nat) (l : Link) (s : State) : Host.Outcome State Fault Refusal :=
  .next (request 29 readSlot planningOnly selfCheckAct t l s)

/-- The stations of section 0 in force. -/
def State.stationCount (s : State) : Nat := match s.hull with | none => 0 | some h => h.s0.stations.length

/-- SELF_CHECK_READ_END (R189): the image goes into TRIAL and self-check waiting is set, or the job ends. -/
def execSelfCheckReadEnd (t : Nat) (checkGood : Bool) (s : State) : Host.Outcome State Fault Refusal :=
  .next (match s.store.job with
    | some (.selfCheck n none) =>
      let s1 := readSlotContent n checkGood (atTime t s)
      let fail (c : Code) : State := settle (endJob .selfCheck (some (.slot n)) c none [] (emptyTrial s1))
      match judgeSlot n s1 with
      | .error c => fail c
      | .ok (_, none) => fail .refusedState
      | .ok (image, some ref) =>
        if ref.stations.length ≠ s1.stationCount then fail .refusedState
        else
          let a := loadImage image s1.spaces s1.tanks s1.cranes s1.bank.channels true
          let s2 := setTrial .archive a { s1 with store := { s1.store with job := some (.selfCheck n (some ref)) } }
          settle { s2 with sched := { s2.sched with selfCheckWaiting := true } }
    | _ => s)

/-- One comparison of a self-check (R189). -/
structure Comparison where
  quantity : Quantity
  station : Option Nat
  computed : Int
  reference : Int
  within : Bool
deriving DecidableEq, Repr

/-- A comparison with a fixed tolerance. -/
def compareWith (q : Quantity) (tolerance computed reference : Int) : Comparison :=
  ⟨q, none, computed, reference, decide (absDiff computed reference ≤ tolerance)⟩

/-- A comparison of a station's figure with a hundredth of its limit. -/
def compareStation (q : Quantity) (k : Nat) (limit computed reference : Int) : Comparison :=
  ⟨q, some k, computed, reference, decide (absDiff computed reference * 100 ≤ limit)⟩

/-- The comparisons of a self-check in order (R189). -/
def comparisons (lim : LimitSet) (r : Result) (ref : Reference) : List Comparison :=
  let rows := numbered 0 (lim.stations.zip (r.strength.zip ref.stations))
  [ compareWith .delta 2 r.delta ref.delta, compareWith .lcg 5 r.lcg ref.lcg, compareWith .tcg 5 r.tcg ref.tcg
  , compareWith .kgc 5 r.kgc ref.kgc, compareWith .gm 5 r.gm ref.gm, compareWith .trim 5 r.trim ref.trim ]
    ++ rows.map (fun x => compareStation .sf x.1 x.2.1.shear x.2.2.1.sf x.2.2.2.sf)
    ++ rows.map (fun x => compareStation .bm x.1 (min x.2.1.hog x.2.1.sag) x.2.2.1.bm x.2.2.2.bm)

/-- The first quantity out of tolerance. -/
def firstOut (cs : List Comparison) : Option CheckFailure :=
  (cs.find? (fun c => !c.within)).map fun c => ⟨c.quantity, c.station, c.computed, c.reference⟩

/-- The answer of a self-check: PASS 0 or FAIL 1, the failure, the level and worst kind (R189). The two values take 4
bytes whatever the quantity, trim included, and the station counts from 0 (log 11, log 46). -/
def selfCheckAnswer (f : Option CheckFailure) (level : Level × Option CritKind) : List Byte :=
  flagByte f.isSome
    ++ optField 11 (f.map fun f =>
        be 1 f.quantity.num ++ optField 1 (f.station.map (be 1)) ++ beS 4 f.computed ++ beS 4 f.reference)
    ++ be 1 level.1.num ++ optField 1 (level.2.map fun k => be 1 k.num)

/-- The job ends with its evaluation (R189). -/
def endSelfCheck (h : Hull) (r : Result) (s : State) : State :=
  match s.store.job with
  | some (.selfCheck n (some ref)) =>
    let f := firstOut (comparisons (h.s6.limits r.mode) r ref)
    endJob .selfCheck (some (.slot n)) .done (some (f.map (·.quantity))) (selfCheckAnswer f (judgeLevel h r))
      (emptyTrial s)
  | _ => s

/-! ## REFERENCE-WRITE (R190) -/

/-- One station of a reference. -/
def readRefStation : Reader RefStation := do
  let sf ← readInt 4
  let bm ← readInt 4
  pure ⟨sf, bm⟩

/-- The form, a reference 0 or its removal 1, then the slot, then a reference's fields (R190, R212, log 10). -/
def readReference : Reader (Nat × Option Reference) := do
  let remove ← readFlag
  let n ← readSlot
  if remove then pure (n, none)
  else do
    let d ← readInt 4
    let lcg ← readInt 4
    let tcg ← readInt 4
    let kgc ← readInt 4
    let gm ← readInt 4
    let trim ← readInt 2
    let k ← readNat 1
    let st ← readMany readRefStation k
    pure (n, some ⟨d, lcg, tcg, kgc, gm, trim, st⟩)

/-- Check 6 of R190. -/
def Reference.inRange (r : Reference) : Bool := countIn 2 12 r.stations.length && within 1 41085821 r.delta

/-- REFERENCE-WRITE (R190). -/
def referenceWriteAct (_ : Link) (q : Nat × Option Reference) (s : State) : State × Reply :=
  if s.device ≠ .config then (s, refuse .refusedState)
  else if s.store.job.isSome then (s, refuse .busy)
  else if s.slotLocked q.1 then (s, refuse .locked)
  else match s.store.directory.getD q.1 .empty with
    | .empty => (s, refuse .unknownItem)
    | .invalid => (s, refuse .slotInvalid)
    | .valid _ _ _ _ =>
      if !(q.2.all Reference.inRange) then (s, refuse .refusedRange)
      else (putEntry q.1 .invalid (startJob (.referenceWrite q.1 q.2) s), .owed false)

/-- REFERENCE_WRITE (R190). -/
def execReferenceWrite (t : Nat) (l : Link) (s : State) : Host.Outcome State Fault Refusal :=
  .next (request 30 readReference planningOnly referenceWriteAct t l s)

/-- A slot rewritten with its image and another reference. -/
def Slot.withRef (v : Slot) (ref : Option Reference) : Slot :=
  match v with
  | .good image _ => .good image ref
  | other => other

/-- REFERENCE_WRITE_END (R190). -/
def execReferenceWriteEnd (t : Nat) (verified : Bool) (s : State) : Host.Outcome State Fault Refusal :=
  .next (match s.store.job with
    | some (.referenceWrite n ref) =>
      let v := if verified then (s.store.slots.getD n .bad).withRef ref else .bad
      settle (endJob .referenceWrite (some (.slot n)) (if verified then .done else .slotInvalid) none []
        (markWriteError (!verified) (putSlot n v (atTime t s))))
    | _ => s)

/-! ## LOCK and FREEZE (R191, R192) -/

/-- A section (kind 0) or a slot (kind 1) with its number (log 10). A slot number above 15 is MALFORMED (R183); a section
number, whatever its byte holds, is judged when the request is taken (R210, log 42). -/
def readTarget : Reader Target := do
  let slot ← readFlag
  if slot then Target.slot <$> readSlot else Target.sec <$> readNat 1

/-- Whether the store holds a lock mark for a target (R191); for a slot it does, its number having passed `readSlot`. -/
def Target.hasMark : Target → Bool
  | .slot _ => true
  | .sec n => decide (n < 8)

/-- Whether a target's lock mark is set. -/
def State.locked (s : State) : Target → Bool
  | .slot n => s.store.lockSlots.getD n false
  | .sec n => s.store.lockSections.getD n false

/-- Set a target's lock mark. -/
def setLock (t : Target) (s : State) : State :=
  match t with
  | .slot n => { s with store := { s.store with lockSlots := s.store.lockSlots.set n true } }
  | .sec n => { s with store := { s.store with lockSections := s.store.lockSections.set n true } }

/-- Whether a section's working copy differs from its section in force. -/
def State.edited (s : State) (n : Nat) : Bool :=
  match s.working, s.hull with
  | some w, some h => !w.sameSec h n
  | _, _ => false

/-- Check 4 of R191. -/
def State.lockBlocked (s : State) (t : Target) : Bool :=
  match t with
  | .slot _ => false
  | .sec n => s.device == .config && s.edited n

/-- LOCK (R191). A section that does not exist passes R191's checks and is then UNKNOWN-ITEM (log 42). -/
def lockAct (_ : Link) (q : Target) (s : State) : State × Reply :=
  if !s.serves then (s, refuse .refusedState)
  else if s.locked q then (s, .answer .done [])
  else if s.store.frozen then (s, refuse .frozen)
  else if s.store.job.isSome then (s, refuse .busy)
  else if s.lockBlocked q then (s, refuse .refusedState)
  else if !q.hasMark then (s, refuse .unknownItem)
  else (startJob (.lock q) s, .owed false)

/-- LOCK (R191). -/
def execLock (t : Nat) (l : Link) (s : State) : Host.Outcome State Fault Refusal :=
  .next (request 31 readTarget planningOnly lockAct t l s)

/-- LOCK_END (R191). -/
def execLockEnd (t : Nat) (verified : Bool) (s : State) : Host.Outcome State Fault Refusal :=
  .next (match s.store.job with
    | some (.lock q) =>
      let s1 := atTime t s
      let s2 := if verified then setLock q s1 else markWriteError true s1
      settle (endJob .lock (some q) (if verified then .done else .refusedState) none [] s2)
    | _ => s)

/-- FREEZE (R192). -/
def freezeAct (_ : Link) (_ : Unit) (s : State) : State × Reply :=
  if !s.serves then (s, refuse .refusedState)
  else if s.store.frozen then (s, refuse .frozen)
  else if s.store.job.isSome then (s, refuse .busy)
  else (startJob .freeze s, .owed false)

/-- FREEZE (R192). -/
def execFreeze (t : Nat) (l : Link) (s : State) : Host.Outcome State Fault Refusal :=
  .next (request 32 noFields planningOnly freezeAct t l s)

/-- FREEZE_END (R192). -/
def execFreezeEnd (t : Nat) (verified : Bool) (s : State) : Host.Outcome State Fault Refusal :=
  .next (match s.store.job with
    | some .freeze =>
      let s1 := atTime t s
      let s2 := if verified then { s1 with store := { s1.store with frozen := true } } else markWriteError true s1
      settle (endJob .freeze none (if verified then .done else .refusedState) none [] s2)
    | _ => s)

/-! ## IDENTITY-WRITE (R193) -/

/-- A text of up to `n` characters: its length, then `n` places (R210). -/
def readText (n : Nat) : Reader (List Byte) := do
  let k ← readNat 1
  let cs ← readBytes n
  require (decide (1 ≤ k) && decide (k ≤ n))
  pure (cs.take k)

/-- The fields of IDENTITY-WRITE (R193). The hull number is 8 characters without a length (log 46). -/
def readIdentityFields : Reader Identity := do
  let name ← readText 32
  let hull ← readBytes 8
  let ref ← readText 24
  let y ← readNat 2
  let m ← readNat 1
  let d ← readNat 1
  pure ⟨name, hull, ref, y, m, d⟩

/-- Days of a month, February by the rule of R193. -/
def monthDays (year month : Nat) : Nat :=
  match month with
  | 1 => 31 | 2 => if year % 4 = 0 then 29 else 28 | 3 => 31 | 4 => 30 | 5 => 31 | 6 => 30 | 7 => 31 | 8 => 31
  | 9 => 30 | 10 => 31 | 11 => 30 | 12 => 31 | _ => 0

/-- A printable character (R210). -/
def printable (b : Byte) : Bool := countIn 32 126 b.toNat

/-- Check 4 of R193. -/
def Identity.inRange (i : Identity) : Bool :=
  i.name.all printable && i.approval.all printable && i.hullNumber.all (fun b => countIn 48 57 b.toNat)
    && countIn 2000 2099 i.year && countIn 1 (monthDays i.year i.month) i.day

/-- IDENTITY-WRITE (R193). -/
def identityWriteAct (_ : Link) (i : Identity) (s : State) : State × Reply :=
  if !s.serves then (s, refuse .refusedState)
  else if s.store.identity.isSome then (s, refuse .alreadyWritten)
  else if s.store.job.isSome then (s, refuse .busy)
  else if !i.inRange then (s, refuse .refusedRange)
  else (startJob (.identityWrite i) s, .owed false)

/-- IDENTITY_WRITE (R193). -/
def execIdentityWrite (t : Nat) (l : Link) (s : State) : Host.Outcome State Fault Refusal :=
  .next (request 33 readIdentityFields planningOnly identityWriteAct t l s)

/-- IDENTITY_WRITE_END (R193). -/
def execIdentityWriteEnd (t : Nat) (verified : Bool) (s : State) : Host.Outcome State Fault Refusal :=
  .next (match s.store.job with
    | some (.identityWrite i) =>
      let s1 := atTime t s
      let s2 := if verified then { s1 with store := { s1.store with identity := some i } } else markWriteError true s1
      settle (endJob .identityWrite none (if verified then .done else .refusedState) none [] s2)
    | _ => s)

/-! ## RELEASE-TRIAL and ADOPT (R186, R187) -/

/-- TRIAL leaves RECALLED for EMPTY, a waiting ADOPT being cancelled; nothing in any other owner state (R3, R187). -/
def releaseRecalled (s : State) : State := if s.owner = .recalled then cancelAdopt (emptyTrial s) else s

/-- RELEASE-TRIAL (R186). -/
def releaseTrialAct (_ : Link) (_ : Unit) (s : State) : State × Reply := (releaseRecalled s, .answer .done [])

/-- RELEASE_TRIAL (R186). -/
def execReleaseTrial (t : Nat) (l : Link) (s : State) : Host.Outcome State Fault Refusal :=
  .next (request 34 noFields planningOnly releaseTrialAct t l s)

/-- ADOPT (R187). -/
def adoptAct (_ : Link) (_ : Unit) (s : State) : State × Reply :=
  if !s.serves then (s, refuse .refusedState)
  else if s.owner ≠ .recalled then (s, refuse .refusedState)
  else if s.ring.entries ≠ [] then (s, refuse .refusedState)
  else if s.store.waitingAdopt then (s, .answer .done [])
  else (raiseLive .adopt { s with store := { s.store with waitingAdopt := true } }, .answer .done [])

/-- ADOPT (R187). -/
def execAdopt (t : Nat) (l : Link) (s : State) : Host.Outcome State Fault Refusal :=
  .next (request 35 noFields planningOnly adoptAct t l s)

/-- LIVE after an ADOPT (R187): TRIAL's lots, constants, tanks and mode; crane heights kept. -/
def adoptedArea (live trial : Area) (chs : List Channel) : Area :=
  { constants := trial.constants, lots := trial.lots, mode := trial.mode, cranes := live.cranes
    tanks := (numbered 0 trial.tanks).map (fun k => takeTank chs false k.1 k.2) }

/-- A waiting ADOPT at the live snapshot: checked again, then applied or refused (R187, step 1 of R138). -/
def applyAdopt (s : State) : State :=
  if !s.store.waitingAdopt then s
  else
    let s1 := { s with store := { s.store with waitingAdopt := false } }
    if s.live.anyInHand || !s.ring.entries.isEmpty then archiveNotice .adopt none .refusedState none s1
    else
      archiveNotice .adopt none .done none
        (emptyTrial (bumpVersion { s1 with live := adoptedArea s.live s.trial s.bank.channels }))

/-! ## Reading the store (R194) -/

/-- A job's kind and target. -/
def Job.kind : Job → JobKind
  | .save _ _ _ => .save
  | .recall _ => .recall
  | .selfCheck _ _ => .selfCheck
  | .referenceWrite _ _ => .referenceWrite
  | .lock _ => .lock
  | .freeze => .freeze
  | .identityWrite _ => .identityWrite
  | .leaveConfig _ => .leaveConfig

/-- The slot or section of a running job; for LEAVE-CONFIG the first section it writes (log 17). -/
def Job.target : Job → Option Target
  | .save n _ _ => some (.slot n)
  | .recall n => some (.slot n)
  | .selfCheck n _ => some (.slot n)
  | .referenceWrite n _ => some (.slot n)
  | .lock q => some q
  | .freeze => none
  | .identityWrite _ => none
  | .leaveConfig ns => ns.head?.map .sec

/-- A set of sections as one byte, bit n section n (R210, log 45). -/
def sectionSet (ns : List Nat) : List Byte := be 1 (ns.foldl (fun m n => m + 2 ^ n) 0)

/-- Whether a section's working copy differs from the section as start-up read it (R194); one that read bad always does
(log 47). -/
def State.repaired (s : State) (n : Nat) : Bool :=
  match s.working, s.store.startRecord with
  | some w, some r => !r.asRead.holds w n
  | _, _ => false

/-- One section of READ-STORE. -/
def sectionAnswer (s : State) (n : Nat) : List Byte :=
  flagByte (!s.store.sections.good n)
    ++ optField 1 (if s.device = .config then some (flagByte (s.edited n)) else none)
    ++ optField 1 (if s.device = .hullFault then some (flagByte (s.repaired n)) else none)

/-- What start-up recorded, in HULL-FAULT (R175, R194). -/
def startBytes (s : State) : List Byte :=
  optField 6 (match s.device, s.store.startRecord with
    | .hullFault, some r =>
      some (sectionSet (allSections.filter (fun n => !r.asRead.good n)) ++ optField 4 (r.failure.map itemBytes))
    | _, _ => none)

/-- READ-STORE (R194). The 24 lock marks are 24 flags, sections first, and bad sections a set byte (log 45). -/
def readStoreAct (_ : Link) (_ : Unit) (s : State) : State × Reply :=
  (s, .answer .done
    (be 1 s.device.num ++ flagByte s.store.job.isSome
      ++ optField 4 (s.store.job.map fun j => be 1 j.kind.num ++ targetBytes j.target)
      ++ optField 5 (s.store.lastJob.map fun j => be 1 j.kind.num ++ targetBytes j.target ++ be 1 j.code.num)
      ++ flagByte s.store.writeError ++ flagByte s.store.frozen
      ++ (s.store.lockSections.map flagByte).flatten ++ (s.store.lockSlots.map flagByte).flatten
      ++ (allSections.map (sectionAnswer s)).flatten ++ startBytes s
      ++ flagByte s.store.waitingAdopt ++ be 1 s.owner.num))

/-- READ_STORE (R194). -/
def execReadStore (t : Nat) (l : Link) (s : State) : Host.Outcome State Fault Refusal :=
  .next (request 36 noFields anyLink readStoreAct t l s)

/-- A directory entry in an answer: VALID 0, EMPTY 1, INVALID 2, its other fields 0 unless VALID (log 16). -/
def DirEntry.bytes : DirEntry → List Byte
  | .empty => be 1 1 ++ List.replicate 10 0
  | .invalid => be 1 2 ++ List.replicate 10 0
  | .valid ref lots version serial =>
    be 1 0 ++ optField 1 (ref.map (be 1)) ++ be 2 lots ++ verBytes version ++ be 2 serial

/-- READ-ARCHIVE (R194). -/
def readArchiveAct (_ : Link) (_ : Unit) (s : State) : State × Reply :=
  (s, .answer .done
    ((s.store.directory.zip s.store.lockSlots).map (fun e => e.1.bytes ++ flagByte e.2)).flatten)

/-- READ_ARCHIVE (R194). -/
def execReadArchive (t : Nat) (l : Link) (s : State) : Host.Outcome State Fault Refusal :=
  .next (request 37 noFields anyLink readArchiveAct t l s)

/-- A text field: its length, then its places, those beyond it 32 (R210). -/
def textBytes (n : Nat) (cs : List Byte) : List Byte := be 1 cs.length ++ resize n 32#8 cs

/-- READ-IDENTITY (R194). -/
def readIdentityAct (_ : Link) (_ : Unit) (s : State) : State × Reply :=
  (s, .answer .done
    (optField 70 (s.store.identity.map fun i =>
        textBytes 32 i.name ++ i.hullNumber ++ textBytes 24 i.approval ++ be 2 i.year ++ be 1 i.month ++ be 1 i.day)
      ++ s.store.factorySerial))

/-- READ_IDENTITY (R194). -/
def execReadIdentity (t : Nat) (l : Link) (s : State) : Host.Outcome State Fault Refusal :=
  .next (request 38 noFields anyLink readIdentityAct t l s)

end Sys2Proof.Machine
end

