-- ==== Sys2Proof/Machine/Sets.lean ====
section
/-! DEFINITION. The Change-Set Stager: messages, open sets and the ready list, and the trying of a set against LIVE
at a snapshot (R22 to R39). -/

namespace Sys2Proof.Machine

/-! ## The message (R22, R213) -/

/-- A change-set message. -/
structure SetMessage where
  tag : Nat
  final : Bool
  edits : List Edit
deriving DecidableEq, Repr

/-- LOT-ENTER's fields. -/
def readLotEnter : Reader Edit := do
  let id ← readLotId
  let m ← readNat 2
  let h ← readNat 2
  let p ← readOpt readPlace
  let g ← readOpt (readBytes 8)
  pure (.lotEnter id m h p g)

/-- LOT-AMEND's fields: the selection names at least one of four (R22, R213). -/
def readLotAmend : Reader Edit := do
  let id ← readLotId
  let sel ← readByte
  require (decide (1 ≤ sel.toNat) && decide (sel.toNat < 16))
  let m ← readNat 2
  let h ← readNat 2
  let p ← readOpt readPlace
  let g ← readOpt (readBytes 8)
  pure (.lotAmend id (if sel.getLsbD 0 then some m else none) (if sel.getLsbD 1 then some h else none)
    (if sel.getLsbD 2 then some p else none) (if sel.getLsbD 3 then some g else none))

/-- LOT-PLACE's fields; without the position flag the block is disregarded (R22). -/
def readLotPlace : Reader Edit := do
  let id ← readLotId
  let p ← readOpt readPlace
  pure (.lotPlace id p)

/-- One edit: its kind, then its fields (R213). A kind outside the table is MALFORMED. -/
def readEdit : Reader Edit := do
  let kind ← readNat 1
  match kind with
  | 1 => readLotEnter
  | 2 => readLotAmend
  | 3 => do
    let id ← readLotId
    pure (.lotDrop id)
  | 4 => do
    let slot ← readNat 1
    let m ← readNat 2
    let p ← readPos
    pure (.constSet slot m p)
  | 5 => do
    let m ← readEnum [Mode.harbour, Mode.sea]
    pure (.modeSet m)
  | 6 => readLotPlace
  | 7 => do
    let id ← readLotId
    pure (.lotRemove id)
  | 8 => do
    let id ← readLotId
    let p ← readPlace
    pure (.lotShift id p)
  | 9 => do
    let c ← readNat 1
    let h ← readInt 3
    pure (.craneHeight c h)
  | 10 => do
    let k ← readNat 1
    let v ← readNat 3
    pure (.tankState k v)
  | 11 => do
    let k ← readNat 1
    let d ← readNat 2
    pure (.tankDensity k d)
  | 12 => do
    let k ← readNat 1
    let src ← readEnum [TankSource.stated, TankSource.gauged]
    pure (.tankSource k src)
  | _ => fun _ => none

/-- The body of a change-set message (R213). -/
def readSetMessage : Reader SetMessage := do
  let tag ← readNat 1
  require (tag != 0)
  let final ← readFlag
  let n ← readNat 1
  require (decide (1 ≤ n) && decide (n ≤ 16))
  let edits ← readMany readEdit n
  pure ⟨tag, final, edits⟩

/-- The link that holds the right to an edit kind (R23). -/
def Edit.owner : Edit → Link
  | .lotEnter _ _ _ _ _ => .planning
  | .lotAmend _ _ _ _ _ => .planning
  | .lotDrop _ => .planning
  | .constSet _ _ _ => .planning
  | .modeSet _ => .planning
  | .lotPlace _ _ => .deck
  | .lotRemove _ => .deck
  | .lotShift _ _ => .deck
  | .craneHeight _ _ => .deck
  | .tankState _ _ => .ballast
  | .tankDensity _ _ => .ballast
  | .tankSource _ _ => .ballast

/-- The number of an edit kind (R210). -/
def Edit.num : Edit → Nat
  | .lotEnter _ _ _ _ _ => 1
  | .lotAmend _ _ _ _ _ => 2
  | .lotDrop _ => 3
  | .constSet _ _ _ => 4
  | .modeSet _ => 5
  | .lotPlace _ _ => 6
  | .lotRemove _ => 7
  | .lotShift _ _ => 8
  | .craneHeight _ _ => 9
  | .tankState _ _ => 10
  | .tankDensity _ _ => 11
  | .tankSource _ _ => 12

/-- The item an edit names (R37). -/
def Edit.item : Edit → Option Nat
  | .lotEnter id _ _ _ _ => some id
  | .lotAmend id _ _ _ _ => some id
  | .lotDrop id => some id
  | .constSet slot _ _ => some slot
  | .modeSet _ => none
  | .lotPlace id _ => some id
  | .lotRemove id => some id
  | .lotShift id _ => some id
  | .craneHeight c _ => some c
  | .tankState k _ => some k
  | .tankDensity k _ => some k
  | .tankSource k _ => some k

/-- The lot an edit names. -/
def Edit.lot? : Edit → Option Nat
  | .lotEnter id _ _ _ _ => some id
  | .lotAmend id _ _ _ _ => some id
  | .lotDrop id => some id
  | .lotPlace id _ => some id
  | .lotRemove id => some id
  | .lotShift id _ => some id
  | _ => none

/-- A message all of whose edits belong to its link (R23). -/
def setRight (l : Link) (m : SetMessage) : Bool := m.edits.all (fun e => e.owner == l)

/-! ## Staging (R24 to R28) -/

/-- An open set of a link by its tag (R25). -/
def LinkSets.find (q : LinkSets) (tag : Nat) : Option OpenSet :=
  match q.open1, q.open2 with
  | some a, some b => if a.tag = tag then some a else if b.tag = tag then some b else none
  | some a, none => if a.tag = tag then some a else none
  | none, some b => if b.tag = tag then some b else none
  | none, none => none

/-- Empty the slot of a tag. -/
def LinkSets.drop (q : LinkSets) (tag : Nat) : LinkSets :=
  { q with open1 := q.open1.filter (fun o => o.tag != tag), open2 := q.open2.filter (fun o => o.tag != tag) }

/-- Replace the edits of an open set. -/
def LinkSets.put (q : LinkSets) (o : OpenSet) : LinkSets :=
  { q with open1 := q.open1.map (fun x => if x.tag = o.tag then o else x)
           open2 := q.open2.map (fun x => if x.tag = o.tag then o else x) }

/-- Open a set in an empty slot; none where both are occupied (R25, R26). -/
def LinkSets.openNew (q : LinkSets) (o : OpenSet) : Option LinkSets :=
  match q.open1, q.open2 with
  | none, _ => some { q with open1 := some o }
  | some _, none => some { q with open2 := some o }
  | some _, some _ => none

/-- The STAGED answer (R24); the set tag and the place in the ready list are 1 byte each (log 46). -/
def stagedAnswer (tag edits : Nat) (place : Option Nat) : Reply :=
  .answer .staged (be 1 tag ++ be 1 edits ++ optField 1 (place.map (be 1)))

/-- A closing message (R27). -/
def closeSet (l : Link) (m : SetMessage) (s : State) : State × Reply :=
  let q := s.sets.get l
  let held := match q.find m.tag with | none => [] | some o => o.edits
  let edits := held ++ m.edits
  if Config.maxSetEdits < edits.length ∨ Config.maxReady ≤ s.ready.length then (s, refuse .full)
  else
    (raiseLive .change
      { s with ready := s.ready ++ [{ link := l, tag := m.tag, edits := edits }], sets := s.sets.set l (q.drop m.tag) },
     stagedAnswer m.tag edits.length (some (s.ready.length + 1)))

/-- A message that opens or continues a set (R25, R26). -/
def holdSet (l : Link) (m : SetMessage) (s : State) : State × Reply :=
  let q := s.sets.get l
  match q.find m.tag with
  | some o =>
    let edits := o.edits ++ m.edits
    if Config.maxSetEdits < edits.length then (s, refuse .full)
    else ({ s with sets := s.sets.set l (q.put { o with edits := edits }) }, stagedAnswer m.tag edits.length none)
  | none =>
    match q.openNew { tag := m.tag, edits := m.edits } with
    | none => (s, refuse .full)
    | some q' => ({ s with sets := s.sets.set l q' }, stagedAnswer m.tag m.edits.length none)

/-- A change-set message (R24). -/
def changeSetAct (l : Link) (m : SetMessage) (s : State) : State × Reply :=
  if s.device = .hullFault then (s, refuse .refusedState)
  else if m.final then closeSet l m s
  else holdSet l m s

/-- CHANGE_SET_MESSAGE (R24). -/
def execChangeSetMessage (t : Nat) (l : Link) (s : State) : Host.Outcome State Fault Refusal :=
  .next (request 1 readSetMessage setRight changeSetAct t l s)

/-! ## READ-SETS (R39) -/

/-- READ-SETS (R39); a set tag is 1 byte (log 46). -/
def readSetsAct (l : Link) (_ : Unit) (s : State) : State × Reply :=
  let q := s.sets.get l
  let slot (o : Option OpenSet) : List Byte := optField 2 (o.map fun o => be 1 o.tag ++ be 1 o.edits.length)
  (s, .answer .done
    (slot q.open1 ++ slot q.open2
      ++ listField (s.ready.map fun r => be 1 (linkNum r.link) ++ be 1 r.tag ++ be 1 r.edits.length)
      ++ listField (q.outcomes.map outcomeBytes) ++ verBytes s.version))

/-- READ_SETS (R39). -/
def execReadSets (t : Nat) (l : Link) (s : State) : Host.Outcome State Fault Refusal :=
  .next (request 2 noFields anyLink readSetsAct t l s)

/-! ## Trying an edit (R30 to R35) -/

/-- What an edit is checked against besides LIVE: the hull data in force and the channel bindings (R29). -/
structure EditEnv where
  spaces : List SpaceRec
  tanks : List TankRec
  cranes : List CraneRec
  channels : List Channel
deriving DecidableEq, Repr

/-- What a set changes: LIVE's items and the ring (R34). -/
structure EditState where
  area : Area
  ring : Ring
deriving DecidableEq, Repr

/-- Whether a planned stow that is given names a known space (R31, R32). -/
def stowKnown (env : EditEnv) (p : Option Place) : Bool :=
  match p with
  | none => true
  | some p => (spaceOf env.spaces p.space).isSome

/-- Whether a planned stow that is given passes R7. -/
def stowFits (env : EditEnv) (half : Int) (p : Option Place) : Bool :=
  match p with
  | none => true
  | some p => fits env.spaces half p

/-- Declared mass and half-length in range (R31). -/
def lotFigures (declared half : Int) : Bool := within 1 20000 declared && within 0 30000 half

/-- LOT-ENTER (R31). -/
def tryEnter (env : EditEnv) (w : EditState) (id : Nat) (declared half : Int) (planned : Option Place)
    (tag : Option (List Byte)) : Except Code EditState :=
  if (w.area.findLot id).isSome then .error .refusedState
  else if !stowKnown env planned then .error .unknownItem
  else if !(lotFigures declared half && stowFits env half planned) then .error .refusedRange
  else if Config.maxLots ≤ w.area.lots.length then .error .full
  else
    .ok { w with area := { w.area with lots := w.area.lots ++
      [{ id := id, declared := declared, measured := none, half := half, state := .planned, place := none,
         planned := planned, crane := none, resting := none, dest := none, discrepancy := false, tag := tag }] } }

/-- A STOWED lot's span inside its space (R32); other lots have no span. -/
def stowedSpan (env : EditEnv) (lot : Lot) (half : Int) : Bool :=
  match lot.state, lot.place with
  | .stowed, some p =>
    match spaceOf env.spaces p.space with
    | none => false
    | some r => r.holdsSpan half p.pos
  | _, _ => true

/-- The record a LOT-AMEND leaves (R11, R32). -/
def Lot.amend (lot : Lot) (declared half : Option Int) (planned : Option (Option Place))
    (tag : Option (Option (List Byte))) : Lot :=
  let d := declared.getD lot.declared
  { lot with
    declared := d, half := half.getD lot.half, planned := planned.getD lot.planned, tag := tag.getD lot.tag
    measured := if d = lot.declared then lot.measured else none
    discrepancy := if d = lot.declared then lot.discrepancy else false }

/-- LOT-AMEND (R32). -/
def tryAmend (env : EditEnv) (w : EditState) (id : Nat) (declared half : Option Int) (planned : Option (Option Place))
    (tag : Option (Option (List Byte))) : Except Code EditState :=
  match w.area.findLot id with
  | none => .error .unknownItem
  | some lot =>
    let h := half.getD lot.half
    if !stowKnown env (planned.getD none) then .error .unknownItem
    else if lot.state = .slung ∨ lot.state = .lifted then .error .refusedState
    else if !(declared.all (within 1 20000) && half.all (within 0 30000) && stowFits env h (planned.getD none)
        && stowedSpan env lot h) then .error .refusedRange
    else .ok { w with area := w.area.putLot (lot.amend declared half planned tag) }

/-- LOT-DROP (R33). -/
def tryDrop (w : EditState) (id : Nat) : Except Code EditState :=
  match w.area.findLot id with
  | none => .error .unknownItem
  | some lot =>
    if lot.state ≠ .planned then .error .refusedState
    else .ok { area := w.area.freeLot id, ring := w.ring.withdrawLot id }

/-- A lot put down at a place (R34): its steps complete as reaching STOWED. -/
def EditState.stow (w : EditState) (lot : Lot) (p : Place) : EditState :=
  { area := w.area.putLot (lot.toStowed p), ring := w.ring.completeLot lot.id (some p.space) }

/-- LOT-PLACE (R34). -/
def tryPlace (env : EditEnv) (w : EditState) (id : Nat) (place : Option Place) : Except Code EditState :=
  match w.area.findLot id with
  | none => .error .unknownItem
  | some lot =>
    if !stowKnown env place then .error .unknownItem
    else if lot.state ≠ .planned then .error .refusedState
    else match place.or lot.planned with
      | none => .error .refusedState
      | some p => if fits env.spaces lot.half p then .ok (w.stow lot p) else .error .refusedRange

/-- LOT-REMOVE (R34). -/
def tryRemove (w : EditState) (id : Nat) : Except Code EditState :=
  match w.area.findLot id with
  | none => .error .unknownItem
  | some lot =>
    if lot.state ≠ .stowed then .error .refusedState
    else .ok { area := w.area.freeLot id, ring := w.ring.completeLot id none }

/-- LOT-SHIFT (R34). -/
def tryShift (env : EditEnv) (w : EditState) (id : Nat) (p : Place) : Except Code EditState :=
  match w.area.findLot id with
  | none => .error .unknownItem
  | some lot =>
    if !stowKnown env (some p) then .error .unknownItem
    else if lot.state ≠ .stowed then .error .refusedState
    else if fits env.spaces lot.half p then .ok (w.stow lot p) else .error .refusedRange

/-- CONST-SET (R6, R35). -/
def tryConst (w : EditState) (slot : Nat) (mass : Int) (pos : Pos) : Except Code EditState :=
  if 15 < slot then .error .unknownItem
  else if !(within 0 20000 mass && pos.inRange) then .error .refusedRange
  else .ok { w with area := { w.area with constants := w.area.constants.set slot ⟨mass, pos⟩ } }

/-- CRANE-HEIGHT (R15, R35). -/
def tryHeight (env : EditEnv) (w : EditState) (crane : Nat) (height : Int) : Except Code EditState :=
  if (nth1 env.cranes crane).isNone then .error .unknownItem
  else if !within 0 80000 height then .error .refusedRange
  else .ok { w with area := { w.area with
    cranes := w.area.cranes.modify (crane - 1) (fun c => { c with height := height }) } }

/-- Write one tank's contents. -/
def Area.modifyTank (a : Area) (tank : Nat) (f : TankState → TankState) : Area :=
  { a with tanks := a.tanks.modify tank f }

/-- Whether a tank of an area is STATED. -/
def Area.tankStated (a : Area) (tank : Nat) : Bool :=
  match a.tanks[tank]? with
  | none => false
  | some k => k.source == .stated

/-- TANK-STATE (R13, R35). -/
def tryTankState (env : EditEnv) (w : EditState) (tank : Nat) (v : Int) : Except Code EditState :=
  match env.tanks[tank]? with
  | none => .error .unknownItem
  | some r =>
    if !w.area.tankStated tank then .error .refusedState
    else if !within 0 r.capacity v then .error .refusedRange
    else .ok { w with area := w.area.modifyTank tank (fun k => { k with volume := v }) }

/-- TANK-DENSITY (R13, R35). -/
def tryDensity (env : EditEnv) (w : EditState) (tank : Nat) (d : Int) : Except Code EditState :=
  if env.tanks[tank]?.isNone then .error .unknownItem
  else if !within 600 2100 d then .error .refusedRange
  else .ok { w with area := w.area.modifyTank tank (fun k => { k with density := d }) }

/-- TANK-SOURCE (R14, R35). -/
def trySource (env : EditEnv) (w : EditState) (tank : Nat) (src : TankSource) : Except Code EditState :=
  if env.tanks[tank]?.isNone then .error .unknownItem
  else if src = .gauged ∧ gaugeBound env.channels tank = false then .error .refusedState
  else .ok { w with area := w.area.modifyTank tank (fun k => { k with source := src }) }

/-- Try one edit (R30). -/
def tryEdit (env : EditEnv) (w : EditState) (e : Edit) : Except Code EditState :=
  match e with
  | .lotEnter id m h p g => tryEnter env w id m h p g
  | .lotAmend id m h p g => tryAmend env w id m h p g
  | .lotDrop id => tryDrop w id
  | .constSet slot m p => tryConst w slot m p
  | .modeSet m => .ok { w with area := { w.area with mode := m } }
  | .lotPlace id p => tryPlace env w id p
  | .lotRemove id => tryRemove w id
  | .lotShift id p => tryShift env w id p
  | .craneHeight c h => tryHeight env w c h
  | .tankState k v => tryTankState env w k v
  | .tankDensity k d => tryDensity env w k d
  | .tankSource k src => trySource env w k src

/-- The lot tag a failure reports: that of LOT-ENTER, else of the lot it names (R37, log 31). -/
def failureTag (w : EditState) (e : Edit) : Option (List Byte) :=
  let held := (e.lot?.bind w.area.findLot).bind (·.tag)
  match e with
  | .lotEnter _ _ _ _ (some g) => some g
  | _ => held

/-- Try the edits of a set in order, the first counted `i`; the first invalid one stops it (R29). -/
def tryEdits (env : EditEnv) : Nat → EditState → List Edit → Except (Code × SetFailure) EditState
  | _, w, [] => .ok w
  | i, w, e :: es =>
    match tryEdit env w e with
    | .error c => .error (c, { index := i, kind := e.num, item := e.item, tag := failureTag w e })
    | .ok w' => tryEdits env (i + 1) w' es

/-! ## Application at the snapshot (R29, R37, R38) -/

/-- What the edits are checked against. -/
def State.editEnv (s : State) : EditEnv :=
  { spaces := s.spaces, tanks := s.tanks, cranes := s.cranes, channels := s.bank.channels }

/-- Report a set that was tried: SET-DONE to its link alone, the outcome record, the sets counter (R37, R38). -/
def reportSet (l : Link) (o : SetOutcome) (s : State) : State :=
  let q := s.sets.get l
  let s1 := { s with sets := s.sets.set l { q with outcomes := (o :: q.outcomes).take Config.maxOutcomes } }
  let s2 := modifyLiu l (fun u =>
    { u with summary :=
        if o.code = .done then { u.summary with applied := bump u.summary.applied }
        else { u.summary with refusedSets := bump u.summary.refusedSets } }) s1
  raiseAt l (.setDone o) s2

/-- Try one set against LIVE: applied whole with one version increment, or refused whole (R29). -/
def applySet (r : ReadySet) (s : State) : State :=
  match tryEdits s.editEnv 0 { area := s.live, ring := s.ring } r.edits with
  | .ok w =>
    let s1 := bumpVersion { s with live := w.area, ring := w.ring }
    reportSet r.link { tag := r.tag, edits := r.edits.length, code := .done, failure := none, version := s1.version } s1
  | .error f =>
    reportSet r.link
      { tag := r.tag, edits := r.edits.length, code := f.1, failure := some f.2, version := s.version } s

/-- The ready list is handed over whole and becomes empty (R29, R138). -/
def applyReady (s : State) : State := s.ready.foldl (fun s r => applySet r s) { s with ready := [] }

end Sys2Proof.Machine
end

