-- ==== Sys2Proof/Machine/Scheduling.lean ====
section
/-! DEFINITION. The Evaluation Scheduler: the grant, the live snapshot, self-check and look-ahead snapshots, the three
completions, EVALUATE-NOW and READ-SCHEDULER (R76, R84, R85, R133 to R148, R164 to R170). -/

namespace Sys2Proof.Machine

/-! ## The freeze (R76, R77) -/

/-- The value of the channel bound to a kind and target, held unless it is LIVE; 0 and fresh where none is bound. -/
def freezeChannel (chs : List Channel) (kind : ChanKind) (target : Nat) : Frozen :=
  match boundChannel chs kind target with
  | none => { value := 0, held := false, channel := none }
  | some c => { value := c.2.value, held := c.2.state != .live, channel := some c.1 }

/-- The net load of a crane at the freeze: 0 where no HOOK channel is bound (R47). -/
def freezeNet (chs : List Channel) (crane : Nat) (rec : CraneRec) : Frozen :=
  match boundChannel chs .hook crane with
  | none => { value := 0, held := false, channel := none }
  | some c => { value := netLoad rec.tare c.2.value, held := c.2.state != .live, channel := some c.1 }

/-- The crane terms of a live snapshot (R85). -/
def freezeCranes (chs : List Channel) (cranes : List CraneRec) : List CraneTerm :=
  (numbered 1 cranes).map fun c =>
    { net := freezeNet chs c.1 c.2, l := freezeChannel chs .reachL c.1, t := freezeChannel chs .reachT c.1 }

/-- The soundings of the GAUGED tanks of an area (R76). -/
def freezeSoundings (chs : List Channel) (a : Area) : List (Option Frozen) :=
  (numbered 0 a.tanks).map fun k =>
    if k.2.source = .gauged then some (freezeChannel chs .sounding k.1) else none

/-- The observed heel: the HEEL channel where bound and enabled (R76). -/
def freezeHeel (chs : List Channel) : Option Frozen :=
  match boundChannel chs .heel 0 with
  | none => none
  | some c => if c.2.cfg.enable then some (freezeChannel chs .heel 0) else none

/-! ## The live grant (R138) -/

/-- The snapshot of a live evaluation over LIVE as it stands (R85). -/
def State.liveSnapshot (s : State) (h : Hull) : Snapshot :=
  { source := .live, ident := some { version := s.version, causes := s.sched.causes }
    area := s.live, hull := h, cranes := freezeCranes s.bank.channels h.s5
    soundings := freezeSoundings s.bank.channels s.live, heel := freezeHeel s.bank.channels }

/-- A run in progress gives way (R142, log 21). -/
def suspendRun (s : State) : State :=
  { s with sched := { s.sched with run := s.sched.run.map (fun r => { r with suspended := true }) } }

/-- The grant of a live evaluation: ADOPT, ready sets, freeze, copy; the mark cleared and the timer restarted. -/
def grantLive (h : Hull) (s : State) : State :=
  let s1 := applyReady (applyAdopt (suspendRun s))
  { s1 with
    unit := some (Computing.granted .live (s1.liveSnapshot h))
    sched := { s1.sched with livePending := false, causes := 0, periodic := some (s1.now + h.s7.period) } }

/-! ## The self-check grant (R140, R189) -/

/-- A supplied value, fresh and from no channel. -/
def supplied (v : Int) : Frozen := { value := v, held := false, channel := none }

/-- A crane that carries nothing. -/
def CraneTerm.zero : CraneTerm := { net := supplied 0, l := supplied 0, t := supplied 0 }

/-- The grant of a self-check evaluation over TRIAL. -/
def grantSelfCheck (h : Hull) (s : State) : State :=
  let s1 := suspendRun s
  { s1 with
    unit := some (Computing.granted .selfCheck
      { source := .trial, ident := none, area := s1.trial, hull := h
        cranes := h.s5.map (fun _ => CraneTerm.zero), soundings := [], heel := none })
    sched := { s1.sched with selfCheckWaiting := false } }

/-! ## Look-ahead runs (R141, R164 to R168) -/

/-- A lot of the base: one in hand is settled at its destination, or freed ashore (R164). -/
def settleLot (l : Lot) : Option Lot :=
  if l.state = .slung ∨ l.state = .lifted then
    match l.dest with
    | some (.aboard p) => some (l.toStowed p)
    | _ => none
  else some l

/-- The base of a run: LIVE with every lift landed and every crane free (R164). -/
def baseArea (live : Area) : Area :=
  { live with lots := live.lots.filterMap settleLot, cranes := live.cranes.map (fun c => { c with attached := none }) }

/-- The lots in hand in LIVE at the base (R165). -/
def Area.inHand (a : Area) : List Nat :=
  (a.lots.filter (fun l => l.state == .slung || l.state == .lifted)).map (·.id)

/-- The stages one lot entry gives. -/
def lotStages (step lot : Nat) (d : Dest) : Option StepCrane → List Stage
  | none => [.stowed step lot d]
  | some c => [.inHand step lot c d, .stowed step lot d]

/-- The walk of R165: `depth` PENDING entries from the head, tracking the lots TRIAL would hold. -/
def walk (skip : List Nat) : Nat → List Nat → List Step → List Stage
  | 0, _, _ => []
  | _, _, [] => []
  | depth + 1, present, e :: es =>
    if e.status ≠ .pending then walk skip (depth + 1) present es
    else match e.work with
      | .ballast tank v => .ballast e.id tank v :: walk skip depth present es
      | .lot lot d c =>
        if skip.contains lot || !present.contains lot then walk skip depth present es
        else
          lotStages e.id lot d c
            ++ walk skip depth (if d = .ashore then present.filter (· != lot) else present) es

/-- The stages of a run fixed from the ring (R165). -/
def State.fixStages (s : State) : List Stage :=
  walk s.live.inHand s.ring.depth ((baseArea s.live).lots.map (·.id)) s.ring.entries

/-- A crane's pairing with a lot removed (R167). -/
def Area.unpair (a : Area) (lot : Nat) : Area :=
  { a with cranes := a.cranes.map (fun c => if c.attached = some lot then { c with attached := none } else c) }

/-- A lot hanging on a crane (R166). -/
def Lot.toInHand (l : Lot) (crane : Nat) (d : Dest) : Lot :=
  { l with state := .lifted, place := none, resting := none, crane := some crane, dest := some d }

/-- TRIAL as a stage's changes leave it (R166, R167). -/
def Stage.apply (a : Area) : Stage → Area
  | .inHand _ lot c d =>
    match a.findLot lot with
    | none => a
    | some l => (a.putLot (l.toInHand c.crane d)).setAttached c.crane (some lot)
  | .stowed _ lot .ashore => (a.freeLot lot).unpair lot
  | .stowed _ lot (.aboard p) =>
    match a.findLot lot with
    | none => a
    | some l => (a.putLot (l.toStowed p)).unpair lot
  | .ballast _ tank v => a.modifyTank tank (fun k => { k with source := .stated, volume := v })

/-- The crane term a stage supplies for one crane (R168). -/
def Stage.craneTerm (a : Area) (crane : Nat) : Stage → CraneTerm
  | .inHand _ lot c _ =>
    if c.crane = crane then
      { net := supplied (((a.findLot lot).map Lot.massUsed).getD 0), l := supplied c.l, t := supplied c.t }
    else CraneTerm.zero
  | _ => CraneTerm.zero

/-- The snapshot of a stage over TRIAL as the stage leaves it (R168). -/
def Stage.snapshot (st : Stage) (a : Area) (h : Hull) (soundings : List (Option Frozen)) : Snapshot :=
  { source := .trial, ident := none, area := a, hull := h
    cranes := (numbered 1 h.s5).map (fun c => st.craneTerm a c.1), soundings := soundings, heel := none }

/-- The grant of stage `k`, counted from 1; the next stage is `k + 1`, whatever the number of stages (R141, R143,
log 39). -/
def grantStage (h : Hull) (r : Run) (k : Nat) (st : Stage) (s : State) : State :=
  let a := st.apply s.trial
  { s with
    trial := a
    unit := some (Computing.granted (.stage k) (st.snapshot a h r.soundings))
    sched := { s.sched with run := some { r with suspended := false, next := k + 1 } } }

/-- The first OVER stage of a run's records (R169). -/
def firstOverOf (records : List StageRecord) : Option FirstOver :=
  (records.find? (fun r => r.level == .over)).map fun r => ⟨r.ordinal, r.step, r.kind, r.worst⟩

/-- A run completes: the result is replaced, TRIAL becomes EMPTY, and the SEQUENCE notice is raised, at every link
where the first OVER stage differs (R169, R171). -/
def completeRun (base : BaseInfo) (records : List StageRecord) (s : State) : State :=
  let look : LookResult :=
    { outcome := .complete, base := some base, records := records, firstOver := firstOverOf records }
  let differs := firstOverDiffers s.look.firstOver look.firstOver
  let s1 := emptyTrial { s with look := look, sched := { s.sched with run := none } }
  raiseNotice (fun _ => differs) (s1.sequenceNotice differs) s1

/-- Start or restart a run: the base is built and the first stage granted; without a stage the run ends (R141, R143,
R164). -/
def startRun (h : Hull) (s : State) : State :=
  let base : BaseInfo := { version := s.version, seq := s.ring.version, serial := s.serial }
  let a := baseArea s.live
  let r : Run := { suspended := false, base := base, stages := s.fixStages, next := 1, records := []
                   soundings := freezeSoundings s.bank.channels a }
  match r.stages with
  | [] => completeRun base [] s
  | st :: _ => grantStage h r 1 st (setTrial .lookahead a s)

/-- Whether a look-ahead is wanted (R163). -/
def State.lookWanted (s : State) : Bool :=
  s.device == .run && s.sched.run.isNone && decide (0 < s.ring.nPending) && !s.lookCurrent && s.owner == .empty

/-- The next grant of a run that has started: resumed, or restarted where a base version moved (R143). -/
def continueRun (h : Hull) (r : Run) (s : State) : State :=
  if r.base.version = s.version ∧ r.base.seq = s.ring.version then
    match r.stages[r.next - 1]? with
    | some st => grantStage h r r.next st s
    | none => s
  else startRun h s

/-! ## The grant (R137) -/

/-- The choice of R137 with the Unit IDLE. -/
def grantChoice (h : Hull) (s : State) : State :=
  if s.sched.livePending && s.device == .run then grantLive h s
  else if s.sched.selfCheckWaiting then grantSelfCheck h s
  else match s.sched.run with
    | some r => continueRun h r s
    | none => if s.lookWanted then startRun h s else s

/-- Whether a grant can be made: the Unit is IDLE and no ENTER-CONFIG waits to be resolved (R146, log 21). -/
def State.mayGrant (s : State) : Bool := s.unit.isNone && !s.sched.heldEnter

/-- GRANT (R137). -/
def execGrant (t : Nat) (s : State) : Host.Outcome State Fault Refusal :=
  .next (match s.hull with
    | none => s
    | some h => if s.mayGrant then settle (grantChoice h (atTime t s)) else s)

/-! ## Completions (R84, R139, R140, R141) -/

/-- LIVE_COMPLETION (R84): the result is published, and the Unit becomes IDLE without its accumulators. -/
def execLiveCompletion (t : Nat) (s : State) : Host.Outcome State Fault Refusal :=
  .next (match s.unit with
    | some ⟨.live, sn, acc⟩ => settle (publish sn.hull (sn.resultFrom acc) { atTime t s with unit := none })
    | _ => s)

/-- The step and kind of a stage (R169). -/
def Stage.stepId : Stage → Nat
  | .inHand id _ _ _ => id
  | .stowed id _ _ => id
  | .ballast id _ _ => id

/-- The kind of a stage. -/
def Stage.kind : Stage → StageKind
  | .inHand _ _ _ _ => .inHand
  | .stowed _ _ _ => .stowed
  | .ballast _ _ _ => .ballast

/-- The record of a stage (R169). -/
def stageRecord (k : Nat) (st : Stage) (h : Hull) (r : Result) : StageRecord :=
  let j := judgeLevel h r
  { ordinal := k, step := st.stepId, kind := st.kind, level := j.1, worst := j.2, gm := r.gm, heel := r.heel
    trim := r.trim, degraded := r.degraded }

/-- A stage of a run in progress completes (R141, R142): the run is complete, suspended or goes on. -/
def finishStage (k : Nat) (st : Stage) (h : Hull) (e : Result) (r : Run) (s : State) : State :=
  let records := r.records ++ [stageRecord k st h e]
  if r.stages.length ≤ k then completeRun r.base records s
  else
    { s with sched := { s.sched with
        run := some { r with records := records, suspended := s.sched.livePending || s.sched.selfCheckWaiting } } }

/-- A stage's completion by what has become of its run; a stage of an abandoned run is discarded (R84, R144). -/
def stageDone (k : Nat) (h : Hull) (e : Result) (s : State) : State :=
  match s.sched.run with
  | none => s
  | some r =>
    match r.stages[k - 1]? with
    | none => s
    | some st => finishStage k st h e r s

/-- STAGE_COMPLETION (R141). -/
def execStageCompletion (t : Nat) (s : State) : Host.Outcome State Fault Refusal :=
  .next (match s.unit with
    | some ⟨.stage k, sn, acc⟩ => settle (stageDone k sn.hull (sn.resultFrom acc) { atTime t s with unit := none })
    | _ => s)

/-- SELF_CHECK_COMPLETION (R189). -/
def execSelfCheckCompletion (t : Nat) (s : State) : Host.Outcome State Fault Refusal :=
  .next (match s.unit with
    | some ⟨.selfCheck, sn, acc⟩ =>
      settle (endSelfCheck sn.hull (sn.resultFrom acc) { atTime t s with unit := none })
    | _ => s)

/-! ## Requests for live evaluations (R135, R136) -/

/-- PERIODIC_TIMER_EXPIRY (R135): the timer stops and raises PERIODIC. -/
def execPeriodicTimerExpiry (t : Nat) (s : State) : Host.Outcome State Fault Refusal :=
  .next (if expired t s s.sched.periodic then
      let s1 := atTime t s
      settle (raiseLive .periodic { s1 with sched := { s1.sched with periodic := none } })
    else s)

/-- Whether a live evaluation is COMPUTING (R136, R146). -/
def State.liveComputing (s : State) : Bool :=
  match s.unit with
  | some ⟨.live, _, _⟩ => true
  | _ => false

/-- The serial an EVALUATE-NOW may expect (R136). -/
def State.expectedSerial (s : State) : Nat :=
  if s.liveComputing then nextCount (nextCount s.serial) else nextCount s.serial

/-- EVALUATE-NOW (R136). -/
def evaluateNowAct (_ : Link) (_ : Unit) (s : State) : State × Reply :=
  if s.device ≠ .run then (s, refuse .refusedState)
  else (raiseLive .requested s, .answer .done (be 2 s.expectedSerial))

/-- EVALUATE_NOW (R136). -/
def execEvaluateNow (t : Nat) (l : Link) (s : State) : Host.Outcome State Fault Refusal :=
  .next (request 21 noFields anyLink evaluateNowAct t l s)

/-! ## READ-SCHEDULER (R148) -/

/-- The evaluation period as read: section 7's in force, else the free value (R133, log 19). -/
def State.periodRead (s : State) : Nat :=
  match s.hull with
  | some h => h.s7.period
  | none => (Config.freePeriod s.freeReads).toNat

/-- The stage ordinal of a Unit COMPUTING a stage. -/
def Work.ordinal? : Work → Option Nat
  | .stage k => some k
  | _ => none

/-- READ-SCHEDULER (R148). Where the period read is the free value, its counter moves on (log 19). -/
def readSchedulerAct (_ : Link) (_ : Unit) (s : State) : State × Reply :=
  ({ s with freeReads := if s.hull.isNone then s.freeReads + 1 else s.freeReads },
   .answer .done
    (flagByte s.unit.isSome ++ optField 1 (s.unit.map fun u => be 1 u.work.num)
      ++ optField 1 ((s.unit.bind fun u => u.work.ordinal?).map (be 1))
      ++ flagByte s.sched.livePending ++ be 1 s.sched.causes.toNat ++ be 4 (timeLeft s.sched.periodic s.now)
      ++ be 2 s.periodRead ++ flagByte s.sched.selfCheckWaiting ++ be 1 (runStateNum s.sched.run)
      ++ optField 9 (s.sched.run.map fun r => verBytes r.base.version ++ verBytes r.base.seq ++ be 1 r.next)
      ++ flagByte s.sched.heldEnter ++ be 2 s.serial ++ verBytes s.version ++ be 1 s.device.num))

/-- READ_SCHEDULER (R148). -/
def execReadScheduler (t : Nat) (l : Link) (s : State) : Host.Outcome State Fault Refusal :=
  .next (request 22 noFields anyLink readSchedulerAct t l s)

end Sys2Proof.Machine
end

