-- ==== Sys2Proof/Machine/Configuration.lean ====
section
/-! DEFINITION. Configuration: ENTER-CONFIG taken and held, HULL-WRITE, LEAVE-CONFIG with its section write and the
effects of entering RUN, and READ-HULL (R20, R83, R145, R146, R161, R174 to R181, R194). -/

namespace Sys2Proof.Machine

/-! ## ENTER-CONFIG (R146, R178) -/

/-- The checks of R178, the first failing one first. -/
def enterCheck (s : State) : Option Code :=
  if s.device ≠ .run then some .refusedState
  else if s.sched.heldEnter then some .busy
  else if s.store.job.isSome then some .busy
  else if s.live.anyInHand then some .refusedState
  else none

/-- Disable every channel with the effects of R79, keeping its enable (R83). -/
def disableAll (s : State) : State := (numbered 0 s.bank.channels).foldl (fun s c => disableChannel c.1 c.2 s) s

/-- A look-ahead that is in progress is abandoned and TRIAL becomes EMPTY (R3, R144). -/
def dropLook (s : State) : State := if s.owner = .lookahead then emptyTrial (abandonLook s) else abandonLook s

/-- ENTER-CONFIG takes effect (R146, R178). -/
def enterConfig (s : State) : State :=
  let s1 := dropLook s
  let s2 := { s1 with
    device := .config, working := s1.hull, published := false
    sched := { s1.sched with livePending := false, causes := 0, periodic := none } }
  recomputeAll (disableAll s2)

/-- ENTER-CONFIG (R178): at once, or held behind a live evaluation (R146). -/
def enterConfigAct (_ : Link) (_ : Unit) (s : State) : State × Reply :=
  match enterCheck s with
  | some c => (s, refuse c)
  | none =>
    if s.liveComputing then ({ s with sched := { s.sched with heldEnter := true } }, .owed true)
    else (enterConfig s, .answer .done [])

/-- ENTER_CONFIG (R178). -/
def execEnterConfig (t : Nat) (l : Link) (s : State) : Host.Outcome State Fault Refusal :=
  .next (request 24 noFields planningOnly enterConfigAct t l s)

/-- The held request is checked again and takes effect or is refused (R146). -/
def resolveEnter (s : State) : State :=
  let s1 := { s with sched := { s.sched with heldEnter := false } }
  match enterCheck s1 with
  | some c => answerOwed true c [] false s1
  | none => answerOwed true .done [] false (enterConfig s1)

/-- HELD_ENTER_CONFIG (R146): due once the live evaluation it waits behind has published. -/
def execHeldEnterConfig (t : Nat) (s : State) : Host.Outcome State Fault Refusal :=
  .next (if s.sched.heldEnter && !s.liveComputing then settle (resolveEnter (atTime t s)) else s)

/-! ## HULL-WRITE (R179) -/

/-- A store job runs, or the restart of R181 is awaited. -/
def State.storeBusy (s : State) : Bool := s.store.job.isSome || s.store.restart.isSome

/-- HULL-WRITE (R179). -/
def hullWriteAct (_ : Link) (it : HullItem) (s : State) : State × Reply :=
  match s.working with
  | none => (s, refuse .notInConfig)
  | some w =>
    if s.device = .run then (s, refuse .notInConfig)
    else if s.storeBusy then (s, refuse .busy)
    else if s.store.lockSections.getD it.sec false then (s, refuse .locked)
    else match w.put it with
      | none => (s, refuse .unknownItem)
      | some w' =>
        if !it.inRange then (s, refuse .refusedRange) else ({ s with working := some w' }, .answer .done [])

/-- HULL_WRITE (R179). -/
def execHullWrite (t : Nat) (l : Link) (s : State) : Host.Outcome State Fault Refusal :=
  .next (request 25 readHullItem planningOnly hullWriteAct t l s)

/-! ## LEAVE-CONFIG: what fails and what is written (R20, R152, R180, R181) -/

/-- The ordinal of a space record in its section. -/
def spaceOrdinal (spaces : List SpaceRec) (id : Nat) : Nat := (spaces.takeWhile (fun r => r.id != id)).length

/-- Every positioned lot lies inside its space under the new section 3 (R20, log 12). -/
def testLots (w : Hull) (live : Area) : List ItemTest :=
  live.lots.filterMap fun l => l.place.map fun p =>
    match spaceOf w.s3 p.space with
    | none => (false, ⟨3, 0, 0, 0⟩)
    | some _ => (fits w.s3 l.half p, ⟨3, 1, spaceOrdinal w.s3 p.space, 0⟩)

/-- Every tank's stated volume finds its tank and capacity under the new section 4 (R20, log 12). The tests go tank by
tank in number order, so a kept tank above its new capacity comes before a dropped one with contents (log 44). -/
def testTanks (w : Hull) (live : Area) : List ItemTest :=
  (numbered 0 live.tanks).map fun k =>
    match w.s4[k.1]? with
    | none => (k.2.volume == 0, ⟨4, 0, 0, 0⟩)
    | some r => (decide (k.2.volume ≤ r.capacity), ⟨4, 1, k.1, 0⟩)

/-- The ring's test: a new guard needs an empty ring (R152, log 12). -/
def testGuard (w : Hull) (r : Ring) (sections : List Nat) : List ItemTest :=
  [(!(sections.contains 7) || w.s7.guard == r.guard || r.entries.isEmpty, ⟨7, 3, 0, 0⟩)]

/-- The sections to be written from CONFIG (R180). One locked since a failed write is written again here (log 27). -/
def State.toWrite (s : State) (w : Hull) : List Nat :=
  allSections.filter fun n => s.edited n || !s.store.sections.holds w n

/-- The sections to be written from HULL-FAULT (R181); one whose lock mark is set cannot be written there (log 27). -/
def State.toRepair (s : State) (w : Hull) : List Nat :=
  allSections.filter fun n =>
    (s.repaired n || !s.store.sections.holds w n) && !s.store.lockSections.getD n false

/-- The HULL-INVALID answer: the section, the reason VALIDATION 0 or WRITE 1, and the item (log 12). -/
def hullInvalidBytes (a : ItemAddr) (byWrite : Bool) : List Byte :=
  be 1 a.sec ++ flagByte byWrite ++ be 1 a.item ++ be 1 a.i ++ be 1 a.j

/-! ## Entering RUN (R19, R20, R83, R145, R161) -/

/-- Every bound channel whose enable is ON enters FILLING, the others stay DISABLED (R83). -/
def startChannels (now : Nat) (chs : List Channel) : List Channel :=
  chs.map fun c => if c.cfg.enable && c.cfg.binding.isSome then c.toFilling now else c

/-- The sets waiting and a waiting ADOPT add their causes (R42, R145). -/
def entryCauses (s : State) : State :=
  let s1 := raiseLive .periodic s
  let s2 := if s.ready.isEmpty then s1 else raiseLive .change s1
  if s.store.waitingAdopt then raiseLive .adopt s2 else s2

/-- Entry to RUN with the sections in force: the table is built again, the channels start, the first live request is
recorded, the lines are recomputed (R83, R107, R131, R145). -/
def enterRun (h : Hull) (s : State) : State :=
  recomputeAll (entryCauses
    { s with device := .run, hull := some h, working := none, published := false, crit := buildTable h
             bank := { s.bank with channels := startChannels s.now s.bank.channels } })

/-- A channel reloaded from a new section 7 (R83). One unbound before and after counts as unchanged and keeps its value,
clamped, and so does a bound one that has output no block yet (R67, log 32). -/
def reloadChannel (old : Channel) (c : ChannelCfg) : Channel :=
  { Channel.blank with
    cfg := c
    value := if c.binding = old.cfg.binding then clamp c.min c.max old.value else restValue c.min c.max }

/-- A channel kept where section 7 is not written; a binding whose target has gone is removed (R83). -/
def keepChannel (h : Hull) (c : Channel) : Channel :=
  if c.cfg.binding.all (fun b => b.exists h.s5 h.s4) then c
  else { c with cfg := { c.cfg with binding := none, enable := false }, value := restValue c.cfg.min c.cfg.max }

/-- The Bank after a LEAVE-CONFIG that wrote sections (R83). -/
def bankAfter (h : Hull) (sections : List Nat) (chs : List Channel) : List Channel :=
  if sections.contains 7 then List.zipWith reloadChannel chs h.s7.channels else chs.map (keepChannel h)

/-- A tank that is GAUGED without a bound channel becomes STATED (R20). -/
def settleSource (chs : List Channel) (k : Nat) (t : TankState) : TankState :=
  if gaugeBound chs k then t else { t with source := .stated }

/-- LIVE brought into line with the new sections (R20). -/
def alignLive (h : Hull) (chs : List Channel) (live : Area) : Area :=
  { live with
    tanks := (numbered 0 (resize h.s4.length ⟨.stated, 0, 1025⟩ live.tanks)).map (fun k => settleSource chs k.1 k.2)
    cranes := live.cranes.take h.s5.length
      ++ (h.s5.drop live.cranes.length).map (fun r => { height := r.height, attached := none })
    lots := live.lots.map (keepStow h.s3) }

/-- Whether a step no longer fits the new sections (R161). -/
def stepLost (h : Hull) (live : Area) (e : Step) : Bool :=
  match e.work with
  | .lot id d c =>
    !(d.fits h.s3 (((live.findLot id).map (·.half)).getD 0)) || !(c.all (fun c => (nth1 h.s5 c.crane).isSome))
  | .ballast tank v =>
    match h.s4[tank]? with
    | none => true
    | some r => decide (r.capacity < v)

/-- The ring after a LEAVE-CONFIG that wrote sections (R152, R161). -/
def ringAfter (h : Hull) (sections : List Nat) (live : Area) (r : Ring) : Ring :=
  let r1 := if sections.contains 7 then r.setting h.s7.guard h.s7.depth else r
  r1.mark (stepLost h live) Step.withdraw

/-- What the written sections change besides the entry to RUN (R18, R20, R44, R83, R161). -/
def takeSections (h : Hull) (sections : List Nat) (s : State) : State :=
  let chs := bankAfter h sections s.bank.channels
  bumpVersion { s with
    hull := some h
    bank := { s.bank with channels := chs }
    live := alignLive h chs s.live
    tracker := resize h.s5.length { lastNet := 0, peak := none } s.tracker
    ring := ringAfter h sections s.live s.ring }

/-! ## LEAVE-CONFIG (R180, R181) -/

/-- LEAVE-CONFIG in CONFIG (R180). With no section to write its DONE names the empty set (log 45). -/
def leaveFromConfig (w : Hull) (s : State) : State × Reply :=
  let sections := s.toWrite w
  match firstFailure (allTests w ++ testLots w s.live ++ testTanks w s.live ++ testGuard w s.ring sections) with
  | some a => (s, .answer .hullInvalid (hullInvalidBytes a false))
  | none =>
    if sections.isEmpty then (enterRun w s, .answer .done (sectionSet []))
    else (startJob (.leaveConfig sections) s, .owed false)

/-- The wait for the restart of R181 begins. -/
def awaitRestart (s : State) : State :=
  { s with store := { s.store with restart := some { deadline := s.now + Config.restartMs, due := false } } }

/-- LEAVE-CONFIG in HULL-FAULT (R181). A list without a section, where only locked ones differ, still ends in the restart
(log 27). Validation is R176's alone: a bad section whose empty form passes it is written as it stands (log 47). -/
def leaveFromFault (w : Hull) (s : State) : State × Reply :=
  match validate w with
  | some a => (s, .answer .hullInvalid (hullInvalidBytes a false))
  | none => (startJob (.leaveConfig (s.toRepair w)) s, .owed false)

/-- LEAVE-CONFIG (R180, R181). -/
def leaveConfigAct (_ : Link) (_ : Unit) (s : State) : State × Reply :=
  match s.working with
  | none => (s, refuse .notInConfig)
  | some w =>
    if s.device = .run then (s, refuse .notInConfig)
    else if s.storeBusy then (s, refuse .busy)
    else if s.device = .config then leaveFromConfig w s
    else leaveFromFault w s

/-- LEAVE_CONFIG (R180). -/
def execLeaveConfig (t : Nat) (l : Link) (s : State) : Host.Outcome State Fault Refusal :=
  .next (request 26 noFields planningOnly leaveConfigAct t l s)

/-- The target a LEAVE-CONFIG that ended well reports: the last section it wrote (log 17). -/
def lastSection (ns : List Nat) : Option Target := ns.getLast?.map .sec

/-- Every section has verified, in CONFIG: the sections come into force and the device enters RUN (R180). -/
def leaveWritten (w : Hull) (ns : List Nat) (s : State) : State :=
  let s1 := takeSections w ns { s with store := { s.store with sections := s.store.sections.writeAll w ns } }
  let s2 := if s1.owner = .recalled then emptyTrial s1 else s1
  enterRun w (cancelAdopt (endJob .leaveConfig (lastSection ns) .done none (sectionSet ns) s2))

/-- Every section has verified, in HULL-FAULT: the answer whose delivery restarts the device (R181). The condition
version stands (log 36). -/
def repairWritten (w : Hull) (ns : List Nat) (s : State) : State :=
  awaitRestart (endJobWith true .leaveConfig (lastSection ns) .done none (sectionSet ns)
    { s with store := { s.store with sections := s.store.sections.writeAll w ns } })

/-- A read-back failed: the sections before it stand written, this one is bad, the device state stays (R180). -/
def leaveFailed (w : Hull) (ns : List Nat) (n : Nat) (s : State) : State :=
  let st := (s.store.sections.writeAll w (ns.takeWhile (· != n))).write w false n
  endJob .leaveConfig (some (.sec n)) .hullInvalid none (hullInvalidBytes ⟨n, 0, 0, 0⟩ true)
    (markWriteError true { s with store := { s.store with sections := st } })

/-- LEAVE_CONFIG_WRITE_END (R180, R181): every section verified, or the read-back of one failed. -/
def execLeaveConfigWriteEnd (t : Nat) (failed : Option Nat) (s : State) : Host.Outcome State Fault Refusal :=
  .next (match s.store.job, s.working with
    | some (.leaveConfig ns), some w =>
      let s1 := atTime t s
      match failed with
      | none => settle (if s.device = .config then leaveWritten w ns s1 else repairWritten w ns s1)
      | some n => if ns.contains n then settle (leaveFailed w ns n s1) else s
    | _, _ => s)

/-! ## READ-HULL (R194) -/

/-- An item's address and the source, in force 0 or working copy 1 (log 10). -/
def readHullForm : Reader (ItemAddr × Bool) := do
  let a ← readItemAddr
  let working ← readFlag
  pure (a, working)

/-- READ-HULL (R194). -/
def readHullAct (_ : Link) (q : ItemAddr × Bool) (s : State) : State × Reply :=
  match (if q.2 then s.working else s.hull) with
  | none => (s, refuse .refusedState)
  | some h =>
    match h.content q.1 with
    | none => (s, refuse .unknownItem)
    | some bs => (s, .answer .done bs)

/-- READ_HULL (R194). -/
def execReadHull (t : Nat) (l : Link) (s : State) : Host.Outcome State Fault Refusal :=
  .next (request 39 readHullForm anyLink readHullAct t l s)

end Sys2Proof.Machine
end

