-- ==== Sys2Proof/Machine/Resets.lean ====
section
/-! DEFINITION. Power-on, the reset line, the restart of R181, the end of start-up, and the reset of one link
(R19, R173, R175, R177, R181, R183, R208). -/

namespace Sys2Proof.Machine

/-! ## What a reset leaves in the non-volatile store (R183) -/

/-- The stored sections after a reset inside a write: those verified stand, one being written is bad (log 6). -/
def cutSections (st : StoredHull) (w : Hull) (ns : List Nat) (cut : WriteCut) : StoredHull :=
  let done := st.writeAll w (ns.take cut.verified)
  match cut.torn, ns[cut.verified]? with
  | true, some n => done.write w false n
  | _, _ => done

/-- The non-volatile store after a reset that falls inside a job (R183). -/
def cutJob (s : State) (cut : WriteCut) : Store :=
  match s.store.job with
  | some (.save n _ _) => { s.store with slots := s.store.slots.set n .bad }
  | some (.referenceWrite n _) => { s.store with slots := s.store.slots.set n .bad }
  | some (.leaveConfig ns) =>
    match s.working with
    | some w => { s.store with sections := cutSections s.store.sections w ns cut }
    | none => s.store
  | _ => s.store

/-- What a reset keeps of a store: its non-volatile part. -/
def Store.keepNonVolatile (st : Store) : Store :=
  { Store.manufactured with
    sections := st.sections, slots := st.slots, lockSections := st.lockSections, lockSlots := st.lockSlots
    frozen := st.frozen, identity := st.identity, factorySerial := st.factorySerial }

/-- Every block at its reset value in START, the non-volatile store kept; the receive lines stay at their level
(log 22), and the timebase, the queue and the free-value counter are the model's own. -/
def resetWith (store : Store) (s : State) : State :=
  { State.reset with
    now := s.now, pending := s.pending, freeReads := s.freeReads, store := store.keepNonVolatile
    lius := ⟨Liu.reset .planning s.lius.planning.inBreak, Liu.reset .deck s.lius.deck.inBreak,
      Liu.reset .ballast s.lius.ballast.inBreak⟩ }

/-- POWER_ON (R175). -/
def execPowerOn (t : Nat) (cut : WriteCut) (s : State) : Host.Outcome State Fault Refusal :=
  .next (resetWith (cutJob s cut) (atTime t s))

/-- RESET_LINE (R173). -/
def execResetLine (t : Nat) (cut : WriteCut) (s : State) : Host.Outcome State Fault Refusal :=
  .next (resetWith (cutJob s cut) (atTime t s))

/-- Whether the restart of R181 is due: its event has come, or 1,000 ms have passed. -/
def State.restartDue (s : State) (t : Nat) : Bool :=
  match s.store.restart with
  | none => false
  | some w => w.due || decide (w.deadline ≤ max s.now t)

/-- RESTART (R181). -/
def execRestart (t : Nat) (s : State) : Host.Outcome State Fault Refusal :=
  .next (if s.restartDue t then resetWith s.store (atTime t s) else s)

/-! ## The end of start-up (R19, R175, R177) -/

/-- The slots with those gone bad (log 5). -/
def spoilSlots (bad : BitVec 16) (slots : List Slot) : List Slot :=
  (numbered 0 slots).map fun x => if bad.getLsbD x.1 then .bad else x.2

/-- A channel as start-up loads it from section 7 (R83). -/
def loadChannel (c : ChannelCfg) : Channel := { Channel.blank with cfg := c, value := restValue c.min c.max }

/-- LIVE built anew (R19). -/
def builtLive (h : Hull) (chs : List Channel) : Area :=
  { Area.empty with
    tanks := (List.range h.s4.length).map (fun k =>
      { source := if gaugeBound chs k then .gauged else .stated, volume := 0, density := 1025 })
    cranes := h.s5.map (fun c => { height := c.height, attached := none }) }

/-- Start-up ends in RUN (R19, R44, R83, R152). -/
def startRunning (h : Hull) (s : State) : State :=
  let chs := h.s7.channels.map loadChannel
  enterRun h
    { s with
      bank := { s.bank with channels := chs }
      live := builtLive h chs
      tracker := h.s5.map (fun _ => { lastNet := 0, peak := none })
      ring := { s.ring with guard := h.s7.guard, depth := h.s7.depth } }

/-- Start-up ends in HULL-FAULT (R175, R177). -/
def startFaulted (failure : Option ItemAddr) (s : State) : State :=
  recomputeAll
    { s with
      device := .hullFault
      working := some s.store.sections.working
      store := { s.store with startRecord := some { asRead := s.store.sections, failure := failure } } }

/-- What start-up read: checks that failed find their section or slot bad, and the directory is built (R175, R182). -/
def readStoreAtStart (badSections : BitVec 8) (badSlots : BitVec 16) (s : State) : State :=
  let slots := spoilSlots badSlots s.store.slots
  { s with store := { s.store with
      sections := s.store.sections.spoil badSections, slots := slots, directory := slots.map Slot.entry } }

/-- RUN where every section is good and passes validation, else HULL-FAULT (R173, R175). -/
def endStart (s : State) : State :=
  match s.store.sections.full, s.store.sections.failure with
  | some h, none => startRunning h s
  | _, failure => startFaulted failure s

/-- START_UP_END (R175). -/
def execStartUpEnd (t : Nat) (badSections : BitVec 8) (badSlots : BitVec 16) (s : State) :
    Host.Outcome State Fault Refusal :=
  .next (if s.device = .start then settle (endStart (readStoreAtStart badSections badSlots (atTime t s))) else s)

/-! ## Reset of one link (R208) -/

/-- A link's sets and outcome record are discarded (R41). -/
def dropSets (l : Link) (s : State) : State :=
  { s with sets := s.sets.set l LinkSets.reset, ready := s.ready.filter (fun r => r.link != l) }

/-- The link's four timers stop, and the lines that had one running are recomputed (R130). -/
def dropTimers (l : Link) (s : State) : State :=
  let running := allLines.filter (fun h => ((s.holds.get h).timer l).isSome)
  let stop (r : HoldLine) : HoldLine := r.setTimer l none
  recomputeLines running
    { s with holds := ⟨stop s.holds.a, stop s.holds.b, stop s.holds.c, stop s.holds.d⟩ }

/-- Whether a reset of the planning link discards the answer of R181. -/
def Liu.holdsRestart (u : Liu) : Bool := u.ready.any (·.restart) || u.outbound.any (·.restart)

/-- The planning link's further effects: a RECALLED TRIAL released, a held ENTER-CONFIG dropped, the restart due
(R146, R181, R187, R208). -/
def planningReset (discards : Bool) (s : State) : State :=
  let s1 := { s with
    sched := { s.sched with heldEnter := false }
    store := { s.store with restart := s.store.restart.map (fun w => { w with due := w.due || discards }) } }
  releaseRecalled s1

/-- The effects of a link reset (R208). -/
def resetLink (l : Link) (s : State) : State :=
  let discards := (s.lius.get l).holdsRestart
  let s1 := dropTimers l (dropSets l (modifyLiu l (fun _ => Liu.reset l true) s))
  if l = .planning then planningReset discards s1 else s1

/-- LINK_RESET (R208): a break is recognised once, at 1 ms. -/
def execLinkReset (t : Nat) (l : Link) (s : State) : Host.Outcome State Fault Refusal :=
  .next (if (s.lius.get l).inBreak then s else settle (resetLink l (atTime t s)))

end Sys2Proof.Machine
end

