-- ==== Sys2Proof/Machine/Dispatch.lean ====
section
/-! DEFINITION. The one arm per command: each calls its meaning. -/

namespace Sys2Proof.Machine

def exec (i : Instr) (s : State) : Host.Outcome State Fault Refusal :=
  match i with
  | .powerOn t cut => Sys2Proof.Machine.execPowerOn t cut s
  | .resetLine t cut => Sys2Proof.Machine.execResetLine t cut s
  | .startUpEnd t badSections badSlots => Sys2Proof.Machine.execStartUpEnd t badSections badSlots s
  | .restart t => Sys2Proof.Machine.execRestart t s
  | .segmentArrival t l u => Sys2Proof.Machine.execSegmentArrival t l u s
  | .replyUnit t l u => Sys2Proof.Machine.execReplyUnit t l u s
  | .resendTimerExpiry t l => Sys2Proof.Machine.execResendTimerExpiry t l s
  | .linkReset t l => Sys2Proof.Machine.execLinkReset t l s
  | .unknownRequestKind t l => Sys2Proof.Machine.execUnknownRequestKind t l s
  | .changeSetMessage t l => Sys2Proof.Machine.execChangeSetMessage t l s
  | .readSets t l => Sys2Proof.Machine.execReadSets t l s
  | .attach t l => Sys2Proof.Machine.execAttach t l s
  | .detach t l => Sys2Proof.Machine.execDetach t l s
  | .forceLand t l => Sys2Proof.Machine.execForceLand t l s
  | .readHooks t l => Sys2Proof.Machine.execReadHooks t l s
  | .stepAppend t l => Sys2Proof.Machine.execStepAppend t l s
  | .stepWithdraw t l => Sys2Proof.Machine.execStepWithdraw t l s
  | .stepDone t l => Sys2Proof.Machine.execStepDone t l s
  | .seqSet t l => Sys2Proof.Machine.execSeqSet t l s
  | .readSequence t l => Sys2Proof.Machine.execReadSequence t l s
  | .readLookahead t l => Sys2Proof.Machine.execReadLookahead t l s
  | .channelSet t l => Sys2Proof.Machine.execChannelSet t l s
  | .channelEnable t l => Sys2Proof.Machine.execChannelEnable t l s
  | .channelDisable t l => Sys2Proof.Machine.execChannelDisable t l s
  | .readChannels t l => Sys2Proof.Machine.execReadChannels t l s
  | .holdAck t l => Sys2Proof.Machine.execHoldAck t l s
  | .timedHold t l => Sys2Proof.Machine.execTimedHold t l s
  | .readHolds t l => Sys2Proof.Machine.execReadHolds t l s
  | .readVerdict t l => Sys2Proof.Machine.execReadVerdict t l s
  | .evaluateNow t l => Sys2Proof.Machine.execEvaluateNow t l s
  | .readScheduler t l => Sys2Proof.Machine.execReadScheduler t l s
  | .readCondition t l => Sys2Proof.Machine.execReadCondition t l s
  | .enterConfig t l => Sys2Proof.Machine.execEnterConfig t l s
  | .heldEnterConfig t => Sys2Proof.Machine.execHeldEnterConfig t s
  | .hullWrite t l => Sys2Proof.Machine.execHullWrite t l s
  | .leaveConfig t l => Sys2Proof.Machine.execLeaveConfig t l s
  | .leaveConfigWriteEnd t failed => Sys2Proof.Machine.execLeaveConfigWriteEnd t failed s
  | .save t l => Sys2Proof.Machine.execSave t l s
  | .saveEnd t verified => Sys2Proof.Machine.execSaveEnd t verified s
  | .recall t l => Sys2Proof.Machine.execRecall t l s
  | .recallReadEnd t checkGood => Sys2Proof.Machine.execRecallReadEnd t checkGood s
  | .selfCheck t l => Sys2Proof.Machine.execSelfCheck t l s
  | .selfCheckReadEnd t checkGood => Sys2Proof.Machine.execSelfCheckReadEnd t checkGood s
  | .referenceWrite t l => Sys2Proof.Machine.execReferenceWrite t l s
  | .referenceWriteEnd t verified => Sys2Proof.Machine.execReferenceWriteEnd t verified s
  | .lock t l => Sys2Proof.Machine.execLock t l s
  | .lockEnd t verified => Sys2Proof.Machine.execLockEnd t verified s
  | .freeze t l => Sys2Proof.Machine.execFreeze t l s
  | .freezeEnd t verified => Sys2Proof.Machine.execFreezeEnd t verified s
  | .identityWrite t l => Sys2Proof.Machine.execIdentityWrite t l s
  | .identityWriteEnd t verified => Sys2Proof.Machine.execIdentityWriteEnd t verified s
  | .releaseTrial t l => Sys2Proof.Machine.execReleaseTrial t l s
  | .adopt t l => Sys2Proof.Machine.execAdopt t l s
  | .readStore t l => Sys2Proof.Machine.execReadStore t l s
  | .readArchive t l => Sys2Proof.Machine.execReadArchive t l s
  | .readIdentity t l => Sys2Proof.Machine.execReadIdentity t l s
  | .readHull t l => Sys2Proof.Machine.execReadHull t l s
  | .noticeSelect t l => Sys2Proof.Machine.execNoticeSelect t l s
  | .linkSet t l => Sys2Proof.Machine.execLinkSet t l s
  | .readSummary t l => Sys2Proof.Machine.execReadSummary t l s
  | .sampleFrame t u => Sys2Proof.Machine.execSampleFrame t u s
  | .staleTimerExpiry t ch => Sys2Proof.Machine.execStaleTimerExpiry t ch s
  | .periodicTimerExpiry t => Sys2Proof.Machine.execPeriodicTimerExpiry t s
  | .timedHoldExpiry t l h => Sys2Proof.Machine.execTimedHoldExpiry t l h s
  | .grant t => Sys2Proof.Machine.execGrant t s
  | .liveCompletion t => Sys2Proof.Machine.execLiveCompletion t s
  | .stageCompletion t => Sys2Proof.Machine.execStageCompletion t s
  | .selfCheckCompletion t => Sys2Proof.Machine.execSelfCheckCompletion t s
  | .linkBreakEnd t l => Sys2Proof.Machine.execLinkBreakEnd t l s

end Sys2Proof.Machine
end

