-- ==== Sys2Proof/Safety.lean ====
section
/-! DEFINITION. The predicates statements are made of: what it means that a request is taken and answered (R199, R201,
R202), and the properties of a state that every step is to keep. -/

namespace Sys2Proof.Machine

/-! ## Requests -/

/-- The message a link's LIU may take now is `m`: it is of this kind, it is good in form, and its body reads as `a`
(R199). -/
def Taken {α : Type} (kind : Nat) (form : Reader α) (l : Link) (m : InMsg) (a : α) (s : State) : Prop :=
  takeable kind l s = some m ∧ m.malformed = false ∧ readWhole form (m.bytes.drop 3) = some a

/-- The state a request's owning block acts on: the reading taken, the message gone from the queue (R199). -/
def handed (t : Nat) (l : Link) (s : State) : State := dropHead l (atTime t s)

/-- The state after a request is answered at its taking, its owning block having left `s` (R201, R203). -/
def answered (l : Link) (kind : Nat) (m : InMsg) (code : Code) (body : List Byte) (s : State) : State :=
  settle (respond l kind m.requestTag (.answer code body) s)

/-- The state after a request whose answer is owed, to a store job or to a held ENTER-CONFIG (R202). -/
def owing (l : Link) (kind : Nat) (m : InMsg) (enter : Bool) (s : State) : State :=
  settle (respond l kind m.requestTag (.owed enter) s)

/-- The state after a store job's end, its own effects having left `s`: the store is IDLE with the outcome recorded, the
owed answer is given, marked where it is the one whose delivery restarts the device, and the ARCHIVE notice is raised
at the selecting links (R181, R183, R188, R202). -/
def jobEnded (restart : Bool) (kind : JobKind) (target : Option Target) (code : Code) (check : Option (Option Quantity))
    (body : List Byte) (s : State) : State :=
  raiseNotice forcedNone
    (.archive { job := kind, target := target, code := code, check := check, writeError := s.store.writeError
                owner := s.owner, version := s.version })
    (answerOwed false code body restart { s with store := { s.store with
      job := none, lastJob := some { kind := kind, target := target, code := code } } })

/-- A request command that is wrong in form is answered MALFORMED, and nothing else happens (R199 step 3). -/
def MalformedIsRefused {α : Type} (kind : Nat) (form : Reader α) (cmd : Nat → Link → Instr) : Prop :=
  ∀ t l s m, takeable kind l s = some m → (m.malformed = true ∨ readWhole form (m.bytes.drop 3) = none) →
    exec (cmd t l) s = .next (answered l kind m .malformed [] (handed t l s))

/-- A request good in form from a link not given the right is answered REFUSED-RIGHTS, and nothing else happens (R199
step 4). -/
def OnlyGivenTo {α : Type} (kind : Nat) (form : Reader α) (cmd : Nat → Link → Instr) (given : Link → α → Bool) : Prop :=
  ∀ t l s m a, Taken kind form l m a s → given l a = false →
    exec (cmd t l) s = .next (answered l kind m .refusedRights [] (handed t l s))

/-! ## Hold lines (R124 to R126) -/

/-- A line stands as R126 has it: asserted exactly while a cause is present or its mark is set, the mark clear in
FOLLOW, and in LATCH set while a criterion, degraded or watch cause is present. -/
def State.lineStands (s : State) (h : Line) : Prop :=
  (s.holds.get h).asserted = ((s.causesOf h).any || (s.holds.get h).latched)
    ∧ ((s.lineCfg h).mode = .follow → (s.holds.get h).latched = false)
    ∧ ((s.lineCfg h).mode = .latch → (s.causesOf h).latches = true → (s.holds.get h).latched = true)

/-- Every DISABLED channel's watch is CLEAR (R75). -/
def State.watchesRest (s : State) : Prop :=
  ∀ c ∈ s.bank.channels, c.state = .disabled → c.watch = .clear

/-- All four lines stand as R126 has them, and no DISABLED channel has a watch. -/
def State.linesStand (s : State) : Prop := (∀ h, s.lineStands h) ∧ s.watchesRest

/-! ## TRIAL (R3, R4) -/

/-- Whether a running store job holds TRIAL as ARCHIVE (R3). -/
def Store.usesTrial (st : Store) : Bool :=
  match st.job with
  | some (.save _ _ _) => true
  | some (.recall _) => true
  | some (.selfCheck _ _) => true
  | _ => false

/-- TRIAL has one owner: empty contents when EMPTY, a run exactly while LOOKAHEAD, a job that uses TRIAL exactly while
ARCHIVE, and a waiting ADOPT only while RECALLED (R3, R187). -/
def State.trialOwned (s : State) : Prop :=
  (s.owner = .empty → s.trial = Area.empty)
    ∧ s.sched.run.isSome = (s.owner == .lookahead)
    ∧ s.store.usesTrial = (s.owner == .archive)
    ∧ (s.store.waitingAdopt = true → s.owner = .recalled)

/-! ## The Evaluation Unit (R84, R87) -/

/-- A COMPUTING Unit's working accumulators hold the sums of its snapshot (R84, log 37). -/
def State.sumsHeld (s : State) : Prop := ∀ c, s.unit = some c → c.acc = c.snap.accumulators

/-! ## The ring (R149, R155) -/

/-- A LEAVE-CONFIG write running in CONFIG carries the guard in force, or found the ring empty (R152). -/
def State.guardAgrees (s : State) : Prop :=
  ∀ ns w, s.store.job = some (.leaveConfig ns) → s.device = .config → s.working = some w → ns.contains 7 = true →
    w.s7.guard = s.ring.guard ∨ s.ring.entries = []

/-- The ring's bounds of R155, with what keeps them: it is empty in START, and a running LEAVE-CONFIG agrees. -/
def State.ringBounded (s : State) : Prop :=
  s.ring.entries.length ≤ 127 ∧ s.ring.byLink .planning ≤ 127 - s.ring.guard ∧ s.ring.readIdx < 128
    ∧ (s.device = .start → s.ring.entries = []) ∧ s.guardAgrees

/-! ## Links (R195, R198, R204, R206) -/

/-- The inbound queue of an LIU within its capacity: 2,048 bytes with the message in assembly, no message above 512
bytes (R195, R198). -/
def Liu.queueFits (u : Liu) : Prop :=
  queuedBytes u.inbound + u.assembly.length ≤ 2048 ∧ u.assembly.length ≤ 512 ∧ ∀ m ∈ u.inbound, m.bytes.length ≤ 512

/-- A Link Interface Unit within its capacities: eight response entries and the inbound queue (R195), eight counters of
0..255 (R206), and each notice in the slot of its kind (R204). -/
def Liu.bounded (u : Liu) : Prop :=
  u.usedEntries ≤ 8 ∧ u.queueFits
    ∧ u.summary.accepted ≤ 255 ∧ u.summary.refused ≤ 255 ∧ u.summary.backOffs ≤ 255 ∧ u.summary.discards ≤ 255
    ∧ u.summary.overruns ≤ 255 ∧ u.summary.applied ≤ 255 ∧ u.summary.refusedSets ≤ 255 ∧ u.summary.replaced ≤ 255
    ∧ ∀ k n, u.slots.get k = some n → n.kind = k

/-- Every link within its capacities. -/
def State.linksBounded (s : State) : Prop := ∀ l, (s.lius.get l).bounded

/-! ## The Stager (R25, R28, R38) -/

/-- An open set within R25. -/
def OpenSet.bounded (o : OpenSet) : Prop := 1 ≤ o.edits.length ∧ o.edits.length ≤ 32

/-- A link's part of the Stager within its capacities: open sets of 1..32 edits with different tags, four outcomes. -/
def LinkSets.bounded (q : LinkSets) : Prop :=
  (∀ o, q.open1 = some o → o.bounded) ∧ (∀ o, q.open2 = some o → o.bounded)
    ∧ (∀ a b, q.open1 = some a → q.open2 = some b → a.tag ≠ b.tag) ∧ q.outcomes.length ≤ 4

/-- The Stager within its capacities: the ready list holds up to eight sets of 1..32 edits. -/
def State.setsBounded (s : State) : Prop :=
  (∀ l, (s.sets.get l).bounded) ∧ s.ready.length ≤ 8
    ∧ ∀ r ∈ s.ready, 1 ≤ r.edits.length ∧ r.edits.length ≤ 32

/-! ## Lot tables (R9) -/

/-- A lot list of R9: at most 512 lots, no two with one id. -/
def lotsDistinct (lots : List Lot) : Prop := lots.length ≤ 512 ∧ (lots.map (·.id)).Nodup

/-- The lots of a slot's image. -/
def Slot.lots : Slot → List Lot
  | .good image _ => image.lots
  | _ => []

/-- Both areas and every saved image hold lot lists of R9. -/
def State.lotsStand (s : State) : Prop :=
  lotsDistinct s.live.lots ∧ lotsDistinct s.trial.lots ∧ ∀ v ∈ s.store.slots, lotsDistinct v.lots

/-! ## Permanent marks (R191 to R193) -/

/-- A running job does not write what is already permanent: no LOCK under FREEZE, no IDENTITY-WRITE of a written
record (R191, R193). -/
def State.jobsLawful (s : State) : Prop :=
  (s.store.frozen = true → ∀ q, s.store.job ≠ some (.lock q))
    ∧ (s.store.identity.isSome = true → ∀ i, s.store.job ≠ some (.identityWrite i))

/-- What a step may never undo: lock marks once set, the freeze mark, a written identity record and the factory
serial stay; under FREEZE no lock mark is added (R191 to R193). -/
def State.marksKept (s s' : State) : Prop :=
  (∀ n, s.store.lockSections.getD n false = true → s'.store.lockSections.getD n false = true)
    ∧ (∀ n, s.store.lockSlots.getD n false = true → s'.store.lockSlots.getD n false = true)
    ∧ (s.store.frozen = true → s'.store.frozen = true
        ∧ s'.store.lockSections = s.store.lockSections ∧ s'.store.lockSlots = s.store.lockSlots)
    ∧ (∀ i, s.store.identity = some i → s'.store.identity = some i)
    ∧ s'.store.factorySerial = s.store.factorySerial

/-! ## Step -/

/-- A property every step keeps. -/
def KeptByStep (inv : State → Prop) : Prop := ∀ s s', inv s → step s = .next s' → inv s'

end Sys2Proof.Machine
end

