-- ==== Sys2Proof/Certificates/Slice0/Obligations.lean ====
section
/-! DEFINITION. The statements for the provers: what a step runs, what each command does when it does its own work,
what it leaves as it was, and what every step keeps. A request's statement takes the message that stands at the head
of its link's queue (`Taken`); its conclusion is the next state, the answer included. -/

open Sys2Proof Sys2Proof.Machine

/-! ## The step -/

/-- The command at the front of the queue is run on the state with the queue's rest. -/
def Obligations.StepRunsTheFrontCommand : Prop :=
  ∀ (c : Instr) (rest : List Instr) (s : State), s.pending = c :: rest → step s = exec c { s with pending := rest }

/-! ## Power-on, the reset line, the restart, start-up -/

/-- Every block at its reset value, in START, with every line's output off. A receive line that is at the break
level stays there (the model's choice, log 22), and the Bank's records, the guard and the depth take in START the
values of log 25 (the model's choice). The restart after a repair: due at the delivery or loss of the answer or at
its deadline, and then as the reset line; before that, nothing. What TRIAL holds while it is EMPTY is the model's
choice (log 43). -/
def Obligations.ResetEntersStart : Prop :=
  (∀ (t : Nat) (cut : WriteCut) (s : State), ∃ s',
      exec (.powerOn t cut) s = .next s' ∧ exec (.resetLine t cut) s = .next s'
        ∧ s'.device = .start ∧ s'.hull = none ∧ s'.working = none
        ∧ s'.live = Area.empty ∧ s'.version = 0 ∧ s'.owner = .empty ∧ s'.trial = Area.empty
        ∧ (∀ l, s'.sets.get l = LinkSets.reset) ∧ s'.ready = [] ∧ s'.tracker = []
        ∧ s'.bank = Bank.reset ∧ s'.unit = none ∧ s'.sched = Sched.reset
        ∧ s'.crit = [] ∧ s'.verdict = none ∧ s'.serial = 0 ∧ s'.published = false
        ∧ (∀ h, s'.holds.get h = HoldLine.reset ∧ (s'.holds.get h).conducts = false)
        ∧ s'.ring = Ring.reset ∧ s'.look = LookResult.reset
        ∧ (∀ l, s'.lius.get l = Liu.reset l (s.lius.get l).inBreak)
        ∧ s'.store.job = none ∧ s'.store.lastJob = none ∧ s'.store.writeError = false
        ∧ s'.store.waitingAdopt = false ∧ s'.store.restart = none)
    ∧ (∀ (t : Nat) (s : State) (w : RestartWait), s.store.restart = some w → s.store.job = none →
          ((w.due = true ∨ w.deadline ≤ max s.now t) →
              ∀ cut, exec (.restart t) s = exec (.resetLine t cut) s)
            ∧ (w.due = false → max s.now t < w.deadline → exec (.restart t) s = .next s))

/-- Power-on and the reset line empty the Stager: every open-set slot of every link, the ready list and every
outcome record are empty; no SET-DONE is raised; LIVE is empty until start-up builds it, so no staged edit survives. -/
def Obligations.ResetEmptiesTheStager : Prop :=
  ∀ (t : Nat) (cut : WriteCut) (s s' : State),
    (exec (.powerOn t cut) s = .next s' ∨ exec (.resetLine t cut) s = .next s') →
    (∀ l, (s'.sets.get l).open1 = none ∧ (s'.sets.get l).open2 = none ∧ (s'.sets.get l).outcomes = []
        ∧ (s'.lius.get l).slots.setDone = none)
      ∧ s'.ready = [] ∧ s'.live = Area.empty ∧ s'.device = .start
      ∧ ∀ t' badSections badSlots s'' l, exec (.startUpEnd t' badSections badSlots) s' = .next s'' →
          s''.live.lots = [] ∧ (s''.sets.get l).open1 = none ∧ (s''.sets.get l).open2 = none ∧ s''.ready = []

/-- What power-on and the reset line leave in the non-volatile store. Whatever job runs, the lock marks, the freeze mark,
the identity record and the factory serial are as they were. Sections and slots are as they were where no job runs, and
where a RECALL, a SELF-CHECK, a LOCK, a FREEZE or an IDENTITY-WRITE runs. A SAVE or REFERENCE-WRITE leaves the slot it
was writing bad and the rest as it was. A LEAVE-CONFIG leaves the slots as they were, the sections that had verified as
written, the one being written bad and the others as they were; how far the write was comes with the command (the
model's choice, log 6). -/
def Obligations.ResetKeepsTheNonVolatileStore : Prop :=
  ∀ (t : Nat) (cut : WriteCut) (s s' : State),
    (exec (.powerOn t cut) s = .next s' ∨ exec (.resetLine t cut) s = .next s') →
    let kept := s'.store.sections = s.store.sections ∧ s'.store.slots = s.store.slots
    s'.store.lockSections = s.store.lockSections ∧ s'.store.lockSlots = s.store.lockSlots
      ∧ s'.store.frozen = s.store.frozen ∧ s'.store.identity = s.store.identity
      ∧ s'.store.factorySerial = s.store.factorySerial
      ∧ (s.store.job = none → kept)
      ∧ (∀ n, s.store.job = some (.recall n) → kept)
      ∧ (∀ n ref, s.store.job = some (.selfCheck n ref) → kept)
      ∧ (∀ q, s.store.job = some (.lock q) → kept)
      ∧ (s.store.job = some .freeze → kept)
      ∧ (∀ i, s.store.job = some (.identityWrite i) → kept)
      ∧ (∀ n v k, s.store.job = some (.save n v k) →
          s'.store.sections = s.store.sections ∧ s'.store.slots = s.store.slots.set n .bad)
      ∧ (∀ n r, s.store.job = some (.referenceWrite n r) →
          s'.store.sections = s.store.sections ∧ s'.store.slots = s.store.slots.set n .bad)
      ∧ (∀ ns w, s.store.job = some (.leaveConfig ns) → s.working = some w →
          let verified := s.store.sections.writeAll w (ns.take cut.verified)
          s'.store.slots = s.store.slots
            ∧ ((cut.torn = false ∨ ns.length ≤ cut.verified) → s'.store.sections = verified)
            ∧ (∀ n, cut.torn = true → ns[cut.verified]? = some n →
                s'.store.sections = verified.write w false n))

/-- Start-up with every section good and valid ends in RUN: LIVE is built anew, the channels that are bound and
enabled are FILLING with their rest value held, the others DISABLED; a PERIODIC request is recorded, and every line
stays asserted. Where station indices start in the table follows log 11 (the model's reading). -/
def Obligations.StartUpEndsInRun : Prop :=
  ∀ (t : Nat) (badSections : BitVec 8) (badSlots : BitVec 16) (s : State) (h : Hull),
    s.device = .start → (s.store.sections.spoil badSections).full = some h →
    (s.store.sections.spoil badSections).failure = none →
    ∃ s', exec (.startUpEnd t badSections badSlots) s = .next s'
      ∧ s'.device = .run ∧ s'.hull = some h ∧ s'.working = none
      ∧ s'.live.constants = List.replicate 16 ConstItem.absent ∧ s'.live.lots = [] ∧ s'.live.mode = .harbour
      ∧ s'.live.tanks.length = h.s4.length
      ∧ (∀ k ∈ s'.live.tanks, k.volume = 0 ∧ k.density = 1025)
      ∧ s'.live.cranes = h.s5.map (fun c => { height := c.height, attached := none })
      ∧ s'.version = s.version ∧ s'.crit = buildTable h ∧ s'.verdict = s.verdict ∧ s'.serial = s.serial
      ∧ s'.bank.channels = h.s7.channels.map (fun c =>
          { cfg := c, state := if c.enable && c.binding.isSome then .filling else .disabled, sum := 0, count := 0
            value := restValue c.min c.max, held := true, railRun := 0, watch := .clear
            timer := if c.enable && c.binding.isSome then some (max s.now t + c.stale) else none })
      ∧ s'.tracker = h.s5.map (fun _ => { lastNet := 0, peak := none })
      ∧ s'.ring.guard = h.s7.guard ∧ s'.ring.depth = h.s7.depth
      ∧ s'.sched.livePending = true ∧ s'.sched.causes &&& 1#6 = 1#6
      ∧ (∀ l, (s'.holds.get l).asserted = true)

/-- Start-up with a bad section or a failed validation ends in HULL-FAULT, with no section in force, a working copy
of what read good, and every line asserted. The failure recorded is the first over the sections that read good (the
model's reading, log 33). The order of tests within a section and the item of a cross test follow log 44 (the
model's reading). -/
def Obligations.StartUpEndsInHullFault : Prop :=
  ∀ (t : Nat) (badSections : BitVec 8) (badSlots : BitVec 16) (s : State),
    s.device = .start → s.hull = none →
    ((s.store.sections.spoil badSections).full = none ∨ (s.store.sections.spoil badSections).failure ≠ none) →
    ∃ s', exec (.startUpEnd t badSections badSlots) s = .next s'
      ∧ s'.device = .hullFault ∧ s'.hull = none
      ∧ s'.working = some (s.store.sections.spoil badSections).working
      ∧ s'.store.startRecord = some { asRead := s.store.sections.spoil badSections
                                      failure := (s.store.sections.spoil badSections).failure }
      ∧ s'.live = s.live ∧ s'.crit = s.crit ∧ s'.bank = s.bank ∧ s'.sched = s.sched
      ∧ (∀ l, (s'.holds.get l).asserted = true)

/-! ## Segments, replies and sending -/

/-- A segment arriving outside START is judged by the tests of R197 in order: a failed check is answered DISCARD and
counted; the last bit again ACCEPT and nothing else; too little room BACK-OFF and counted; otherwise ACCEPT, with the
data taken and the bit kept. In START every segment is answered BACK-OFF and nothing is taken or counted. The bit of
a reply to a segment that failed its check, and of a reply in START, is bit 0 of the unit's first byte (the model's
reading, log 28). -/
def Obligations.SegmentsAreJudged : Prop :=
  (∀ (t : Nat) (l : Link) (rx : RxUnit) (s : State),
      s.device ≠ .start → (s.lius.get l).inBreak = false → rx.present = true → rx.isReply = false →
      (segmentOf rx = none →
          exec (.segmentArrival t l rx) s = .next (settle (modifyLiu l (fun u =>
            { u with tx := replyUnitBytes (rxSeqBit rx) .discard :: u.tx
                     summary := { u.summary with discards := bump u.summary.discards } }) (atTime t s))))
        ∧ ∀ g, segmentOf rx = some g →
            ((s.lius.get l).lastIn = some g.seq →
                exec (.segmentArrival t l rx) s = .next (settle (modifyLiu l (fun u =>
                  { u with tx := replyUnitBytes g.seq .accept :: u.tx }) (atTime t s))))
            ∧ ((s.lius.get l).lastIn ≠ some g.seq → (s.lius.get l).freeBytes < 32 →
                exec (.segmentArrival t l rx) s = .next (settle (modifyLiu l (fun u =>
                  { u with tx := replyUnitBytes g.seq .backOff :: u.tx
                           summary := { u.summary with backOffs := bump u.summary.backOffs } }) (atTime t s))))
            ∧ ((s.lius.get l).lastIn ≠ some g.seq → 32 ≤ (s.lius.get l).freeBytes →
                exec (.segmentArrival t l rx) s = .next (settle (modifyLiu l (fun u =>
                  { u.assemble g with tx := replyUnitBytes g.seq .accept :: (u.assemble g).tx
                                      lastIn := some g.seq }) (atTime t s)))))
    ∧ (∀ (t : Nat) (l : Link) (rx : RxUnit) (s : State),
          s.device = .start → (s.lius.get l).inBreak = false → rx.present = true → rx.isReply = false →
          exec (.segmentArrival t l rx) s = .next (modifyLiu l (fun u =>
            { u with tx := replyUnitBytes (rxSeqBit rx) .backOff :: u.tx }) (atTime t s)))

/-- A reply to the segment in flight: an ACCEPT inverts the bit and ends the message or sends its next segment; a
DISCARD sends the segment again; a BACK-OFF waits 50 ms. The ACCEPT that ends the answer of a repair makes the
restart due. A reply of another bit, a bad reply, or one with nothing in flight is disregarded. The resend timer's
expiry sends the same segment with the same bit and starts the timer again; before it, and with the timer stopped,
nothing happens. A segment is put on the line, and its timer started, at the event that sends it, its time on the
line left out (the model's choice, logs 3 and 26). -/
def Obligations.RepliesAndResends : Prop :=
  (∀ (t : Nat) (l : Link) (rx : RxUnit) (s : State), ((s.lius.get l).outbound = none ∨ replyOf rx = none) →
      exec (.replyUnit t l rx) s = .next s)
    ∧ (∀ (t : Nat) (l : Link) (s : State), (s.lius.get l).resend = none →
        exec (.resendTimerExpiry t l) s = .next s)
    ∧ (∀ (t : Nat) (l : Link) (rx : RxUnit) (s : State) (o : Outbound) (bit : Bool) (r : ReplyKind),
      (s.lius.get l).outbound = some o → replyOf rx = some (bit, r) →
      (bit ≠ (s.lius.get l).nextOut → exec (.replyUnit t l rx) s = .next s)
        ∧ (bit = (s.lius.get l).nextOut → o.restart = false → r = .accept → segmentIsLast o.bytes o.index = true →
            exec (.replyUnit t l rx) s = .next (settle (modifyLiu l (fun u =>
              { u with nextOut := !bit, outbound := none, resend := none }) (atTime t s))))
        ∧ (bit = (s.lius.get l).nextOut → o.restart = true → r = .accept → segmentIsLast o.bytes o.index = true →
            exec (.replyUnit t l rx) s = .next (settle (modifyLiu l (fun u =>
              { u with nextOut := !bit, outbound := none, resend := none })
              { atTime t s with store := { s.store with
                  restart := s.store.restart.map (fun w => { w with due := true }) } })))
        ∧ (bit = (s.lius.get l).nextOut → r = .accept → segmentIsLast o.bytes o.index = false →
            exec (.replyUnit t l rx) s = .next (settle (modifyLiu l (fun u =>
              { u with nextOut := !bit, outbound := some { o with index := o.index + 1 }
                       resend := some (max s.now t + 50)
                       tx := segmentUnit o.bytes (o.index + 1) (!bit) :: u.tx }) (atTime t s))))
        ∧ (bit = (s.lius.get l).nextOut → r = .discard →
            exec (.replyUnit t l rx) s = .next (settle (modifyLiu l (fun u =>
              { u with resend := some (max s.now t + 50), tx := segmentUnit o.bytes o.index bit :: u.tx }) (atTime t s))))
        ∧ (bit = (s.lius.get l).nextOut → r = .backOff →
            exec (.replyUnit t l rx) s = .next (settle (modifyLiu l (fun u =>
              { u with resend := some (max s.now t + 50) }) (atTime t s)))))
    ∧ (∀ (t : Nat) (l : Link) (s : State) (o : Outbound) (e : Nat),
          (s.lius.get l).outbound = some o → (s.lius.get l).resend = some e →
          (e ≤ max s.now t →
              exec (.resendTimerExpiry t l) s = .next (settle (modifyLiu l (fun u =>
                { u with resend := some (max s.now t + 50), tx := segmentUnit o.bytes o.index u.nextOut :: u.tx })
                (atTime t s))))
            ∧ (max s.now t < e → exec (.resendTimerExpiry t l) s = .next s))

/-- With no message being sent, the LIU chooses: a response after a notice and a notice after a response where both
wait, and the one that waits where only one does; a chosen response frees its entry, and a chosen notice empties its
slot. -/
def Obligations.SendingAlternates : Prop :=
  ∀ (u : Liu) (now : Nat) (r : Response) (rest : List Response) (n : Notice),
    u.outbound = none → u.inBreak = false →
    (u.ready = r :: rest → (u.nextNotice = none ∨ u.lastNotice = true) →
        (u.settle .run now).outbound = some { bytes := responseMessage r, index := 0, restart := r.restart }
          ∧ (u.settle .run now).ready = rest ∧ (u.settle .run now).lastNotice = false
          ∧ (u.settle .run now).slots = u.slots)
      ∧ (u.nextNotice = some n → (u.ready = [] ∨ u.lastNotice = false) →
          (u.settle .run now).outbound = some { bytes := noticeMessage n u.mark, index := 0, restart := false }
            ∧ (u.settle .run now).slots = u.slots.set n.kind none ∧ (u.settle .run now).lastNotice = true
            ∧ (u.settle .run now).lastKind = n.kind ∧ (u.settle .run now).ready = u.ready)
      ∧ (u.ready = [] → u.nextNotice = none → u.settle .run now = u)

/-- A break on a link resets that link: its whole LIU stands as after a reset with the line at break level, its sets
and outcome record are gone. On the deck or ballast link its hold timers stop; a HOLD notice that this raises stands
in the link's own HOLD slot after the reset, replacements counted (the model's choice of order, log 30), and with no
timer running the LIU is the reset one exactly. On the planning link a held ENTER-CONFIG is dropped, the restart is
due where the answer of a repair is lost, and a RECALLED TRIAL is released with its waiting ADOPT, whose notice
stands in the link's own slot. The other links keep their sets, queues, settings and marks, and LIVE, the ring and
the rest stand. A break that goes on does nothing more. The end of a break lets the LIU send again. What TRIAL holds
while it is EMPTY is the model's choice (log 43). -/
def Obligations.LinkResetsAndTheirEnd : Prop :=
  let others (l : Link) (s s' : State) : Prop := ∀ l', l' ≠ l →
    let u := s.lius.get l'
    let u' := s'.lius.get l'
    s'.sets.get l' = s.sets.get l' ∧ u'.inbound = u.inbound ∧ u'.assembly = u.assembly ∧ u'.lastIn = u.lastIn
      ∧ u'.owed = u.owed ∧ u'.nextOut = u.nextOut ∧ u'.selection = u.selection ∧ u'.clearOnRead = u.clearOnRead
      ∧ u'.mark = u.mark ∧ u'.inBreak = u.inBreak
  (∀ (t : Nat) (l : Link) (s : State), (s.lius.get l).inBreak = false → l ≠ .planning →
      ∃ s', exec (.linkReset t l) s = .next s'
        ∧ (∃ hold replaced, s'.lius.get l = { Liu.reset l true with
              slots := { NoticeSlots.reset with hold := hold }
              summary := { Summary.zero with replaced := replaced } }
            ∧ (hold = none → replaced = 0) ∧ replaced ≤ 3)
        ∧ ((∀ h, (s.holds.get h).timer l = none) → s'.lius.get l = Liu.reset l true ∧ s'.holds = s.holds)
        ∧ s'.sets.get l = LinkSets.reset ∧ s'.ready = s.ready.filter (fun r => r.link != l)
        ∧ (∀ h, (s'.holds.get h).timer l = none)
        ∧ (∀ l', l' ≠ l → ∀ h, (s'.holds.get h).timer l' = (s.holds.get h).timer l')
        ∧ others l s s'
        ∧ s'.live = s.live ∧ s'.ring = s.ring ∧ s'.store = s.store ∧ s'.sched = s.sched ∧ s'.owner = s.owner)
    ∧ (∀ (t : Nat) (s : State), (s.lius.get .planning).inBreak = false →
          let u := s.lius.get .planning
          let released := s.owner = .recalled ∧ s.store.waitingAdopt = true
          ∃ s', exec (.linkReset t .planning) s = .next s'
            ∧ (released → s'.lius.get .planning = { Liu.reset .planning true with
                slots := { NoticeSlots.reset with archive := some (.archive
                  { job := .adopt, target := none, code := .refusedState, check := none
                    writeError := s.store.writeError, owner := .empty, version := s.version }) } })
            ∧ (¬ released → s'.lius.get .planning = Liu.reset .planning true)
            ∧ s'.sched = { s.sched with heldEnter := false }
            ∧ s'.store = { s.store with
                restart := s.store.restart.map (fun w =>
                  { w with due := w.due || u.ready.any (·.restart) || u.outbound.any (·.restart) })
                waitingAdopt := s.store.waitingAdopt && s.owner != .recalled }
            ∧ (s.owner = .recalled → s'.owner = .empty ∧ s'.trial = Area.empty)
            ∧ (s.owner ≠ .recalled → s'.owner = s.owner ∧ s'.trial = s.trial)
            ∧ s'.sets.get .planning = LinkSets.reset ∧ s'.ready = s.ready.filter (fun r => r.link != .planning)
            ∧ others .planning s s'
            ∧ s'.live = s.live ∧ s'.version = s.version ∧ s'.holds = s.holds ∧ s'.ring = s.ring ∧ s'.bank = s.bank)
    ∧ (∀ (t : Nat) (l : Link) (s : State), (s.lius.get l).inBreak = true →
          exec (.linkReset t l) s = .next s
          ∧ exec (.linkBreakEnd t l) s = .next (settle (modifyLiu l (fun u => { u with inBreak := false }) (atTime t s))))

/-! ## Requests: form, rights, answers, notices, reads -/

/-- A request of any kind that is wrong in form is answered MALFORMED, and nothing else happens. A message whose
header names no defined kind is taken and answered MALFORMED; nothing else happens. The answer to such a message
carries request kind 0 (the model's reading, log 15). -/
def Obligations.MalformedRequestsAreRefused : Prop :=
  (MalformedIsRefused 1 readSetMessage .changeSetMessage ∧ MalformedIsRefused 2 noFields .readSets
      ∧ MalformedIsRefused 3 readAttach .attach ∧ MalformedIsRefused 4 readLotId .detach
      ∧ MalformedIsRefused 5 readLotId .forceLand ∧ MalformedIsRefused 6 noFields .readHooks
      ∧ MalformedIsRefused 7 readStepWork .stepAppend ∧ MalformedIsRefused 8 (readNat 2) .stepWithdraw
      ∧ MalformedIsRefused 9 readStepDone .stepDone ∧ MalformedIsRefused 10 readSeqSet .seqSet
      ∧ MalformedIsRefused 11 readSequenceForm .readSequence ∧ MalformedIsRefused 12 readLookRange .readLookahead
      ∧ MalformedIsRefused 13 readChannelSet .channelSet ∧ MalformedIsRefused 14 (readNat 1) .channelEnable
      ∧ MalformedIsRefused 15 (readNat 1) .channelDisable ∧ MalformedIsRefused 16 readChannelRange .readChannels
      ∧ MalformedIsRefused 17 (readEnum allLines) .holdAck ∧ MalformedIsRefused 18 readTimedHold .timedHold
      ∧ MalformedIsRefused 19 noFields .readHolds ∧ MalformedIsRefused 20 readVerdictPart .readVerdict
      ∧ MalformedIsRefused 21 noFields .evaluateNow ∧ MalformedIsRefused 22 noFields .readScheduler
      ∧ MalformedIsRefused 23 readConditionForm .readCondition ∧ MalformedIsRefused 24 noFields .enterConfig
      ∧ MalformedIsRefused 25 readHullItem .hullWrite ∧ MalformedIsRefused 26 noFields .leaveConfig
      ∧ MalformedIsRefused 27 readSlot .save ∧ MalformedIsRefused 28 readSlot .recall
      ∧ MalformedIsRefused 29 readSlot .selfCheck ∧ MalformedIsRefused 30 readReference .referenceWrite
      ∧ MalformedIsRefused 31 readTarget .lock ∧ MalformedIsRefused 32 noFields .freeze
      ∧ MalformedIsRefused 33 readIdentityFields .identityWrite ∧ MalformedIsRefused 34 noFields .releaseTrial
      ∧ MalformedIsRefused 35 noFields .adopt ∧ MalformedIsRefused 36 noFields .readStore
      ∧ MalformedIsRefused 37 noFields .readArchive ∧ MalformedIsRefused 38 noFields .readIdentity
      ∧ MalformedIsRefused 39 readHullForm .readHull ∧ MalformedIsRefused 40 readSelection .noticeSelect
      ∧ MalformedIsRefused 41 readFlag .linkSet ∧ MalformedIsRefused 42 noFields .readSummary)
    ∧ (∀ t l s m, takeable 0 l s = some m →
          exec (.unknownRequestKind t l) s = .next (answered l 0 m .malformed [] (handed t l s)))

/-- Each request that the table of rights gives to some links only is refused REFUSED-RIGHTS from the others, and then
nothing else happens. -/
def Obligations.RightsAreHeld : Prop :=
  OnlyGivenTo 1 readSetMessage .changeSetMessage (fun l q => q.edits.all (fun e => e.owner == l))
    ∧ OnlyGivenTo 3 readAttach .attach (fun l _ => l == .deck)
    ∧ OnlyGivenTo 4 readLotId .detach (fun l _ => l == .deck)
    ∧ OnlyGivenTo 5 readLotId .forceLand (fun l _ => l == .deck)
    ∧ OnlyGivenTo 7 readStepWork .stepAppend (fun l w =>
        l == .planning || (l == .ballast && (match w with | .lot _ _ _ => false | .ballast _ _ => true)))
    ∧ OnlyGivenTo 8 (readNat 2) .stepWithdraw (fun l _ => l == .planning || l == .ballast)
    ∧ OnlyGivenTo 9 readStepDone .stepDone (fun l _ => l == .ballast)
    ∧ OnlyGivenTo 10 readSeqSet .seqSet (fun l _ => l == .planning)
    ∧ OnlyGivenTo 13 readChannelSet .channelSet (fun l _ => l == .planning)
    ∧ OnlyGivenTo 14 (readNat 1) .channelEnable (fun l _ => l == .planning)
    ∧ OnlyGivenTo 15 (readNat 1) .channelDisable (fun l _ => l == .planning)
    ∧ OnlyGivenTo 17 (readEnum allLines) .holdAck (fun l _ => l == .deck)
    ∧ OnlyGivenTo 18 readTimedHold .timedHold (fun l _ => l == .deck || l == .ballast)
    ∧ OnlyGivenTo 24 noFields .enterConfig (fun l _ => l == .planning)
    ∧ OnlyGivenTo 25 readHullItem .hullWrite (fun l _ => l == .planning)
    ∧ OnlyGivenTo 26 noFields .leaveConfig (fun l _ => l == .planning)
    ∧ OnlyGivenTo 27 readSlot .save (fun l _ => l == .planning)
    ∧ OnlyGivenTo 28 readSlot .recall (fun l _ => l == .planning)
    ∧ OnlyGivenTo 29 readSlot .selfCheck (fun l _ => l == .planning)
    ∧ OnlyGivenTo 30 readReference .referenceWrite (fun l _ => l == .planning)
    ∧ OnlyGivenTo 31 readTarget .lock (fun l _ => l == .planning)
    ∧ OnlyGivenTo 32 noFields .freeze (fun l _ => l == .planning)
    ∧ OnlyGivenTo 33 readIdentityFields .identityWrite (fun l _ => l == .planning)
    ∧ OnlyGivenTo 34 noFields .releaseTrial (fun l _ => l == .planning)
    ∧ OnlyGivenTo 35 noFields .adopt (fun l _ => l == .planning)

/-- A change-set message with an edit of a kind its link holds no right to is refused REFUSED-RIGHTS whole: nothing of
it is staged. The planning link holds LOT-ENTER, LOT-AMEND, LOT-DROP, CONST-SET and MODE-SET, the deck link LOT-PLACE,
LOT-REMOVE, LOT-SHIFT and CRANE-HEIGHT, the ballast link TANK-STATE, TANK-DENSITY and TANK-SOURCE; every link may send
a message of its own kinds, so a set holds edits of one link's kinds only, whatever the hull data say. -/
def Obligations.EditRightsAreHeld : Prop :=
  let right (l : Link) (e : Edit) : Prop :=
    match e with
    | .lotEnter _ _ _ _ _ | .lotAmend _ _ _ _ _ | .lotDrop _ | .constSet _ _ _ | .modeSet _ => l = .planning
    | .lotPlace _ _ | .lotRemove _ | .lotShift _ _ | .craneHeight _ _ => l = .deck
    | .tankState _ _ | .tankDensity _ _ | .tankSource _ _ => l = .ballast
  ∀ t l s m q, Taken 1 readSetMessage l m q s →
    ((∃ e ∈ q.edits, ¬ right l e) →
        exec (.changeSetMessage t l) s = .next (answered l 1 m .refusedRights [] (handed t l s)))
    ∧ ((∀ e ∈ q.edits, right l e) → ∃ s' code body, code ≠ .refusedRights ∧
        exec (.changeSetMessage t l) s = .next (answered l 1 m code body s'))
    ∧ ∀ s' r, exec (.changeSetMessage t l) s = .next s' → r ∈ s'.ready → r ∉ s.ready →
        (∀ o, (s.sets.get l).find q.tag = some o → ∀ e ∈ o.edits, right l e) → r.link = l ∧ ∀ e ∈ r.edits, right l e

/-- Answering: the response stands last among the READY ones with the request's tag, kind and code and the link's
verdict-ready mark, it is counted once as accepted or refused, a counter at 255 staying there, and nothing else
changes before the links choose what to send. A notice is raised at a link that selects its kind or is named
whatever it selects: an empty slot takes it; unsent content is replaced whole and counted, saturating at 255; at the
other links, and in the other slots, nothing changes. A request whose answer is owed, to a store job or to a held
ENTER-CONFIG, takes a RESERVED entry with its tag and kind and is not counted; when the answer comes the entry
stands last among the READY ones, with that tag and kind and the mark as it then stands, and is counted; with no
such entry the answer is discarded and nothing changes. -/
def Obligations.AnswersAndNoticesAreQueued : Prop :=
  (∀ (l : Link) (kind tag : Nat) (code : Code) (body : List Byte) (s : State),
      let u := s.lius.get l
      let u' := (respond l kind tag (.answer code body) s).lius.get l
      let good := code = .done ∨ code = .staged ∨ code = .stillActive
      u'.ready = u.ready ++
          [{ kind := kind, tag := tag, code := code, mark := u.mark, body := body, restart := false }]
        ∧ (u.summary.accepted ≤ 255 → good →
            u'.summary = { u.summary with accepted := min 255 (u.summary.accepted + 1) })
        ∧ (u.summary.refused ≤ 255 → ¬ good →
            u'.summary = { u.summary with refused := min 255 (u.summary.refused + 1) })
        ∧ u' = { u with ready := u'.ready, summary := u'.summary }
        ∧ respond l kind tag (.answer code body) s = { s with lius := s.lius.set l u' })
    ∧ (∀ (forced : Link → Bool) (n : Notice) (s : State) (l : Link),
          let u := s.lius.get l
          let u' := (raiseNotice forced n s).lius.get l
          (forced l = false → u.selection.getLsbD (n.kind.num - 1) = false → u' = u)
            ∧ ((forced l = true ∨ u.selection.getLsbD (n.kind.num - 1) = true) →
                (u.slots.get n.kind = none → u' = { u with slots := u.slots.set n.kind (some n) })
                  ∧ ∀ old, u.slots.get n.kind = some old → u.summary.replaced ≤ 255 →
                      u' = { u with slots := u.slots.set n.kind (some n)
                                    summary := { u.summary with replaced := min 255 (u.summary.replaced + 1) } })
            ∧ raiseNotice forced n s = { s with lius := (raiseNotice forced n s).lius })
    ∧ (∀ (l : Link) (kind tag : Nat) (enter : Bool) (s : State),
          respond l kind tag (.owed enter) s = modifyLiu l (fun u =>
            { u with owed := u.owed ++ [{ enter := enter, tag := tag, kind := kind }] }) s)
    ∧ (∀ (enter restart : Bool) (code : Code) (body : List Byte) (s : State),
          let u := s.lius.get .planning
          let u' := (answerOwed enter code body restart s).lius.get .planning
          let good := code = .done ∨ code = .staged ∨ code = .stillActive
          ((∀ o ∈ u.owed, o.enter ≠ enter) → answerOwed enter code body restart s = s)
            ∧ ∀ before o after', u.owed = before ++ o :: after' → (∀ x ∈ before ++ after', x.enter ≠ enter) →
                o.enter = enter →
                u'.owed = before ++ after'
                  ∧ u'.ready = u.ready ++ [{ kind := o.kind, tag := o.tag, code := code, mark := u.mark, body := body
                                             restart := restart }]
                  ∧ (u.summary.accepted ≤ 255 → good →
                      u'.summary = { u.summary with accepted := min 255 (u.summary.accepted + 1) })
                  ∧ (u.summary.refused ≤ 255 → ¬ good →
                      u'.summary = { u.summary with refused := min 255 (u.summary.refused + 1) })
                  ∧ u' = { u with owed := u'.owed, ready := u'.ready, summary := u'.summary }
                  ∧ answerOwed enter code body restart s = { s with lius := s.lius.set .planning u' })

/-- The reads of the condition, the hooks, the channels, the lines and the sets answer DONE with what stands, and
nothing else changes. A read of a TRIAL that is not RECALLED is refused REFUSED-STATE; a lot that the area does not
hold, a first tank beyond its tanks and a first channel above 23 are refused UNKNOWN-ITEM. The layout of their
fields follows logs 7, 8, 9, 10, 38 and 46, and a figure too large for its field log 35 (the model's choices). -/
def Obligations.ReadsOfTheShipAnswer : Prop :=
  ∀ t l s m,
    (∀ p bs, Taken 23 readConditionForm l m (false, p) s → partContent s s.live p = some bs →
        exec (.readCondition t l) s =
          .next (answered l 23 m .done (bs ++ [0] ++ be 4 s.version.toNat) (handed t l s)))
    ∧ (∀ p bs, Taken 23 readConditionForm l m (true, p) s → s.owner = .recalled → partContent s s.trial p = some bs →
        exec (.readCondition t l) s =
          .next (answered l 23 m .done (bs ++ [1] ++ be 4 s.version.toNat) (handed t l s)))
    ∧ (∀ trial p, Taken 23 readConditionForm l m (trial, p) s →
        let a := if trial = true then s.trial else s.live
        (trial = true → s.owner ≠ .recalled →
            exec (.readCondition t l) s = .next (answered l 23 m .refusedState [] (handed t l s)))
        ∧ ((trial = true → s.owner = .recalled) →
            ((∃ id, p = .lot id ∧ a.findLot id = none) ∨ ∃ first n, p = .tanks first n ∧ a.tanks.length ≤ first) →
            exec (.readCondition t l) s = .next (answered l 23 m .unknownItem [] (handed t l s))))
    ∧ (Taken 6 noFields l m () s →
        exec (.readHooks t l) s = .next (answered l 6 m .done
          (listField ((numbered 1 s.cranes).map fun c => hookAnswer s c.1 c.2) ++ be 4 s.version.toNat) (handed t l s)))
    ∧ (∀ first n, Taken 16 readChannelRange l m (first, n) s → first < 24 →
        exec (.readChannels t l) s = .next (answered l 16 m .done
          (listField (((s.bank.channels.drop first).take n).map (channelAnswer (max s.now t)))
            ++ be 2 s.bank.errors) (handed t l s)))
    ∧ (∀ first n, Taken 16 readChannelRange l m (first, n) s → 24 ≤ first →
        exec (.readChannels t l) s = .next (answered l 16 m .unknownItem [] (handed t l s)))
    ∧ (Taken 19 noFields l m () s →
        exec (.readHolds t l) s = .next (answered l 19 m .done
          (lineAnswer (handed t l s) .a ++ lineAnswer (handed t l s) .b ++ lineAnswer (handed t l s) .c
            ++ lineAnswer (handed t l s) .d ++ be 2 s.serial ++ be 1 s.device.num) (handed t l s)))
    ∧ (Taken 2 noFields l m () s →
        exec (.readSets t l) s = .next (answered l 2 m .done
          (optField 2 ((s.sets.get l).open1.map fun o => be 1 o.tag ++ be 1 o.edits.length)
            ++ optField 2 ((s.sets.get l).open2.map fun o => be 1 o.tag ++ be 1 o.edits.length)
            ++ listField (s.ready.map fun r => be 1 (linkNum r.link) ++ be 1 r.tag ++ be 1 r.edits.length)
            ++ listField ((s.sets.get l).outcomes.map outcomeBytes) ++ be 4 s.version.toNat) (handed t l s)))

/-- The reads of the sequence, the look-ahead and the scheduler answer DONE with what stands, and nothing else
changes; with no section 7 in force the scheduler's read reports a free value as the evaluation period and moves its
counter on (the model's choice, log 19). The reads of the store, the archive, the identity record and the hull items
answer DONE with what stands, and nothing else changes. A step the ring does not hold and an item beyond its count
are refused UNKNOWN-ITEM, and a hull item of a source that does not exist REFUSED-STATE. In HULL-FAULT a section
that read bad is told as one that differs (the model's choice, log 47). The places and ordinals of their fields
follow logs 8, 9, 10, 11 and 17, the width of indices and ordinals and the form of the hull number log 46, the bytes
of a directory entry that is EMPTY or INVALID log 16, a figure too large for its field log 35, the counts of entries
by link log 38, a next stage beyond the last log 39, and the lock marks and bad sections log 45 (the model's
choices). -/
def Obligations.ReadsOfThePlanAndStoreAnswer : Prop :=
  (∀ t l s m,
      (∀ start n, Taken 11 readSequenceForm l m (.range start n) s →
          exec (.readSequence t l) s = .next (answered l 11 m .done
            (listField (((s.ring.entries.drop start).take n).map stepBytes) ++ ringBytes s.ring) (handed t l s)))
      ∧ (∀ id e, Taken 11 readSequenceForm l m (.step id) s → s.ring.find id = some e →
          exec (.readSequence t l) s = .next (answered l 11 m .done (stepBytes e ++ ringBytes s.ring) (handed t l s)))
      ∧ (∀ id, Taken 11 readSequenceForm l m (.step id) s → s.ring.find id = none →
          exec (.readSequence t l) s = .next (answered l 11 m .unknownItem [] (handed t l s)))
      ∧ (∀ first n, Taken 12 readLookRange l m (first, n) s →
          exec (.readLookahead t l) s = .next (answered l 12 m .done
            (be 1 s.look.outcome.num ++ baseBytes s.look.base ++ flagByte (!s.lookCurrent) ++ be 4 s.version.toNat
              ++ be 4 s.ring.version.toNat
              ++ optField 4 (s.look.firstOver.map fun f => be 1 f.ordinal ++ be 2 f.step ++ be 1 f.kind.num)
              ++ be 1 s.look.records.length
              ++ listField (((s.look.records.drop (first - 1)).take n).map stageRecordBytes)
              ++ be 1 (runStateNum s.sched.run) ++ optField 1 (s.sched.run.map fun r => be 1 r.next)
              ++ be 1 s.owner.num) (handed t l s)))
      ∧ (Taken 22 noFields l m () s →
          let body (period : Nat) : List Byte :=
            flagByte s.unit.isSome ++ optField 1 (s.unit.map fun u => be 1 u.work.num)
              ++ optField 1 ((s.unit.bind fun u => u.work.ordinal?).map (be 1)) ++ flagByte s.sched.livePending
              ++ be 1 s.sched.causes.toNat ++ be 4 (timeLeft s.sched.periodic (max s.now t)) ++ be 2 period
              ++ flagByte s.sched.selfCheckWaiting ++ be 1 (runStateNum s.sched.run)
              ++ optField 9 (s.sched.run.map fun r =>
                  be 4 r.base.version.toNat ++ be 4 r.base.seq.toNat ++ be 1 r.next)
              ++ flagByte s.sched.heldEnter ++ be 2 s.serial ++ be 4 s.version.toNat ++ be 1 s.device.num
          (∀ h, s.hull = some h →
              exec (.readScheduler t l) s = .next (answered l 22 m .done (body h.s7.period) (handed t l s)))
            ∧ (s.hull = none → ∃ period, exec (.readScheduler t l) s =
                .next (answered l 22 m .done (body period) { handed t l s with freeReads := s.freeReads + 1 }))))
    ∧ (∀ t l s m,
          (Taken 36 noFields l m () s → exec (.readStore t l) s = .next (answered l 36 m .done
              (be 1 s.device.num ++ flagByte s.store.job.isSome
                ++ optField 4 (s.store.job.map fun j => be 1 j.kind.num ++ targetBytes j.target)
                ++ optField 5 (s.store.lastJob.map fun j =>
                    be 1 j.kind.num ++ targetBytes j.target ++ be 1 j.code.num)
                ++ flagByte s.store.writeError ++ flagByte s.store.frozen
                ++ (s.store.lockSections.map flagByte).flatten ++ (s.store.lockSlots.map flagByte).flatten
                ++ (allSections.map fun n => flagByte (!s.store.sections.good n)
                      ++ optField 1 (if s.device = .config then some (flagByte (s.edited n)) else none)
                      ++ optField 1 (if s.device = .hullFault then some (flagByte (s.repaired n)) else none)).flatten
                ++ startBytes s ++ flagByte s.store.waitingAdopt ++ be 1 s.owner.num) (handed t l s)))
          ∧ (Taken 37 noFields l m () s → exec (.readArchive t l) s = .next (answered l 37 m .done
              ((s.store.directory.zip s.store.lockSlots).map fun e => e.1.bytes ++ flagByte e.2).flatten (handed t l s)))
          ∧ (Taken 38 noFields l m () s → s.store.identity = none →
              exec (.readIdentity t l) s = .next (answered l 38 m .done
                (List.replicate 71 0 ++ s.store.factorySerial) (handed t l s)))
          ∧ (∀ i, Taken 38 noFields l m () s → s.store.identity = some i →
              exec (.readIdentity t l) s = .next (answered l 38 m .done
                ([1] ++ textBytes 32 i.name ++ i.hullNumber ++ textBytes 24 i.approval ++ be 2 i.year ++ be 1 i.month
                  ++ be 1 i.day ++ s.store.factorySerial) (handed t l s)))
          ∧ (∀ a h bs, Taken 39 readHullForm l m (a, false) s → s.hull = some h → h.content a = some bs →
              exec (.readHull t l) s = .next (answered l 39 m .done bs (handed t l s)))
          ∧ (∀ a h bs, Taken 39 readHullForm l m (a, true) s → s.working = some h → h.content a = some bs →
              exec (.readHull t l) s = .next (answered l 39 m .done bs (handed t l s)))
          ∧ (∀ a working, Taken 39 readHullForm l m (a, working) s →
              let source := if working = true then s.working else s.hull
              (source = none →
                  exec (.readHull t l) s = .next (answered l 39 m .refusedState [] (handed t l s)))
              ∧ ∀ h, source = some h → h.content a = none →
                  exec (.readHull t l) s = .next (answered l 39 m .unknownItem [] (handed t l s))))

/-- READ-VERDICT before the first publication is refused REFUSED-STATE; after it, every part is answered DONE, and
the SUMMARY read clears the reading link's verdict-ready mark, no other read and no other link's mark changing. The
margin sent beside OFF is the one the table keeps (the model's reading of R112, R117 and R121, log 14); the widths
of the fields follow logs 7 and 46, the start of station indices log 11, and a figure too large for its field log 35
(the model's choices). -/
def Obligations.ReadVerdictClearsTheMark : Prop :=
  ∀ t l s m q, Taken 20 readVerdictPart l m q s →
    (s.verdict = none → exec (.readVerdict t l) s = .next (answered l 20 m .refusedState [] (handed t l s)))
    ∧ ∀ v, s.verdict = some v →
      (q = .summary → exec (.readVerdict t l) s = .next (answered l 20 m .done (summaryPart v)
          (modifyLiu l (fun u => { u with mark := false }) (handed t l s))))
      ∧ (q = .strength → exec (.readVerdict t l) s = .next (answered l 20 m .done
          (be 2 v.serial ++ listField (v.figures.strength.map fun x => beS 4 x.sf ++ beS 4 x.bm)) (handed t l s)))
      ∧ (∀ first n, q = .criteria first n → exec (.readVerdict t l) s = .next (answered l 20 m .done
          (be 2 v.serial ++ be 1 v.entries.length ++ listField (((v.entries.drop first).take n).map critBytes))
          (handed t l s)))

/-- NOTICE-SELECT and LINK-SET write the requesting link's own selection and setting, whole, and nothing else: the
slots' contents stand, and the answer is the setting now in force. READ-SUMMARY answers the link's counters, its own
response counted, with the mark, the selection, the setting, the free bytes, the entries in use and the slots that
hold content; with clear-on-read ON the counters are then 0, and with it OFF only the count of the response itself
changes. -/
def Obligations.LinkRequestsActOnTheirLink : Prop :=
  (∀ t l s m,
      (∀ sel, Taken 40 readSelection l m sel s →
          exec (.noticeSelect t l) s = .next (answered l 40 m .done [BitVec.ofNat 8 sel.toNat]
            (modifyLiu l (fun u => { u with selection := sel }) (handed t l s))))
      ∧ (∀ on, Taken 41 readFlag l m on s →
          exec (.linkSet t l) s = .next (answered l 41 m .done [if on then 1 else 0]
            (modifyLiu l (fun u => { u with clearOnRead := on }) (handed t l s)))))
    ∧ (∀ t l s m, Taken 42 noFields l m () s →
          let u := (handed t l s).lius.get l
          let body := be 1 (min 255 (u.summary.accepted + 1)) ++ be 1 u.summary.refused ++ be 1 u.summary.backOffs
            ++ be 1 u.summary.discards ++ be 1 u.summary.overruns ++ be 1 u.summary.applied ++ be 1 u.summary.refusedSets
            ++ be 1 u.summary.replaced ++ flagByte u.mark ++ be 1 u.selection.toNat ++ flagByte u.clearOnRead
            ++ be 2 u.freeBytes ++ be 1 (u.usedEntries + 1) ++ be 1 u.slots.filled.toNat
          u.summary.accepted ≤ 255 →
          (u.clearOnRead = false → exec (.readSummary t l) s = .next (answered l 42 m .done body (handed t l s)))
            ∧ (u.clearOnRead = true → ∃ s', exec (.readSummary t l) s = .next s'
                ∧ (s'.lius.get l).summary = Summary.zero
                ∧ s' = settle (modifyLiu l (fun v => { v with summary := Summary.zero })
                    (respond l 42 m.requestTag (.answer .done body) (handed t l s)))))

/-! ## Change sets -/

/-- A change-set message that does not close its set: it continues the open set of its tag within 32 edits, or opens
one in an empty slot; else it is refused FULL and nothing is staged. Outside HULL-FAULT. A closing change-set
message: the set of up to 32 edits joins the ready list behind at most 7 others, its open slot becomes empty, the
answer names its place, and in RUN a live request with the CHANGE cause is raised; else it is refused FULL and
nothing changes. In HULL-FAULT it is refused REFUSED-STATE. The width of the set tag and of the place in the ready
list follows log 46 (the model's choice). -/
def Obligations.ChangeSetMessagesAreStaged : Prop :=
  (∀ t l s m q, Taken 1 readSetMessage l m q s → (q.edits.all fun e => e.owner == l) = true → q.final = false →
      s.device ≠ .hullFault →
      (∀ o, (s.sets.get l).find q.tag = some o →
          (o.edits.length + q.edits.length ≤ 32 → exec (.changeSetMessage t l) s = .next (answered l 1 m .staged
            (be 1 q.tag ++ be 1 (o.edits.length + q.edits.length) ++ [0, 0])
            { handed t l s with sets := s.sets.set l ((s.sets.get l).put { o with edits := o.edits ++ q.edits }) }))
          ∧ (32 < o.edits.length + q.edits.length →
              exec (.changeSetMessage t l) s = .next (answered l 1 m .full [] (handed t l s))))
      ∧ ((s.sets.get l).find q.tag = none →
          ((s.sets.get l).open1 = none → exec (.changeSetMessage t l) s = .next (answered l 1 m .staged
              (be 1 q.tag ++ be 1 q.edits.length ++ [0, 0])
              { handed t l s with
                sets := s.sets.set l { s.sets.get l with open1 := some { tag := q.tag, edits := q.edits } } }))
          ∧ ((s.sets.get l).open1.isSome = true → (s.sets.get l).open2 = none →
              exec (.changeSetMessage t l) s = .next (answered l 1 m .staged
                (be 1 q.tag ++ be 1 q.edits.length ++ [0, 0])
                { handed t l s with
                  sets := s.sets.set l { s.sets.get l with open2 := some { tag := q.tag, edits := q.edits } } }))
          ∧ ((s.sets.get l).open1.isSome = true → (s.sets.get l).open2.isSome = true →
              exec (.changeSetMessage t l) s = .next (answered l 1 m .full [] (handed t l s)))))
    ∧ (∀ t l s m q, Taken 1 readSetMessage l m q s → (q.edits.all fun e => e.owner == l) = true → q.final = true →
          let held := (((s.sets.get l).find q.tag).map (·.edits)).getD []
          let edits := held ++ q.edits
          (s.device = .hullFault → exec (.changeSetMessage t l) s = .next (answered l 1 m .refusedState [] (handed t l s)))
          ∧ (s.device ≠ .hullFault → edits.length ≤ 32 → s.ready.length < 8 →
              exec (.changeSetMessage t l) s = .next (answered l 1 m .staged
                (be 1 q.tag ++ be 1 edits.length ++ 1 :: be 1 (s.ready.length + 1))
                { handed t l s with
                  sets := s.sets.set l ((s.sets.get l).drop q.tag)
                  ready := s.ready ++ [{ link := l, tag := q.tag, edits := edits }]
                  sched := if s.device = .run then
                      { s.sched with livePending := true, causes := s.sched.causes ||| 0b010000#6 }
                    else s.sched }))
          ∧ (s.device ≠ .hullFault → (32 < edits.length ∨ 8 ≤ s.ready.length) →
              exec (.changeSetMessage t l) s = .next (answered l 1 m .full [] (handed t l s))))

/-- A set tried at a snapshot is applied whole, in its order, with the condition version one higher, or refused whole,
LIVE, the ring and the version standing. Either way its outcome is the newest of its link's last four, and SET-DONE
stands in its link's slot, an unsent one replaced and counted. The link's summary counts it as applied or as refused,
saturating at 255, and the rest of the link stands. -/
def Obligations.SetsApplyWholeOrNotAtAll : Prop :=
  let up (n : Nat) : Nat := if n < 255 then n + 1 else n
  ∀ (r : ReadySet) (s : State), ∃ o : SetOutcome,
    let u := s.lius.get r.link
    let replaced := if u.slots.setDone.isSome then up u.summary.replaced else u.summary.replaced
    ((applySet r s).sets.get r.link).outcomes = (o :: (s.sets.get r.link).outcomes).take 4
      ∧ o.tag = r.tag ∧ o.edits = r.edits.length ∧ o.version = (applySet r s).version
      ∧ (∀ l, l ≠ r.link → (applySet r s).sets.get l = s.sets.get l ∧ (applySet r s).lius.get l = s.lius.get l)
      ∧ (∀ w, tryEdits s.editEnv 0 { area := s.live, ring := s.ring } r.edits = .ok w →
          o.code = .done ∧ o.failure = none ∧ (applySet r s).live = w.area ∧ (applySet r s).ring = w.ring
            ∧ (applySet r s).version = s.version + 1
            ∧ (applySet r s).lius.get r.link = { u with
                slots := { u.slots with setDone := some (.setDone o) }
                summary := { u.summary with applied := up u.summary.applied, replaced := replaced } })
      ∧ (∀ c f, tryEdits s.editEnv 0 { area := s.live, ring := s.ring } r.edits = .error (c, f) →
          o.code = c ∧ o.failure = some f ∧ (applySet r s).live = s.live ∧ (applySet r s).ring = s.ring
            ∧ (applySet r s).version = s.version
            ∧ (applySet r s).lius.get r.link = { u with
                slots := { u.slots with setDone := some (.setDone o) }
                summary := { u.summary with refusedSets := up u.summary.refusedSets, replaced := replaced } })
      ∧ (applySet r s).sched = s.sched ∧ (applySet r s).holds = s.holds ∧ (applySet r s).tracker = s.tracker
      ∧ (applySet r s).bank = s.bank ∧ (applySet r s).store = s.store ∧ (applySet r s).trial = s.trial

/-- What each edit leaves of LIVE and the ring, or the code that refuses it. A lot is entered PLANNED, amended in the
fields named (a declared mass that differs removes the measured mass and the mark), dropped from the plan with its
steps withdrawn, placed with or without a position, shifted, or removed; one placed or shifted completes its sequence
steps as put down in its space, a removed one as gone ashore. CONST-SET, MODE-SET, CRANE-HEIGHT, TANK-STATE,
TANK-DENSITY and TANK-SOURCE write their one item and leave the rest. -/
def Obligations.EditsActOnTheirItem : Prop :=
  ∀ (env : EditEnv) (w : EditState),
    let unknown (p : Option Place) : Prop := ∃ q, p = some q ∧ spaceOf env.spaces q.space = none
    let fit (half : Int) (p : Option Place) : Prop := ∀ q, p = some q → fits env.spaces half q = true
    let put (lot : Lot) (p : Place) : EditState :=
      { area := w.area.putLot { lot with state := .stowed, place := some p, crane := none, resting := none
                                         dest := none }
        ring := w.ring.completeLot lot.id (some p.space) }
    (∀ (id : Nat) (declared half : Int) (planned : Option Place) (tag : Option (List Byte)),
        let try_ := tryEdit env w (.lotEnter id declared half planned tag)
        let inRange := 1 ≤ declared ∧ declared ≤ 20000 ∧ 0 ≤ half ∧ half ≤ 30000
        ((w.area.findLot id).isSome = true → try_ = .error .refusedState)
        ∧ (w.area.findLot id = none →
            (unknown planned → try_ = .error .unknownItem)
            ∧ (¬ unknown planned → ¬ (inRange ∧ fit half planned) → try_ = .error .refusedRange)
            ∧ (inRange → fit half planned → 512 ≤ w.area.lots.length → try_ = .error .full)
            ∧ (inRange → fit half planned → w.area.lots.length < 512 →
                try_ = .ok { w with area := { w.area with lots := w.area.lots ++
                  [{ id := id, declared := declared, measured := none, half := half, state := .planned, place := none
                     planned := planned, crane := none, resting := none, dest := none, discrepancy := false
                     tag := tag }] } })))
    ∧ (∀ (id : Nat) (lot : Lot), w.area.findLot id = some lot →
        (∀ (declared half : Option Int) (planned : Option (Option Place)) (tag : Option (Option (List Byte))),
            let try_ := tryEdit env w (.lotAmend id declared half planned tag)
            let d := declared.getD lot.declared
            let h := half.getD lot.half
            let inHand := lot.state = .slung ∨ lot.state = .lifted
            let good := (∀ m, declared = some m → 1 ≤ m ∧ m ≤ 20000) ∧ (∀ x, half = some x → 0 ≤ x ∧ x ≤ 30000)
              ∧ fit h (planned.getD none)
              ∧ (lot.state = .stowed → ∀ p, lot.place = some p →
                  ∃ r, spaceOf env.spaces p.space = some r ∧ r.xAft ≤ p.pos.x - h ∧ p.pos.x + h ≤ r.xFwd)
            (unknown (planned.getD none) → try_ = .error .unknownItem)
            ∧ (¬ unknown (planned.getD none) → inHand → try_ = .error .refusedState)
            ∧ (¬ unknown (planned.getD none) → ¬ inHand → ¬ good → try_ = .error .refusedRange)
            ∧ (¬ inHand → good → try_ = .ok { w with area := w.area.putLot { lot with
                declared := d, half := h, planned := planned.getD lot.planned, tag := tag.getD lot.tag
                measured := if d = lot.declared then lot.measured else none
                discrepancy := if d = lot.declared then lot.discrepancy else false } }))
        ∧ (lot.state = .planned → tryEdit env w (.lotDrop id) =
            .ok { area := w.area.freeLot id, ring := w.ring.withdrawLot id })
        ∧ (lot.state ≠ .planned → tryEdit env w (.lotDrop id) = .error .refusedState)
        ∧ (∀ p, (spaceOf env.spaces p.space = none →
              tryEdit env w (.lotPlace id (some p)) = .error .unknownItem
                ∧ tryEdit env w (.lotShift id p) = .error .unknownItem)
            ∧ ((spaceOf env.spaces p.space).isSome = true →
                (lot.state ≠ .planned → tryEdit env w (.lotPlace id (some p)) = .error .refusedState)
                ∧ (lot.state ≠ .stowed → tryEdit env w (.lotShift id p) = .error .refusedState)
                ∧ (fits env.spaces lot.half p = false →
                    (lot.state = .planned → tryEdit env w (.lotPlace id (some p)) = .error .refusedRange)
                    ∧ (lot.state = .stowed → tryEdit env w (.lotShift id p) = .error .refusedRange)))
            ∧ (fits env.spaces lot.half p = true →
                (lot.state = .planned → tryEdit env w (.lotPlace id (some p)) = .ok (put lot p))
                ∧ (lot.state = .stowed → tryEdit env w (.lotShift id p) = .ok (put lot p))))
        ∧ ((lot.state ≠ .planned ∨ lot.planned = none) → tryEdit env w (.lotPlace id none) = .error .refusedState)
        ∧ (∀ p, lot.state = .planned → lot.planned = some p →
            (fits env.spaces lot.half p = true → tryEdit env w (.lotPlace id none) = .ok (put lot p))
            ∧ (fits env.spaces lot.half p = false → tryEdit env w (.lotPlace id none) = .error .refusedRange))
        ∧ (lot.state = .stowed → tryEdit env w (.lotRemove id) =
            .ok { area := w.area.freeLot id, ring := w.ring.completeLot id none })
        ∧ (lot.state ≠ .stowed → tryEdit env w (.lotRemove id) = .error .refusedState))
    ∧ (∀ id, w.area.findLot id = none →
        (∀ d h p g, tryEdit env w (.lotAmend id d h p g) = .error .unknownItem)
          ∧ tryEdit env w (.lotDrop id) = .error .unknownItem ∧ tryEdit env w (.lotRemove id) = .error .unknownItem
          ∧ (∀ p, tryEdit env w (.lotPlace id p) = .error .unknownItem)
          ∧ ∀ p, tryEdit env w (.lotShift id p) = .error .unknownItem)
    ∧ (∀ (slot : Nat) (mass : Int) (p : Pos),
        let good := 0 ≤ mass ∧ mass ≤ 20000 ∧ -20000 ≤ p.x ∧ p.x ≤ 300000 ∧ -30000 ≤ p.y ∧ p.y ≤ 30000
          ∧ 0 ≤ p.z ∧ p.z ≤ 80000
        (15 < slot → tryEdit env w (.constSet slot mass p) = .error .unknownItem)
        ∧ (slot ≤ 15 → ¬ good → tryEdit env w (.constSet slot mass p) = .error .refusedRange)
        ∧ (slot ≤ 15 → good → tryEdit env w (.constSet slot mass p) = .ok { w with area := { w.area with
            constants := w.area.constants.set slot { mass := mass, pos := p } } }))
    ∧ (∀ m, tryEdit env w (.modeSet m) = .ok { w with area := { w.area with mode := m } })
    ∧ (∀ (crane : Nat) (height : Int),
        (nth1 env.cranes crane = none → tryEdit env w (.craneHeight crane height) = .error .unknownItem)
        ∧ ((nth1 env.cranes crane).isSome = true → (height < 0 ∨ 80000 < height) →
            tryEdit env w (.craneHeight crane height) = .error .refusedRange)
        ∧ ((nth1 env.cranes crane).isSome = true → 0 ≤ height → height ≤ 80000 →
            tryEdit env w (.craneHeight crane height) = .ok { w with area := { w.area with
              cranes := w.area.cranes.modify (crane - 1) (fun c => { c with height := height }) } }))
    ∧ (∀ (tank : Nat), env.tanks[tank]? = none →
        (∀ v, tryEdit env w (.tankState tank v) = .error .unknownItem)
          ∧ (∀ d, tryEdit env w (.tankDensity tank d) = .error .unknownItem)
          ∧ ∀ src, tryEdit env w (.tankSource tank src) = .error .unknownItem)
    ∧ (∀ (tank : Nat) (r : TankRec) (k : TankState), env.tanks[tank]? = some r → w.area.tanks[tank]? = some k →
        let left (k' : TankState) : Except Code EditState :=
          .ok { w with area := { w.area with tanks := w.area.tanks.set tank k' } }
        (∀ v : Int,
          (k.source = .gauged → tryEdit env w (.tankState tank v) = .error .refusedState)
          ∧ (k.source = .stated → (v < 0 ∨ r.capacity < v) →
              tryEdit env w (.tankState tank v) = .error .refusedRange)
          ∧ (k.source = .stated → 0 ≤ v → v ≤ r.capacity →
              tryEdit env w (.tankState tank v) = left { k with volume := v }))
        ∧ (∀ d : Int,
          ((d < 600 ∨ 2100 < d) → tryEdit env w (.tankDensity tank d) = .error .refusedRange)
          ∧ (600 ≤ d → d ≤ 2100 → tryEdit env w (.tankDensity tank d) = left { k with density := d }))
        ∧ tryEdit env w (.tankSource tank .stated) = left { k with source := .stated }
        ∧ (gaugeBound env.channels tank = true →
            tryEdit env w (.tankSource tank .gauged) = left { k with source := .gauged })
        ∧ (gaugeBound env.channels tank = false →
            tryEdit env w (.tankSource tank .gauged) = .error .refusedState))

/-! ## Cargo movements -/

/-- ATTACH of a PLANNED lot with a destination aboard, or of a STOWED lot with any, by a free crane in RUN: the lot is
SLUNG on that crane with its destination, ashore without a position or aboard where it stood, the crane holds it, and
the condition version does not move. ATTACH's refusals, in the order of its checks; a refused ATTACH changes nothing.
-/
def Obligations.AttachSlingsALot : Prop :=
  (∀ t s m q lot rec,
      Taken 3 readAttach .deck m q s → s.device = .run → s.live.findLot q.lot = some lot →
      nth1 s.cranes q.crane = some rec → s.live.attachedTo q.crane = none →
      ((lot.state = .planned ∧ q.dest ≠ .ashore) ∨ lot.state = .stowed) →
      (∀ p, q.dest = .aboard p → fits s.spaces lot.half p = true) →
      ∃ lot', lot' = { lot with
          state := .slung, crane := some q.crane, dest := some q.dest
          resting := some (if lot.state = .stowed then .aboard else .ashore)
          place := if lot.state = .stowed then lot.place else none }
        ∧ exec (.attach t .deck) s = .next (answered .deck 3 m .done
            (be 2 lot.id ++ [1, 1, if lot.state = .stowed then 1 else 0] ++ be 4 s.version.toNat)
            (raiseNotice forcedNone
              (.lot { event := .attach, lot := lot', freed := false, crane := q.crane, peak := none
                      version := s.version })
              { handed t .deck s with live := (s.live.putLot lot').setAttached q.crane (some lot.id) })))
    ∧ (∀ t s m q, Taken 3 readAttach .deck m q s →
          let refusedWith (c : Code) : Prop := exec (.attach t .deck) s = .next (answered .deck 3 m c [] (handed t .deck s))
          let missing := nth1 s.cranes q.crane = none ∨ ∃ p, q.dest = .aboard p ∧ spaceOf s.spaces p.space = none
          (s.device ≠ .run → refusedWith .refusedState)
          ∧ (s.device = .run → (s.live.findLot q.lot = none ∨ missing) → refusedWith .unknownItem)
          ∧ ∀ lot, s.device = .run → s.live.findLot q.lot = some lot → ¬ missing →
              (((lot.state = .slung ∨ lot.state = .lifted) ∨ (lot.state = .planned ∧ q.dest = .ashore)) →
                  refusedWith .refusedState)
              ∧ (((lot.state = .planned ∧ q.dest ≠ .ashore) ∨ lot.state = .stowed) →
                  ((s.live.attachedTo q.crane).isSome = true → refusedWith .busy)
                  ∧ ∀ p, s.live.attachedTo q.crane = none → q.dest = .aboard p → fits s.spaces lot.half p = false →
                      refusedWith .refusedRange))

/-- DETACH of a SLUNG lot in RUN: one resting aboard is STOWED where it stands, its steps done and the version one
higher; one resting ashore and bound ashore is freed, its steps done and the version one higher; one resting ashore
and bound aboard is PLANNED again and the version stands. The crane is free in each case, and a LOT notice of the
DETACH is raised at the selecting links with the lot as it then stands, or as freed, the crane and the version after
the event. -/
def Obligations.DetachEndsAMovement : Prop :=
  ∀ t s m id lot crane,
    Taken 4 readLotId .deck m id s → s.device = .run → s.live.findLot id = some lot → lot.state = .slung →
    lot.crane = some crane →
    let stowed := { lot with state := .stowed, crane := none, resting := none, dest := none }
    let planned := { lot with state := .planned, place := none, crane := none, resting := none, dest := none }
    let notice (lot' : Lot) (freed : Bool) (version : Version) : State → State := raiseNotice forcedNone
      (.lot { event := .detach, lot := lot', freed := freed, crane := crane, peak := none, version := version })
    (∀ p, lot.resting = some .aboard → lot.place = some p →
        exec (.detach t .deck) s = .next (answered .deck 4 m .done
          (be 2 lot.id ++ [3, 0, 0] ++ be 4 (s.version + 1).toNat)
          (notice stowed false (s.version + 1) { handed t .deck s with
            live := (s.live.putLot stowed).setAttached crane none
            ring := s.ring.completeLot lot.id (some p.space), version := s.version + 1 })))
    ∧ (lot.resting = some .ashore → lot.dest = some .ashore →
        exec (.detach t .deck) s = .next (answered .deck 4 m .done
          (be 2 lot.id ++ [4, 0, 0] ++ be 4 (s.version + 1).toNat)
          (notice planned true (s.version + 1) { handed t .deck s with
            live := (s.live.freeLot lot.id).setAttached crane none
            ring := s.ring.completeLot lot.id none, version := s.version + 1 })))
    ∧ (∀ p, lot.resting = some .ashore → lot.dest = some (.aboard p) →
        exec (.detach t .deck) s = .next (answered .deck 4 m .done
          (be 2 lot.id ++ [0, 0, 0] ++ be 4 s.version.toNat)
          (notice planned false s.version { handed t .deck s with
            live := (s.live.putLot planned).setAttached crane none })))

/-- FORCE-LAND of a LIFTED lot whose crane has no LIVE HOOK channel: the lot stands SLUNG at its destination without
a weighing, the peak is gone, the version is one higher, SET-DOWN is a cause of a live request, and a LOT notice of
the FORCE-LAND is raised at the selecting links. With the HOOK channel LIVE it is refused REFUSED-STATE. -/
def Obligations.ForceLandSetsDownWithoutAWeighing : Prop :=
  ∀ t s m id lot crane dest,
    Taken 5 readLotId .deck m id s → s.device = .run → s.live.findLot id = some lot → lot.state = .lifted →
    lot.crane = some crane → lot.dest = some dest →
    (hookIsLive s.bank.channels crane = true →
        exec (.forceLand t .deck) s = .next (answered .deck 5 m .refusedState [] (handed t .deck s)))
    ∧ (hookIsLive s.bank.channels crane = false →
        let lot' := { lot with
          state := .slung
          resting := some (if dest = .ashore then .ashore else .aboard)
          place := match dest with | .ashore => none | .aboard p => some p }
        exec (.forceLand t .deck) s = .next (answered .deck 5 m .done
          (be 2 lot.id ++ [1, 1, if dest = .ashore then 0 else 1] ++ be 4 (s.version + 1).toNat)
          (raiseNotice forcedNone
            (.lot { event := .forceLand, lot := lot', freed := false, crane := crane, peak := none
                    version := s.version + 1 })
            { handed t .deck s with
              live := s.live.putLot lot'
              tracker := s.tracker.modify (crane - 1) (fun a => { a with peak := none })
              version := s.version + 1
              sched := { s.sched with livePending := true, causes := s.sched.causes ||| 0b001000#6 } })))

/-- A HOOK output for a crane with a SLUNG lot: the net load is stored; at the lift-off threshold or above it the
lot is LIFTED without a position, the peak starts at the net load, the version is one higher and LIFT-OFF is a
cause; below it nothing else changes. A HOOK output for a crane with a LIFTED lot: the peak rises to a higher net
load, and at the set-down threshold or below it the lot stands SLUNG at its destination, weighed at the peak up to
20,000 with the discrepancy mark judged by the crane's tolerance; the peak is gone, the version is one higher and
SET-DOWN is a cause. Each raises a LOT notice of its event at the selecting links, the set-down's with the peak as
taken; one with the discrepancy mark is raised at the planning link whatever it selects. -/
def Obligations.HookOutputsLiftAndSetDown : Prop :=
  (∀ (crane : Nat) (value : Int) (s : State) (rec : CraneRec) (lot : Lot),
      nth1 s.cranes crane = some rec → s.live.lotOn crane = some lot → lot.state = .slung → s.device = .run →
      let net := max 0 (value - rec.tare)
      (roundDiv ((lot.measured.getD lot.declared) * rec.liftPct) 100 ≤ net →
          let lot' := { lot with state := .lifted, place := none, resting := none }
          hookOutput crane value s = raiseNotice forcedNone
            (.lot { event := .liftOff, lot := lot', freed := false, crane := crane, peak := none
                    version := s.version + 1 })
            { s with
              live := s.live.putLot lot'
              tracker := s.tracker.modify (crane - 1) (fun _ => { lastNet := net, peak := some net })
              version := s.version + 1
              sched := { s.sched with livePending := true, causes := s.sched.causes ||| 0b000100#6 } })
        ∧ (net < roundDiv ((lot.measured.getD lot.declared) * rec.liftPct) 100 →
            hookOutput crane value s = { s with
              tracker := s.tracker.modify (crane - 1) (fun a => { a with lastNet := net }) }))
    ∧ (∀ (crane : Nat) (value : Int) (s : State) (rec : CraneRec) (lot : Lot) (dest : Dest) (att : Attachment) (old : Int),
          nth1 s.cranes crane = some rec → s.live.lotOn crane = some lot → lot.state = .lifted → s.device = .run →
          lot.dest = some dest → nth1 s.tracker crane = some att → att.peak = some old →
          let net := max 0 (value - rec.tare)
          let peak := max old net
          (roundDiv (peak * rec.setPct) 100 < net →
              hookOutput crane value s = { s with
                tracker := s.tracker.modify (crane - 1) (fun _ => { lastNet := net, peak := some peak }) })
            ∧ (net ≤ roundDiv (peak * rec.setPct) 100 →
                let lot' := { lot with
                  state := .slung
                  resting := some (if dest = .ashore then .ashore else .aboard)
                  place := match dest with | .ashore => none | .aboard p => some p
                  measured := some (min 20000 peak)
                  discrepancy := decide (rec.tolerance * lot.declared < |peak - lot.declared| * 100) }
                hookOutput crane value s = raiseNotice (fun l => lot'.discrepancy && decide (l = .planning))
                  (.lot { event := .setDown, lot := lot', freed := false, crane := crane, peak := some peak
                          version := s.version + 1 })
                  { s with
                    live := s.live.putLot lot'
                    tracker := s.tracker.modify (crane - 1) (fun _ => { lastNet := net, peak := none })
                    version := s.version + 1
                    sched := { s.sched with livePending := true, causes := s.sched.causes ||| 0b001000#6 } }))

/-! ## The sequence ring -/

/-- STEP-APPEND from a link with the right. In the order of its checks it is refused and changes nothing: REFUSED-STATE
outside RUN; UNKNOWN-ITEM for a lot that LIVE does not hold, an aboard destination in no space of section 3 or a crane
that section 5 does not hold, and for a tank that section 4 does not hold; REFUSED-RANGE for a destination that fails
the tests of its space, a planned reach outside its range or a target volume outside 0 to the capacity; FULL for a
planning append with no more free slots than the guard, and a ballast append with none. One that passes joins at the
tail as PENDING under the next id, which then counts on from 65,535 to 1; the sequence version is one higher; the answer
carries id, entries, free slots and version. -/
def Obligations.StepAppendJoinsAtTheTail : Prop :=
  ∀ t l s m w, Taken 7 readStepWork l m w s → stepRight l w = true →
    let refusedWith (c : Code) : Prop := exec (.stepAppend t l) s = .next (answered l 7 m c [] (handed t l s))
    let missing : Prop := match w with
      | .lot id d c => s.live.findLot id = none ∨ (∃ p, d = .aboard p ∧ spaceOf s.spaces p.space = none)
          ∨ ∃ k, c = some k ∧ nth1 s.cranes k.crane = none
      | .ballast tank _ => s.tanks[tank]? = none
    let good : Prop := match w with
      | .lot id d c => (∀ lot p, s.live.findLot id = some lot → d = .aboard p → fits s.spaces lot.half p = true)
          ∧ ∀ k, c = some k → -100000 ≤ k.l ∧ k.l ≤ 100000 ∧ -100000 ≤ k.t ∧ k.t ≤ 100000
      | .ballast tank v => ∀ r, s.tanks[tank]? = some r → 0 ≤ v ∧ v ≤ r.capacity
    let limit := if l = .planning then 127 - s.ring.guard else 127
    (s.device ≠ .run → refusedWith .refusedState)
    ∧ (s.device = .run → missing → refusedWith .unknownItem)
    ∧ (s.device = .run → ¬ missing → ¬ good → refusedWith .refusedRange)
    ∧ (s.device = .run → ¬ missing → good → limit ≤ s.ring.entries.length → refusedWith .full)
    ∧ (s.device = .run → ¬ missing → good → s.ring.entries.length < limit →
        exec (.stepAppend t l) s = .next (answered l 7 m .done
          (be 2 s.ring.nextId ++ be 1 (s.ring.entries.length + 1) ++ be 1 (126 - s.ring.entries.length)
            ++ be 4 (s.ring.version + 1).toNat)
          { handed t l s with ring := { s.ring with
              entries := s.ring.entries ++
                [{ id := s.ring.nextId, link := l, work := w, status := .pending, deviation := false }]
              nextId := if s.ring.nextId < 65535 then s.ring.nextId + 1 else 1
              version := s.ring.version + 1 } }))

/-- STEP-WITHDRAW by the link that appended a PENDING entry marks it WITHDRAWN, and STEP-DONE of a PENDING BALLAST
entry marks it DONE with the given deviation; the version counts the mark, then each head that is no longer PENDING
leaves. STEP-WITHDRAW of another link's entry is refused REFUSED-RIGHTS, and both are refused REFUSED-STATE for an
entry that is not PENDING, and UNKNOWN-ITEM for an id the ring does not hold. SEQ-SET: a guard of 0..32 and a depth
of 1..16 are written, the sequence version one higher where the depth changed; a guard that differs needs an empty
ring; the answer is the guard and depth now in force. One that names neither is answered DONE and changes nothing
(the model's choice, log 40). The width of guard and depth follows log 46 (the model's choice). -/
def Obligations.StepAndSequenceRequests : Prop :=
  (∀ t l s m, s.device = .run →
      (∀ id, Taken 8 (readNat 2) l m id s → l ≠ .deck →
        (s.ring.find id = none → exec (.stepWithdraw t l) s = .next (answered l 8 m .unknownItem [] (handed t l s)))
        ∧ ∀ e, s.ring.find id = some e →
          (e.link ≠ l → exec (.stepWithdraw t l) s = .next (answered l 8 m .refusedRights [] (handed t l s)))
          ∧ (e.link = l → e.status ≠ .pending →
              exec (.stepWithdraw t l) s = .next (answered l 8 m .refusedState [] (handed t l s)))
          ∧ (e.link = l → e.status = .pending →
              let r := s.ring.mark (fun x => x.id == id) (fun x => { x with status := .withdrawn })
              exec (.stepWithdraw t l) s = .next (answered l 8 m .done
                (be 2 id ++ be 1 r.entries.length ++ be 4 r.version.toNat) { handed t l s with ring := r })))
      ∧ (∀ id dev, Taken 9 readStepDone .ballast m (id, dev) s →
        (s.ring.find id = none →
          exec (.stepDone t .ballast) s = .next (answered .ballast 9 m .unknownItem [] (handed t .ballast s)))
        ∧ ∀ e, s.ring.find id = some e →
          ((e.isBallast = false ∨ e.status ≠ .pending) →
            exec (.stepDone t .ballast) s = .next (answered .ballast 9 m .refusedState [] (handed t .ballast s)))
          ∧ (e.isBallast = true → e.status = .pending →
              let r := s.ring.mark (fun x => x.id == id) (fun x => { x with status := .done, deviation := dev })
              exec (.stepDone t .ballast) s = .next (answered .ballast 9 m .done
                (be 2 id ++ be 1 r.entries.length ++ be 4 r.version.toNat) { handed t .ballast s with ring := r }))))
    ∧ (∀ t s m g d, Taken 10 readSeqSet .planning m (g, d) s →
          let guard := g.getD s.ring.guard
          let depth := d.getD s.ring.depth
          let bad := (∃ x, g = some x ∧ 32 < x) ∨ ∃ x, d = some x ∧ (x = 0 ∨ 16 < x)
          let refusedWith (c : Code) : Prop :=
            exec (.seqSet t .planning) s = .next (answered .planning 10 m c [] (handed t .planning s))
          (s.device ≠ .run → refusedWith .refusedState)
          ∧ (s.device = .run → bad → refusedWith .refusedRange)
          ∧ (s.device = .run → ¬ bad → guard ≠ s.ring.guard → s.ring.entries ≠ [] → refusedWith .refusedState)
          ∧ (s.device = .run → ¬ bad → (guard = s.ring.guard ∨ s.ring.entries = []) →
              exec (.seqSet t .planning) s = .next (answered .planning 10 m .done (be 1 guard ++ be 1 depth)
                { handed t .planning s with ring := { s.ring with
                    guard := guard, depth := depth
                    version := if depth = s.ring.depth then s.ring.version else s.ring.version + 1 } })))

/-- Marking entries of the ring: each PENDING entry picked is changed and counted, then every leading entry that is
not PENDING leaves, each moving the read index on by one of 128 and counting once; no entry behind the first PENDING
one leaves, and no entry joins. -/
def Obligations.FinishedHeadsLeaveTheRing : Prop :=
  ∀ (r : Ring) (picks : Step → Bool) (f : Step → Step), ∃ gone : List Step,
    let hit := fun e : Step => e.status == .pending && picks e
    let marked := r.entries.map (fun e => if hit e then f e else e)
    marked = gone ++ (r.mark picks f).entries
      ∧ (∀ e ∈ gone, e.status ≠ .pending)
      ∧ (∀ e rest, (r.mark picks f).entries = e :: rest → e.status = .pending)
      ∧ (r.mark picks f).readIdx = (r.readIdx + gone.length) % 128
      ∧ (r.mark picks f).version = r.version + BitVec.ofNat 32 ((r.entries.filter hit).length + gone.length)
      ∧ (r.mark picks f).nextId = r.nextId ∧ (r.mark picks f).guard = r.guard ∧ (r.mark picks f).depth = r.depth

/-! ## Sample channels -/

/-- CHANNEL-SET of a DISABLED channel in RUN with a configuration in range: its fields are written; with its binding
unchanged its value is kept, limited to the range, and with another it is the range's rest value; the enable goes
OFF with the binding. The refusals come in order: REFUSED-STATE outside RUN; UNKNOWN-ITEM for a channel above 23 or
a target the sections in force do not hold; REFUSED-STATE for a channel that is not DISABLED, a kind and target that
another channel holds, or a changed binding that is or was a HOOK binding to a crane with a lot attached or was the
SOUNDING binding of a tank GAUGED in LIVE; REFUSED-RANGE for a field outside its range. CHANNEL-ENABLE of a DISABLED
bound channel in RUN: it enters FILLING with its accumulator and rail run emptied, its value held, its watch CLEAR
and its stale timer started; one that is not DISABLED is left as it was; an unbound one is refused REFUSED-STATE.
CHANNEL-DISABLE of an enabled channel in RUN: it is DISABLED with its accumulator and rail run emptied, its value
held and its stale timer stopped; a watch that was CLEAR raises no notice and moves no line, and one that was HIGH
or LOW becomes CLEAR with a CHANNEL notice of the WATCH event at the selecting links, the lines of its mask
recomputed and the others standing. A DISABLED channel is left as it was. Outside RUN each is refused REFUSED-STATE,
and of a channel that does not exist UNKNOWN-ITEM. A channel unbound before and after counts as one whose binding is
unchanged, and one that has output no block keeps its value like any other (the model's reading, log 32). -/
def Obligations.ChannelRequestsConfigure : Prop :=
  (∀ t s m k c, Taken 13 readChannelSet .planning m (k, c) s →
      let refusedWith (e : Code) : Prop :=
        exec (.channelSet t .planning) s = .next (answered .planning 13 m e [] (handed t .planning s))
      let missing := s.bank.channels[k]? = none ∨ ∃ b, c.binding = some b ∧ b.exists s.cranes s.tanks = false
      let elsewhere := c.binding ≠ none
        ∧ ∃ j other, j ≠ k ∧ s.bank.channels[j]? = some other ∧ other.cfg.binding = c.binding
      let gauges (b : Option Binding) := ∃ tank state, b = some ⟨.sounding, tank⟩ ∧ s.live.tanks[tank]? = some state
        ∧ state.source = .gauged
      let weighs (b : Option Binding) := ∃ crane lot, b = some ⟨.hook, crane⟩ ∧ s.live.attachedTo crane = some lot
      let value (v : Int) := -8388608 ≤ v ∧ v ≤ 8388607
      let inRange := 1 ≤ c.al ∧ c.al ≤ 32 ∧ value c.min ∧ value c.max ∧ c.min < c.max ∧ 20 ≤ c.stale ∧ c.stale ≤ 10000
        ∧ 1 ≤ c.rail ∧ c.rail ≤ 255 ∧ 0 ≤ c.band ∧ c.band ≤ 8388607 ∧ (∀ v, c.high = some v → value v)
        ∧ (∀ v, c.low = some v → value v) ∧ ∀ h w, c.high = some h → c.low = some w → w < h
      (s.device ≠ .run → refusedWith .refusedState)
      ∧ (s.device = .run → missing → refusedWith .unknownItem)
      ∧ ∀ old, s.device = .run → ¬ missing → s.bank.channels[k]? = some old →
        let guarded := c.binding ≠ old.cfg.binding
          ∧ (gauges old.cfg.binding ∨ weighs old.cfg.binding ∨ weighs c.binding)
        ((old.state ≠ .disabled ∨ elsewhere ∨ guarded) → refusedWith .refusedState)
        ∧ (old.state = .disabled → ¬ elsewhere → ¬ guarded → ¬ inRange → refusedWith .refusedRange)
        ∧ (old.state = .disabled → ¬ elsewhere → ¬ guarded → inRange →
          exec (.channelSet t .planning) s = .next (answered .planning 13 m .done []
            { handed t .planning s with bank := { s.bank with
                channels := s.bank.channels.set k { old with
                  cfg := { c with enable := old.cfg.enable && c.binding.isSome }
                  value := clamp c.min c.max (if c.binding = old.cfg.binding then old.value else 0) } } })))
    ∧ (∀ t s m k, (s.device ≠ .run ∨ s.bank.channels[k]? = none) →
          let code : Code := if s.device = .run then .unknownItem else .refusedState
          (Taken 14 (readNat 1) .planning m k s → exec (.channelEnable t .planning) s =
              .next (answered .planning 14 m code [] (handed t .planning s)))
          ∧ (Taken 15 (readNat 1) .planning m k s → exec (.channelDisable t .planning) s =
              .next (answered .planning 15 m code [] (handed t .planning s))))
    ∧ (∀ t s m k c, Taken 14 (readNat 1) .planning m k s → s.device = .run → s.bank.channels[k]? = some c →
          (c.cfg.binding = none →
              exec (.channelEnable t .planning) s = .next (answered .planning 14 m .refusedState [] (handed t .planning s)))
          ∧ (c.cfg.binding.isSome = true → c.state ≠ .disabled →
              exec (.channelEnable t .planning) s = .next (answered .planning 14 m .done [] (handed t .planning s)))
          ∧ (c.cfg.binding.isSome = true → c.state = .disabled →
              exec (.channelEnable t .planning) s = .next (answered .planning 14 m .done []
                { handed t .planning s with bank := { s.bank with
                    channels := s.bank.channels.set k { c with
                      cfg := { c.cfg with enable := true }
                      state := .filling, sum := 0, count := 0, held := true, railRun := 0, watch := .clear
                      timer := some (max s.now t + c.cfg.stale) } } })))
    ∧ (∀ t s m k c, Taken 15 (readNat 1) .planning m k s → s.device = .run → s.bank.channels[k]? = some c →
          (c.state = .disabled →
              exec (.channelDisable t .planning) s = .next (answered .planning 15 m .done [] (handed t .planning s)))
          ∧ (c.state ≠ .disabled →
              let off := { c with cfg := { c.cfg with enable := false }, state := .disabled, sum := 0, count := 0
                                  held := true, railRun := 0, watch := .clear, timer := none }
              let left : State := { handed t .planning s with
                bank := { s.bank with channels := s.bank.channels.set k off } }
              (c.watch = .clear →
                  exec (.channelDisable t .planning) s = .next (answered .planning 15 m .done [] left))
              ∧ (c.watch ≠ .clear → ∃ s', exec (.channelDisable t .planning) s =
                    .next (answered .planning 15 m .done [] s')
                  ∧ s' = recomputeLines ([.a, .b, .c, .d].filter c.cfg.mask.get) (raiseNotice forcedNone (.channel
                      { channel := k, binding := c.cfg.binding, rail := false, stale := false, live := false
                        watchEvent := true, state := .disabled, value := c.value, held := true, watch := .clear }) left)
                  ∧ (∀ h, c.cfg.mask.get h = true → s'.lineStands h)
                  ∧ (∀ h, c.cfg.mask.get h = false → s'.holds.get h = s.holds.get h)
                  ∧ s' = { left with holds := s'.holds, lius := s'.lius })))

/-- A sample frame: in START it is dropped; with a bad check or an unknown channel it is counted as an error, up to
65,535; for a DISABLED channel it is disregarded. A sample of a FILLING or LIVE channel, limited to its range: at an
end of the range it lengthens the rail run, and a run of the rail length makes the channel RAIL with its block dropped,
its value held and a CHANNEL notice; else it joins the block, and the sample that makes the block as long as AL ends
it. A STALE channel takes it as a FILLING one does. A RAIL channel drops it at an end of the range, and strictly inside
begins a new block with it. A block's output is handed over in the same event: the channel is LIVE with the rounded mean
and the watch it reaches, with a CHANNEL notice where the channel becomes LIVE or its watch changes; where the watch
changes the lines of its mask are recomputed; and of a HOOK channel the output reaches the crane's tracker. The stale
timer starts anew. -/
def Obligations.SampleFramesReachTheirChannel : Prop :=
  (∀ (t : Nat) (u : RxUnit) (s : State),
      (s.device = .start → exec (.sampleFrame t u) s = .next s)
      ∧ (s.device ≠ .start → (frameOf u = none ∨ ∃ k v, frameOf u = some (k, v) ∧ s.bank.channels[k]? = none) →
          exec (.sampleFrame t u) s = .next (settle { atTime t s with
            bank := { s.bank with errors := if s.bank.errors < 65535 then s.bank.errors + 1 else s.bank.errors } }))
      ∧ (∀ k v c, s.device ≠ .start → frameOf u = some (k, v) → s.bank.channels[k]? = some c → c.state = .disabled →
          exec (.sampleFrame t u) s = .next (settle (atTime t s))))
    ∧ (∀ (t k : Nat) (u : RxUnit) (v : Int) (c : Channel) (s : State),
          s.device ≠ .start → frameOf u = some (k, v) → s.bank.channels[k]? = some c → c.state ≠ .disabled →
          let x := clamp c.cfg.min c.cfg.max v
          let atEnd := x = c.cfg.min ∨ x = c.cfg.max
          let run := if atEnd then c.railRun + 1 else 0
          let timer := some (max s.now t + c.cfg.stale)
          let left (c' : Channel) : State :=
            { atTime t s with bank := { s.bank with channels := s.bank.channels.set k c' } }
          let notice (c' : Channel) (rail live watchEvent : Bool) : State → State := raiseNotice forcedNone (.channel
            { channel := k, binding := c.cfg.binding, rail := rail, stale := false, live := live
              watchEvent := watchEvent, state := c'.state, value := c'.value, held := c'.held, watch := c'.watch })
          let output (mean : Int) (railRun : Nat) : State :=
            let watch := watchNext c.cfg c.watch mean
            let c' := { c with state := .live, value := mean, held := false, sum := 0, count := 0, railRun := railRun
                               watch := watch, timer := timer }
            let s1 := if c.state ≠ .live ∨ watch ≠ c.watch then
                notice c' false (decide (c.state ≠ .live)) (decide (watch ≠ c.watch)) (left c')
              else left c'
            let s2 := if watch ≠ c.watch then recomputeLines ([.a, .b, .c, .d].filter c.cfg.mask.get) s1 else s1
            match c.cfg.binding with
            | some ⟨.hook, crane⟩ => hookOutput crane mean s2
            | _ => s2
          ((c.state = .filling ∨ c.state = .live ∨ c.state = .stale) →
            let state := if c.state = .stale then .filling else c.state
            (c.cfg.rail ≤ run →
                let c' := { c with state := .rail, sum := 0, count := 0, railRun := 0, held := true, timer := timer }
                exec (.sampleFrame t u) s = .next (settle (notice c' true false false (left c'))))
            ∧ (run < c.cfg.rail → c.count + 1 < c.cfg.al →
                exec (.sampleFrame t u) s = .next (settle (left { c with
                  state := state, railRun := run, sum := c.sum + x, count := c.count + 1, timer := timer })))
            ∧ (run < c.cfg.rail → c.cfg.al ≤ c.count + 1 →
                exec (.sampleFrame t u) s = .next (settle (output (roundDiv (c.sum + x) c.cfg.al) run))))
          ∧ (c.state = .rail →
            (atEnd → exec (.sampleFrame t u) s = .next (settle (left { c with timer := timer })))
            ∧ (¬ atEnd → 1 < c.cfg.al →
                exec (.sampleFrame t u) s = .next (settle (left { c with
                  state := .filling, railRun := 0, sum := x, count := 1, held := true, timer := timer })))
            ∧ (¬ atEnd → c.cfg.al ≤ 1 →
                exec (.sampleFrame t u) s = .next (settle (output (roundDiv x c.cfg.al) 0)))))

/-- The stale timer's expiry makes the channel STALE, its block dropped, its value held and its watch kept, and raises
a CHANNEL notice; a timer that is stopped or not yet due does nothing. The watch a block output leaves, by the state
before it and the first row that fits; a limit that is absent fits no row. -/
def Obligations.StaleTimersAndWatches : Prop :=
  (∀ (t k : Nat) (c : Channel) (s : State), s.bank.channels[k]? = some c →
      (∀ e, c.timer = some e → e ≤ max s.now t →
          let c' := { c with state := .stale, sum := 0, count := 0, railRun := 0, held := true, timer := none }
          exec (.staleTimerExpiry t k) s = .next (settle (raiseNotice forcedNone
            (.channel { channel := k, binding := c.cfg.binding, rail := false, stale := true, live := false
                        watchEvent := false, state := .stale, value := c.value, held := true, watch := c.watch })
            { atTime t s with bank := { s.bank with channels := s.bank.channels.set k c' } })))
        ∧ ((c.timer = none ∨ ∃ e, c.timer = some e ∧ max s.now t < e) → exec (.staleTimerExpiry t k) s = .next s))
    ∧ (∀ (c : ChannelCfg) (v : Int),
          let high := ∃ h, c.high = some h ∧ h ≤ v
          let low := ∃ w, c.low = some w ∧ v ≤ w
          (high → watchNext c .clear v = .high) ∧ (¬ high → low → watchNext c .clear v = .low)
            ∧ (¬ high → ¬ low → watchNext c .clear v = .clear)
            ∧ (low → watchNext c .high v = .low)
            ∧ (∀ h, ¬ low → c.high = some h → v ≤ h - c.band → watchNext c .high v = .clear)
            ∧ (∀ h, ¬ low → c.high = some h → h - c.band < v → watchNext c .high v = .high)
            ∧ (high → watchNext c .low v = .high)
            ∧ (∀ w, ¬ high → c.low = some w → w + c.band ≤ v → watchNext c .low v = .clear)
            ∧ (∀ w, ¬ high → c.low = some w → v < w + c.band → watchNext c .low v = .low))

/-! ## Hold lines -/

/-- HOLD-ACK of a latched line with a criterion, degraded or watch cause present is answered STILL-ACTIVE and changes
nothing; without one the mark is cleared and the line recomputed, a timed hold or the start hold alone keeping it
asserted; of a line that is not latched it is answered DONE and changes nothing. -/
def Obligations.HoldAckJudgesTheCauses : Prop :=
  ∀ t s m h, Taken 17 (readEnum allLines) .deck m h s →
    let c := s.causesOf h
    let active := c.kinds ≠ 0 ∨ c.degraded = true ∨ c.watches ≠ []
    ((s.holds.get h).latched = false →
        exec (.holdAck t .deck) s = .next (answered .deck 17 m .done [] (handed t .deck s)))
    ∧ ((s.holds.get h).latched = true → active →
        exec (.holdAck t .deck) s = .next (answered .deck 17 m .stillActive [] (handed t .deck s)))
    ∧ ((s.holds.get h).latched = true → ¬ active →
        ∃ s', exec (.holdAck t .deck) s = .next (answered .deck 17 m .done [] s')
          ∧ s' = { handed t .deck s with
              holds := s.holds.set h { s.holds.get h with
                latched := false, asserted := c.deck || c.ballast || c.start }
              lius := s'.lius })

/-- TIMED-HOLD on the requesting link's own timer: above 600 s it is refused; 0 stops a running timer; 1 to 600
starts it anew to run that long; the line is recomputed, asserted while a timer runs and after a stop exactly where
another cause is present or its mark is set, the answer carries the time left in ms, and no other timer moves. A
running timed hold expires when its time is reached: the timer stops and its line is recomputed, released where no
other cause is present and it is not latched; before that time nothing happens. -/
def Obligations.TimedHoldsRunAndExpire : Prop :=
  (∀ t l s m h n, Taken 18 readTimedHold l m (h, n) s → (l = .deck ∨ l = .ballast) →
      (600 < n → exec (.timedHold t l) s = .next (answered l 18 m .refusedRange [] (handed t l s)))
      ∧ (n = 0 → (s.holds.get h).timer l = none → exec (.timedHold t l) s = .next (answered l 18 m .done
          (be 1 (lineNum h) ++ be 4 0) (handed t l s)))
      ∧ (n ≤ 600 → (n ≠ 0 ∨ ((s.holds.get h).timer l).isSome = true) →
          ∃ s', exec (.timedHold t l) s = .next (answered l 18 m .done (be 1 (lineNum h) ++ be 4 (1000 * n)) s')
            ∧ (s'.holds.get h).timer l = (if n = 0 then none else some (max s.now t + 1000 * n))
            ∧ (∀ h' l', (h', l') ≠ (h, l) → (s'.holds.get h').timer l' = (s.holds.get h').timer l')
            ∧ (∀ h', h' ≠ h → s'.holds.get h' = s.holds.get h')
            ∧ (n ≠ 0 → (s'.holds.get h).asserted = true)
            ∧ (s.linesStand → (s'.holds.get h).latched = (s.holds.get h).latched)
            ∧ (n = 0 → s.linesStand → ((s'.holds.get h).asserted = true ↔ (s.holds.get h).latched = true
                ∨ (s.causesOf h).latches = true ∨ (s.causesOf h).start = true
                ∨ ∃ l', l' ≠ l ∧ ((s.holds.get h).timer l').isSome = true))
            ∧ s' = { handed t l s with holds := s'.holds, lius := s'.lius }))
    ∧ (∀ (t : Nat) (l : Link) (h : Line) (e : Nat) (s : State), (s.holds.get h).timer l = some e → s.linesStand →
          (max s.now t < e → exec (.timedHoldExpiry t l h) s = .next s)
          ∧ (e ≤ max s.now t → ∃ s', exec (.timedHoldExpiry t l h) s = .next s'
              ∧ (s'.holds.get h).timer l = none
              ∧ (s'.holds.get h).latched = (s.holds.get h).latched
              ∧ ((s'.holds.get h).asserted = true ↔ (s.holds.get h).latched = true ∨ (s.causesOf h).latches = true
                  ∨ (s.causesOf h).start = true ∨ ∃ l', l' ≠ l ∧ ((s.holds.get h).timer l').isSome = true)
              ∧ (∀ h', h' ≠ h → s'.holds.get h' = s.holds.get h')
              ∧ s' = { s with now := max s.now t, holds := s'.holds, lius := s'.lius }))

/-- A recomputed line is asserted exactly while a cause is present or its mark is set, and its output conducts exactly
while it is unasserted; in FOLLOW its mark is clear, in LATCH a criterion, degraded or watch cause sets it; a HOLD
notice is raised exactly where the asserted state changed; the timers and the other lines stand. -/
def Obligations.RecomputingALine : Prop :=
  ∀ (h : Line) (s : State),
    let c := s.causesOf h
    let r := s.holds.get h
    let latched := (s.lineCfg h).mode = .latch ∧ (r.latched = true ∨ c.kinds ≠ 0 ∨ c.degraded = true ∨ c.watches ≠ [])
    let asserted := latched ∨ c.kinds ≠ 0 ∨ c.degraded = true ∨ c.watches ≠ [] ∨ c.deck = true ∨ c.ballast = true
      ∨ c.start = true
    (((recompute h s).holds.get h).latched = true ↔ latched)
      ∧ (((recompute h s).holds.get h).asserted = true ↔ asserted)
      ∧ (((recompute h s).holds.get h).conducts = true ↔ ¬ asserted)
      ∧ (∀ l, ((recompute h s).holds.get h).timer l = r.timer l)
      ∧ (∀ h', h' ≠ h → (recompute h s).holds.get h' = s.holds.get h')
      ∧ recompute h s = { s with holds := (recompute h s).holds, lius := (recompute h s).lius }
      ∧ (((recompute h s).holds.get h).asserted = r.asserted → (recompute h s).lius = s.lius)
      ∧ (((recompute h s).holds.get h).asserted ≠ r.asserted → ∀ l, (s.lius.get l).selection.getLsbD 1 = true →
          ((recompute h s).lius.get l).slots.hold = some (.hold
            { line := h, mode := (s.lineCfg h).mode, asserted := ((recompute h s).holds.get h).asserted
              latched := ((recompute h s).holds.get h).latched, causes := c, serial := s.serial }))

/-! ## Configuration -/

/-- ENTER-CONFIG in RUN with no ENTER-CONFIG held, no job, no lot in hand and no live evaluation computing takes
effect at once: the device is in CONFIG with a working copy of the sections in force, no live request and no run is
left, every channel is DISABLED with its configuration kept, every line is asserted, and LIVE, the sets, the ring and
the verdict stand. A condition that fails refuses it and changes nothing. ENTER-CONFIG while a live evaluation is
computing is held, its answer owed, and nothing else changes; it waits while that evaluation runs; once it has ended
the request is checked again and takes effect or is refused, its owed answer then given. -/
def Obligations.EnterConfigTakesEffectOrIsHeld : Prop :=
  (∀ t s m, Taken 24 noFields .planning m () s →
      let refusedWith (c : Code) : Prop :=
        exec (.enterConfig t .planning) s = .next (answered .planning 24 m c [] (handed t .planning s))
      (s.device ≠ .run → refusedWith .refusedState)
      ∧ (s.device = .run → (s.sched.heldEnter = true ∨ s.store.job.isSome = true) → refusedWith .busy)
      ∧ (s.device = .run → s.sched.heldEnter = false → s.store.job = none → s.live.anyInHand = true →
          refusedWith .refusedState)
      ∧ (s.device = .run → s.sched.heldEnter = false → s.store.job = none → s.live.anyInHand = false →
          s.liveComputing = false →
          ∃ s', exec (.enterConfig t .planning) s = .next (answered .planning 24 m .done [] s')
            ∧ s'.device = .config ∧ s'.working = s.hull ∧ s'.hull = s.hull ∧ s'.published = false
            ∧ s'.sched = { s.sched with livePending := false, causes := 0, periodic := none, run := none }
            ∧ s'.bank.channels = s.bank.channels.map (fun c =>
                { c with state := .disabled, sum := 0, count := 0, railRun := 0, held := true, watch := .clear
                         timer := none })
            ∧ (∀ h, (s'.holds.get h).asserted = true)
            ∧ s'.owner = (if s.owner = .lookahead then .empty else s.owner)
            ∧ (s.owner ≠ .lookahead → s'.trial = s.trial)
            ∧ s'.look = (if s.sched.run.isSome then { s.look with outcome := .abandoned } else s.look)
            ∧ s'.live = s.live ∧ s'.version = s.version ∧ s'.sets = s.sets ∧ s'.ready = s.ready ∧ s'.ring = s.ring
            ∧ s'.verdict = s.verdict ∧ s'.serial = s.serial ∧ s'.crit = s.crit ∧ s'.store = s.store
            ∧ s'.tracker = s.tracker))
    ∧ (∀ t s,
          (∀ m, Taken 24 noFields .planning m () s → s.device = .run → s.sched.heldEnter = false → s.store.job = none →
              s.live.anyInHand = false → s.liveComputing = true →
              exec (.enterConfig t .planning) s = .next (owing .planning 24 m true
                { handed t .planning s with sched := { s.sched with heldEnter := true } }))
          ∧ (s.liveComputing = true → exec (.heldEnterConfig t) s = .next s)
          ∧ (s.sched.heldEnter = false → exec (.heldEnterConfig t) s = .next s)
          ∧ (s.liveComputing = false → s.sched.heldEnter = true → s.device = .run → s.store.job.isSome = true →
              exec (.heldEnterConfig t) s = .next (settle (answerOwed true .busy [] false
                { atTime t s with sched := { s.sched with heldEnter := false } })))
          ∧ (s.liveComputing = false → s.sched.heldEnter = true → s.device = .run → s.store.job = none →
              s.live.anyInHand = true →
              exec (.heldEnterConfig t) s = .next (settle (answerOwed true .refusedState [] false
                { atTime t s with sched := { s.sched with heldEnter := false } })))
          ∧ (s.liveComputing = false → s.sched.heldEnter = true → s.device = .run → s.store.job = none →
              s.live.anyInHand = false →
              ∃ s', exec (.heldEnterConfig t) s = .next (settle (answerOwed true .done [] false s'))
                ∧ s'.device = .config ∧ s'.working = s.hull ∧ s'.published = false
                ∧ s'.sched = { s.sched with
                    livePending := false, causes := 0, periodic := none, run := none, heldEnter := false }
                ∧ (∀ h, (s'.holds.get h).asserted = true) ∧ s'.live = s.live ∧ s'.ring = s.ring ∧ s'.store = s.store))

/-- HULL-WRITE outside RUN, with no job running and no restart awaited, into an unlocked section: an item that
exists, with every field in its own range, replaces that item of the working copy, and nothing else changes; the
refusals come in the order NOT-IN-CONFIG, BUSY, LOCKED, UNKNOWN-ITEM, REFUSED-RANGE. Where indices start and which
bounds count as an item's own range follow logs 11 and 13 (the model's reading). -/
def Obligations.HullWriteChangesTheWorkingCopy : Prop :=
  ∀ t s m it, Taken 25 readHullItem .planning m it s →
    let refusedWith (c : Code) : Prop :=
      exec (.hullWrite t .planning) s = .next (answered .planning 25 m c [] (handed t .planning s))
    let busy := s.store.job.isSome = true ∨ s.store.restart.isSome = true
    ((s.device = .run ∨ s.working = none) → refusedWith .notInConfig)
    ∧ ∀ w, s.working = some w → s.device ≠ .run →
      (busy → refusedWith .busy)
      ∧ (¬ busy → s.store.lockSections.getD it.sec false = true → refusedWith .locked)
      ∧ (¬ busy → s.store.lockSections.getD it.sec false = false →
          (w.put it = none → refusedWith .unknownItem)
          ∧ ∀ w', w.put it = some w' →
            (it.inRange = false → refusedWith .refusedRange)
            ∧ (it.inRange = true → exec (.hullWrite t .planning) s = .next (answered .planning 25 m .done []
                { handed t .planning s with working := some w' })))

/-- LEAVE-CONFIG outside RUN with no job and no restart awaited. In CONFIG: a failing item is answered HULL-INVALID
and changes nothing; with no section to write the device is in RUN at once, the working copy dropped, the table built
anew, a live request recorded and every line asserted; else the write begins and the answer is owed. In HULL-FAULT: a
failing item is answered HULL-INVALID; else the write begins, without sections that have a lock mark (the model's
choice, log 27). In RUN it is refused NOT-IN-CONFIG, and with a job or a restart BUSY. The end of the write. All
verified in CONFIG: the sections are stored and in force, the version is one higher, LIVE, the channels, the tracker
and the ring are brought into line with them, a RECALLED TRIAL is EMPTY, the device is in RUN with its table built
anew. All verified in HULL-FAULT: they are stored and the restart is awaited 1,000 ms, the version standing (log 36).
A failed read-back: the sections before it are stored, it is bad, the write-error mark is set, the rest stands. Each
end gives the owed answer, DONE with the sections written or HULL-INVALID with the section and the reason WRITE, and
raises the ARCHIVE notice; at the entry to RUN the notice of a cancelled ADOPT comes after it, and of the links' other
fields only the HOLD slots and the count of replaced notices may move. The model's choices: validation by R176 alone
(log 47), the bytes of HULL-INVALID and the item named (logs 9, 12), the section an ended job reports (log 17), the
order of tests and the item of a cross test (log 44), sets of sections (log 45), a channel unbound before and after,
or without a block (log 32), an EMPTY TRIAL's contents (log 43), locked sections in CONFIG (log 27), station indices
in the table (log 11). -/
def Obligations.LeaveConfigValidatesAndWrites : Prop :=
  (∀ t s m, Taken 26 noFields .planning m () s →
      (s.device = .run → exec (.leaveConfig t .planning) s =
          .next (answered .planning 26 m .notInConfig [] (handed t .planning s)))
      ∧ (s.working = none → exec (.leaveConfig t .planning) s =
          .next (answered .planning 26 m .notInConfig [] (handed t .planning s)))
      ∧ (s.working.isSome = true → s.device ≠ .run → (s.store.job.isSome = true ∨ s.store.restart.isSome = true) →
          exec (.leaveConfig t .planning) s =
            .next (answered .planning 26 m .busy [] (handed t .planning s)))
      ∧ ∀ w, s.working = some w → s.device ≠ .run → s.store.job = none → s.store.restart = none →
        (s.device = .config → ∀ sections, sections = s.toWrite w →
          let failing := firstFailure (allTests w ++ testLots w s.live ++ testTanks w s.live
            ++ testGuard w s.ring sections)
          (∀ a, failing = some a → exec (.leaveConfig t .planning) s =
              .next (answered .planning 26 m .hullInvalid
                (be 1 a.sec ++ [0] ++ be 1 a.item ++ be 1 a.i ++ be 1 a.j) (handed t .planning s)))
          ∧ (failing = none → sections = [] →
              ∃ s', exec (.leaveConfig t .planning) s = .next (answered .planning 26 m .done [0] s')
                ∧ s'.device = .run ∧ s'.hull = some w ∧ s'.working = none ∧ s'.published = false
                ∧ s'.crit = buildTable w ∧ s'.sched.livePending = true ∧ (∀ h, (s'.holds.get h).asserted = true)
                ∧ s'.bank.channels = startChannels (max s.now t) s.bank.channels ∧ s'.tracker = s.tracker
                ∧ s'.live = s.live ∧ s'.version = s.version ∧ s'.ring = s.ring ∧ s'.store = s.store)
          ∧ (failing = none → sections ≠ [] → exec (.leaveConfig t .planning) s =
              .next (owing .planning 26 m false { handed t .planning s with
                store := { s.store with job := some (.leaveConfig sections), writeError := false } })))
        ∧ (s.device = .hullFault →
          (∀ a, validate w = some a → exec (.leaveConfig t .planning) s =
              .next (answered .planning 26 m .hullInvalid
                (be 1 a.sec ++ [0] ++ be 1 a.item ++ be 1 a.i ++ be 1 a.j) (handed t .planning s)))
          ∧ (validate w = none → exec (.leaveConfig t .planning) s =
              .next (owing .planning 26 m false { handed t .planning s with
                store := { s.store with job := some (.leaveConfig (s.toRepair w)), writeError := false } }))))
    ∧ (∀ t s ns w, s.store.job = some (.leaveConfig ns) → s.working = some w →
          (s.device = .config → ∃ s', exec (.leaveConfigWriteEnd t none) s = .next s'
              ∧ s'.device = .run ∧ s'.hull = some w ∧ s'.working = none ∧ s'.published = false
              ∧ s'.store.sections = s.store.sections.writeAll w ns ∧ s'.store.job = none
              ∧ s'.store.lastJob = some { kind := .leaveConfig, target := ns.getLast?.map .sec, code := .done }
              ∧ s'.version = s.version + 1 ∧ s'.crit = buildTable w ∧ s'.sched.livePending = true
              ∧ s'.live.lots = s.live.lots.map (keepStow w.s3) ∧ s'.live.constants = s.live.constants
              ∧ s'.live.tanks.length = w.s4.length ∧ s'.live.mode = s.live.mode
              ∧ (∀ (k : Nat) (T : TankState), s'.live.tanks[k]? = some T →
                  let old := s.live.tanks.getD k { source := .stated, volume := 0, density := 1025 }
                  T = { old with source :=
                    if gaugeBound (bankAfter w ns s.bank.channels) k then old.source else .stated })
              ∧ s'.live.cranes = s.live.cranes.take w.s5.length
                  ++ (w.s5.drop s.live.cranes.length).map (fun r => { height := r.height, attached := none })
              ∧ s'.bank.channels = startChannels (max s.now t) (bankAfter w ns s.bank.channels)
              ∧ s'.bank.errors = s.bank.errors
              ∧ s'.tracker = s.tracker.take w.s5.length
                  ++ List.replicate (w.s5.length - s.tracker.length) { lastNet := 0, peak := none }
              ∧ s'.ring = (if ns.contains 7 then
                    { s.ring with
                      guard := w.s7.guard, depth := w.s7.depth
                      version := if w.s7.depth = s.ring.depth then s.ring.version else s.ring.version + 1 }
                  else s.ring).mark (stepLost w s.live) (fun e => { e with status := .withdrawn })
              ∧ (s.owner = .recalled → s'.owner = .empty ∧ s'.trial = Area.empty ∧ s'.store.waitingAdopt = false)
              ∧ (s.owner ≠ .recalled → s'.owner = s.owner ∧ s'.trial = s.trial)
              ∧ (∀ h, (s'.holds.get h).asserted = true)
              ∧ let owner := if s.owner = .recalled then .empty else s.owner
                let ended := jobEnded false .leaveConfig (ns.getLast?.map .sec) .done none (sectionSet ns)
                  { s with version := s.version + 1, owner := owner }
                let told := if s.store.waitingAdopt = true then raiseNotice forcedPlanning
                    (.archive { job := .adopt, target := none, code := .refusedState, check := none
                                writeError := s.store.writeError, owner := owner, version := s.version + 1 }) ended
                  else ended
                ∃ s2, s' = settle s2 ∧ ∀ l, s2.lius.get l = { told.lius.get l with
                  slots := { (told.lius.get l).slots with hold := (s2.lius.get l).slots.hold }
                  summary := { (told.lius.get l).summary with replaced := (s2.lius.get l).summary.replaced } })
          ∧ (s.device = .hullFault → ∃ s', exec (.leaveConfigWriteEnd t none) s = .next s'
              ∧ s'.version = s.version ∧ s'.device = .hullFault ∧ s'.hull = s.hull ∧ s'.working = some w
              ∧ s'.store.sections = s.store.sections.writeAll w ns ∧ s'.store.job = none
              ∧ s'.store.restart = some { deadline := max s.now t + 1000, due := false }
              ∧ let ended := jobEnded true .leaveConfig (ns.getLast?.map .sec) .done none (sectionSet ns)
                  { atTime t s with store := { s.store with sections := s.store.sections.writeAll w ns } }
                s' = settle { ended with store := { ended.store with
                  restart := some { deadline := max s.now t + 1000, due := false } } })
          ∧ ∀ n, n ∈ ns → ∃ s', exec (.leaveConfigWriteEnd t (some n)) s = .next s'
              ∧ s'.store.sections = (s.store.sections.writeAll w (ns.takeWhile (· != n))).write w false n
              ∧ s'.store.job = none ∧ s'.store.writeError = true
              ∧ s'.store.lastJob = some { kind := .leaveConfig, target := some (.sec n), code := .hullInvalid }
              ∧ s'.device = s.device ∧ s'.hull = s.hull ∧ s'.working = s.working ∧ s'.live = s.live
              ∧ s'.version = s.version ∧ s'.bank = s.bank ∧ s'.ring = s.ring ∧ s'.holds = s.holds
              ∧ s' = settle (jobEnded false .leaveConfig (some (.sec n)) .hullInvalid none (be 1 n ++ [1, 0, 0, 0])
                  { atTime t s with store := { s.store with sections := s'.store.sections, writeError := true } }))

/-! ## Archive, marks and identity -/

/-- SAVE in RUN or CONFIG with no job, an unlocked slot and TRIAL not RECALLED: a look-ahead in progress is abandoned, LIVE
is copied to TRIAL, which is ARCHIVE, the directory entry is INVALID while the write runs, and the answer is owed; else
it is refused, in order, REFUSED-STATE, BUSY, LOCKED or REFUSED-STATE. At its end TRIAL is EMPTY: a write that verified
leaves the slot with the image of the stowed lots and is answered DONE with the number of lots, the condition version
and the serial, one that did not leaves it bad with the write-error mark set and is answered SLOT-INVALID; the ARCHIVE
notice is raised. What TRIAL holds while it is EMPTY is the model's choice (log 43). -/
def Obligations.SaveWritesAnImage : Prop :=
  ∀ t s,
    (∀ m n, Taken 27 readSlot .planning m n s →
      let refusedWith (c : Code) : Prop :=
        exec (.save t .planning) s = .next (answered .planning 27 m c [] (handed t .planning s))
      let serves := s.device = .run ∨ s.device = .config
      (¬ serves → refusedWith .refusedState)
      ∧ (serves → s.store.job.isSome = true → refusedWith .busy)
      ∧ (serves → s.store.job = none → s.store.lockSlots.getD n false = true → refusedWith .locked)
      ∧ (serves → s.store.job = none → s.store.lockSlots.getD n false = false → s.owner = .recalled →
          refusedWith .refusedState)
      ∧ (serves → s.store.job = none → s.store.lockSlots.getD n false = false → s.owner ≠ .recalled →
          ∃ s', exec (.save t .planning) s = .next (owing .planning 27 m false s')
            ∧ s'.owner = .archive ∧ s'.trial = s.live ∧ s'.sched.run = none
            ∧ s'.store = { s.store with
                job := some (.save n s.version s.serial), writeError := false
                directory := s.store.directory.set n .invalid }
            ∧ s'.live = s.live ∧ s'.version = s.version ∧ s'.ring = s.ring
            ∧ s' = { abandonLook (handed t .planning s) with owner := .archive, trial := s.live, store := s'.store }))
    ∧ ∀ n v k, s.store.job = some (.save n v k) →
        let image : Image := { lots := s.trial.lots.filterMap Lot.imaged, constants := s.trial.constants
                               tanks := s.trial.tanks, mode := s.trial.mode, version := v, serial := k }
        (∃ s', exec (.saveEnd t true) s = .next s' ∧ s'.owner = .empty ∧ s'.trial = Area.empty
          ∧ s'.store = { s.store with
              slots := s.store.slots.set n (.good image none)
              directory := s.store.directory.set n (.valid none image.lots.length v k)
              job := none, lastJob := some { kind := .save, target := some (.slot n), code := .done } }
          ∧ s'.live = s.live ∧ s'.version = s.version
          ∧ s' = settle (jobEnded false .save (some (.slot n)) .done none
              (be 2 image.lots.length ++ be 4 v.toNat ++ be 2 k)
              { atTime t s with owner := .empty, trial := Area.empty, store := { s.store with
                  slots := s.store.slots.set n (.good image none)
                  directory := s.store.directory.set n (.valid none image.lots.length v k) } }))
        ∧ ∃ s', exec (.saveEnd t false) s = .next s' ∧ s'.owner = .empty ∧ s'.trial = Area.empty
          ∧ s'.store = { s.store with
              slots := s.store.slots.set n .bad, directory := s.store.directory.set n .invalid, writeError := true
              job := none, lastJob := some { kind := .save, target := some (.slot n), code := .slotInvalid } }
          ∧ s' = settle (jobEnded false .save (some (.slot n)) .slotInvalid none []
              { atTime t s with owner := .empty, trial := Area.empty, store := { s.store with
                  slots := s.store.slots.set n .bad, directory := s.store.directory.set n .invalid
                  writeError := true } })

/-- RECALL in RUN or CONFIG with no job and TRIAL not RECALLED: a look-ahead in progress is abandoned, TRIAL is
ARCHIVE and the answer is owed; elsewhere, or with TRIAL RECALLED, it is refused REFUSED-STATE, and with a job BUSY.
At the read's end a good image that fits the sections in force stands in TRIAL, which is RECALLED; an EMPTY slot
ends it UNKNOWN-ITEM and a bad one, or an image that does not fit, SLOT-INVALID, TRIAL then EMPTY and the slots as
they were; a slot whose check failed at this read ends it SLOT-INVALID and is bad from then on (the model's choice,
log 5). The end gives the owed answer, DONE with the number of lots, the condition version, the serial and whether
there is a reference, or the code alone, and raises the ARCHIVE notice. LIVE stands throughout. What TRIAL holds as
ARCHIVE until the read ends, and while it is EMPTY, is the model's choice (log 43). -/
def Obligations.RecallBringsAnImageToTrial : Prop :=
  ∀ t s,
    (∀ m n, Taken 28 readSlot .planning m n s →
        let refusedWith (c : Code) : Prop :=
          exec (.recall t .planning) s = .next (answered .planning 28 m c [] (handed t .planning s))
        let serves := s.device = .run ∨ s.device = .config
        (¬ serves → refusedWith .refusedState)
        ∧ (serves → s.store.job.isSome = true → refusedWith .busy)
        ∧ (serves → s.store.job = none → s.owner = .recalled → refusedWith .refusedState)
        ∧ (serves → s.store.job = none → s.owner ≠ .recalled →
          ∃ s', exec (.recall t .planning) s = .next (owing .planning 28 m false s')
            ∧ s'.owner = .archive ∧ s'.sched.run = none
            ∧ s'.store = { s.store with job := some (.recall n), writeError := false } ∧ s'.live = s.live
            ∧ s' = { abandonLook (handed t .planning s) with
                owner := .archive, trial := Area.empty, store := s'.store }))
    ∧ ∀ n, n < s.store.slots.length → s.store.job = some (.recall n) →
        let endsEmpty (checkGood : Bool) (slot : Slot) (c : Code) : Prop :=
          ∃ s', exec (.recallReadEnd t checkGood) s = .next s' ∧ s'.owner = .empty ∧ s'.trial = Area.empty
            ∧ s'.store.job = none ∧ s'.store.slots = s.store.slots.set n slot ∧ s'.live = s.live
            ∧ s'.store.lastJob = some { kind := .recall, target := some (.slot n), code := c }
            ∧ s' = settle (jobEnded false .recall (some (.slot n)) c none []
                { atTime t s with owner := .empty, trial := Area.empty, store := { s.store with
                    slots := s.store.slots.set n slot, directory := s.store.directory.set n slot.entry } })
        (∀ image ref, s.store.slots[n]? = some (.good image ref) → image.fitsHull s.spaces s.tanks = true →
            ∃ s', exec (.recallReadEnd t true) s = .next s' ∧ s'.owner = .recalled
              ∧ s'.trial = loadImage image s.spaces s.tanks s.cranes s.bank.channels false
              ∧ s'.store.job = none ∧ s'.store.slots = s.store.slots ∧ s'.live = s.live
              ∧ s'.store.lastJob = some { kind := .recall, target := some (.slot n), code := .done }
              ∧ s' = settle (jobEnded false .recall (some (.slot n)) .done none
                  (be 2 image.lots.length ++ be 4 image.version.toNat ++ be 2 image.serial
                    ++ [if ref.isSome then 1 else 0])
                  { atTime t s with owner := .recalled, trial := s'.trial, store := { s.store with
                      directory := s.store.directory.set n (Slot.good image ref).entry } }))
        ∧ (∀ image ref, s.store.slots[n]? = some (.good image ref) → image.fitsHull s.spaces s.tanks = false →
            endsEmpty true (.good image ref) .slotInvalid)
        ∧ (s.store.slots[n]? = some .bad → endsEmpty true .bad .slotInvalid)
        ∧ (s.store.slots[n]? = some .empty → endsEmpty true .empty .unknownItem)
        ∧ endsEmpty false .bad .slotInvalid

/-- SELF-CHECK in RUN or CONFIG with no job: a look-ahead in progress is abandoned, TRIAL is ARCHIVE, a waiting ADOPT is
cancelled with its notice and the answer is owed; else it is refused REFUSED-STATE, or BUSY while a job runs. At the
read's end a good image that fits, with a reference of as many stations as section 0, stands in TRIAL with every tank
STATED and waits for its evaluation. A slot that is EMPTY ends the job UNKNOWN-ITEM, one that is bad or whose image does
not fit SLOT-INVALID, one without a reference or with one of another station count REFUSED-STATE, each with its answer
and notice and TRIAL EMPTY; a slot whose check failed at this read is bad from then on (the model's choice, log 5). The
evaluation's end compares its result, under the limit set of the image's mode, with the reference: the owed answer is
DONE with PASS exactly where no quantity is out of tolerance, else with FAIL, the first quantity out, its station where
it has one and both values, and with the level and worst kind; the ARCHIVE notice carries PASS or FAIL with that
quantity; TRIAL is EMPTY and the job ended, the verdict, the table and the serial standing. A quantity is within
tolerance: displacement 2, LCG, TCG, corrected KG, GM and trim 5, each shear force a hundredth of the station's limit
and each bending moment a hundredth of the smaller one; the first one out, in that order, is the one told. What TRIAL
holds as ARCHIVE until the read ends, and while it is EMPTY, is the model's choice (log 43), and the layout of the
answer follows logs 8, 9, 11 and 46. -/
def Obligations.SelfCheckRunsItsCourse : Prop :=
  (∀ t s,
      (∀ m n, Taken 29 readSlot .planning m n s →
          let refusedWith (c : Code) : Prop :=
            exec (.selfCheck t .planning) s = .next (answered .planning 29 m c [] (handed t .planning s))
          let serves := s.device = .run ∨ s.device = .config
          (¬ serves → refusedWith .refusedState)
          ∧ (serves → s.store.job.isSome = true → refusedWith .busy)
          ∧ (serves → s.store.job = none →
            ∃ s', exec (.selfCheck t .planning) s = .next (owing .planning 29 m false s')
              ∧ s'.owner = .archive ∧ s'.trial = Area.empty ∧ s'.sched.run = none
              ∧ s'.store = { s.store with job := some (.selfCheck n none), writeError := false, waitingAdopt := false }
              ∧ let begun : State := { abandonLook (handed t .planning s) with
                  owner := .archive, trial := Area.empty, store := s'.store }
                s' = if s.store.waitingAdopt = true then raiseNotice forcedPlanning
                    (.archive { job := .adopt, target := none, code := .refusedState, check := none
                                writeError := false, owner := .archive, version := s.version }) begun
                  else begun))
      ∧ (∀ n, n < s.store.slots.length → s.store.job = some (.selfCheck n none) →
          let endsEmpty (checkGood : Bool) (slot : Slot) (c : Code) : Prop :=
            ∃ s', exec (.selfCheckReadEnd t checkGood) s = .next s' ∧ s'.owner = .empty ∧ s'.store.job = none
              ∧ s'.store.lastJob = some { kind := .selfCheck, target := some (.slot n), code := c }
              ∧ s' = settle (jobEnded false .selfCheck (some (.slot n)) c none []
                  { atTime t s with owner := .empty, trial := Area.empty, store := { s.store with
                      slots := s.store.slots.set n slot, directory := s.store.directory.set n slot.entry } })
          endsEmpty false .bad .slotInvalid
          ∧ (s.store.slots[n]? = some .bad → endsEmpty true .bad .slotInvalid)
          ∧ (s.store.slots[n]? = some .empty → endsEmpty true .empty .unknownItem)
          ∧ ∀ image ref, s.store.slots[n]? = some (.good image ref) →
            (image.fitsHull s.spaces s.tanks = false → endsEmpty true (.good image ref) .slotInvalid)
            ∧ (image.fitsHull s.spaces s.tanks = true →
                (∀ q, ref = some q → q.stations.length ≠ s.stationCount) →
                endsEmpty true (.good image ref) .refusedState))
      ∧ (∀ n image ref, s.store.job = some (.selfCheck n none) → s.store.slots[n]? = some (.good image (some ref)) →
          image.fitsHull s.spaces s.tanks = true → ref.stations.length = s.stationCount →
          ∃ s', exec (.selfCheckReadEnd t true) s = .next s' ∧ s'.owner = .archive
            ∧ s'.trial = loadImage image s.spaces s.tanks s.cranes s.bank.channels true
            ∧ (∀ k ∈ s'.trial.tanks, k.source = .stated)
            ∧ s'.store.job = some (.selfCheck n (some ref)) ∧ s'.sched = { s.sched with selfCheckWaiting := true })
      ∧ (∀ n ref sn acc, s.store.job = some (.selfCheck n (some ref)) → s.unit = some ⟨.selfCheck, sn, acc⟩ →
          let r := sn.resultFrom acc
          let level := judgeLevel sn.hull r
          let out := firstOut (comparisons (sn.hull.s6.limits r.mode) r ref)
          let verdict : List Byte := match out with
            | none => List.replicate 13 0
            | some f => [1, 1] ++ be 1 f.quantity.num
                ++ (match f.station with | none => [0, 0] | some k => 1 :: be 1 k)
                ++ beS 4 f.computed ++ beS 4 f.reference
          let worst : List Byte := match level.2 with | none => [0, 0] | some k => 1 :: be 1 k.num
          (acc = sn.accumulators → r = evaluate sn)
          ∧ ∃ s', exec (.selfCheckCompletion t) s = .next s' ∧ s'.unit = none ∧ s'.owner = .empty
            ∧ s'.trial = Area.empty ∧ s'.store.job = none
            ∧ s'.store.lastJob = some { kind := .selfCheck, target := some (.slot n), code := .done }
            ∧ s'.verdict = s.verdict ∧ s'.crit = s.crit ∧ s'.serial = s.serial ∧ s'.holds = s.holds
            ∧ s'.live = s.live
            ∧ s' = settle (jobEnded false .selfCheck (some (.slot n)) .done (some (out.map (·.quantity)))
                (verdict ++ be 1 level.1.num ++ worst)
                { atTime t s with unit := none, owner := .empty, trial := Area.empty })))
    ∧ (∀ (lim : LimitSet) (r : Result) (ref : Reference),
          lim.stations.length = r.strength.length → ref.stations.length = r.strength.length →
          (firstOut (comparisons lim r ref) = none ↔
            |r.delta - ref.delta| ≤ 2 ∧ |r.lcg - ref.lcg| ≤ 5 ∧ |r.tcg - ref.tcg| ≤ 5 ∧ |r.kgc - ref.kgc| ≤ 5
              ∧ |r.gm - ref.gm| ≤ 5 ∧ |r.trim - ref.trim| ≤ 5
              ∧ ∀ (k : Nat) (l : StationLimits) (f : Strength) (q : RefStation), lim.stations[k]? = some l →
                  r.strength[k]? = some f → ref.stations[k]? = some q →
                  |f.sf - q.sf| * 100 ≤ l.shear ∧ |f.bm - q.bm| * 100 ≤ min l.hog l.sag))
    ∧ (∀ cs : List Comparison,
          (firstOut cs = none ↔ ∀ c ∈ cs, c.within = true)
          ∧ ∀ before c after', cs = before ++ c :: after' → (∀ x ∈ before, x.within = true) → c.within = false →
              firstOut cs = some ⟨c.quantity, c.station, c.computed, c.reference⟩)

/-- REFERENCE-WRITE in CONFIG with no job, an unlocked VALID slot and a reference in range, or its removal: the slot
is INVALID while the write runs and the answer is owed; else it is refused, in order, REFUSED-STATE, BUSY, LOCKED,
UNKNOWN-ITEM for an EMPTY slot, SLOT-INVALID for an INVALID one, and REFUSED-RANGE. Verified, the image stands with the
new reference and the answer is DONE, else the slot is bad, the write-error mark set and the answer SLOT-INVALID; the
ARCHIVE notice is raised. -/
def Obligations.ReferenceWriteReplacesTheReference : Prop :=
  ∀ t s,
    (∀ m n ref, Taken 30 readReference .planning m (n, ref) s →
      let refusedWith (c : Code) : Prop :=
        exec (.referenceWrite t .planning) s = .next (answered .planning 30 m c [] (handed t .planning s))
      let inRange := ∀ r, ref = some r →
        2 ≤ r.stations.length ∧ r.stations.length ≤ 12 ∧ 1 ≤ r.delta ∧ r.delta ≤ 41085821
      (s.device ≠ .config → refusedWith .refusedState)
      ∧ (s.device = .config → s.store.job.isSome = true → refusedWith .busy)
      ∧ (s.device = .config → s.store.job = none → s.store.lockSlots.getD n false = true → refusedWith .locked)
      ∧ (s.device = .config → s.store.job = none → s.store.lockSlots.getD n false = false →
        (s.store.directory[n]? = some .empty → refusedWith .unknownItem)
        ∧ (s.store.directory[n]? = some .invalid → refusedWith .slotInvalid)
        ∧ ∀ k lots v serial, s.store.directory[n]? = some (.valid k lots v serial) →
          (¬ inRange → refusedWith .refusedRange)
          ∧ (inRange →
            exec (.referenceWrite t .planning) s = .next (owing .planning 30 m false { handed t .planning s with
              store := { s.store with
                job := some (.referenceWrite n ref), writeError := false
                directory := s.store.directory.set n .invalid } }))))
    ∧ ∀ n ref image old, s.store.job = some (.referenceWrite n ref) → s.store.slots[n]? = some (.good image old) →
        let ends (code : Code) (store : Store) (s' : State) : Prop :=
          s'.store = { store with
              job := none, lastJob := some { kind := .referenceWrite, target := some (.slot n), code := code } }
            ∧ s' = settle (jobEnded false .referenceWrite (some (.slot n)) code none [] { atTime t s with store := store })
        (∃ s', exec (.referenceWriteEnd t true) s = .next s' ∧ ends .done { s.store with
            slots := s.store.slots.set n (.good image ref)
            directory := s.store.directory.set n (.valid (ref.map (·.stations.length)) image.lots.length
              image.version image.serial) } s')
        ∧ ∃ s', exec (.referenceWriteEnd t false) s = .next s' ∧ ends .slotInvalid { s.store with
            slots := s.store.slots.set n .bad, directory := s.store.directory.set n .invalid
            writeError := true } s'

/-- LOCK, FREEZE and IDENTITY-WRITE in RUN or CONFIG with no job: what is already set needs nothing or is refused
(LOCK DONE, FREEZE FROZEN, IDENTITY-WRITE ALREADY-WRITTEN), LOCK under FREEZE is FROZEN, while a job runs BUSY, and
in CONFIG REFUSED-STATE for a section whose working copy differs; else the job begins with its answer owed, but a
LOCK of a section above 7 is UNKNOWN-ITEM (the model's choice, log 42). The end of a LOCK, FREEZE or IDENTITY-WRITE:
verified, the mark is set or the record written, and the job has ended DONE; not verified, nothing is written, the
write-error mark is set and the job has ended REFUSED-STATE; either way the owed answer carries the outcome and the
ARCHIVE notice is raised. Outside RUN and CONFIG each is refused REFUSED-STATE, and an IDENTITY-WRITE of a record
out of range REFUSED-RANGE. The form of the hull number follows log 46 (the model's choice). -/
def Obligations.PermanentWritesBeginAndEnd : Prop :=
  (∀ t s m, s.device ≠ .run → s.device ≠ .config →
      (∀ q, Taken 31 readTarget .planning m q s → exec (.lock t .planning) s =
          .next (answered .planning 31 m .refusedState [] (handed t .planning s)))
      ∧ (Taken 32 noFields .planning m () s → exec (.freeze t .planning) s =
          .next (answered .planning 32 m .refusedState [] (handed t .planning s)))
      ∧ (∀ i, Taken 33 readIdentityFields .planning m i s → exec (.identityWrite t .planning) s =
          .next (answered .planning 33 m .refusedState [] (handed t .planning s))))
    ∧ (∀ t s m, (s.device = .run ∨ s.device = .config) →
      (∀ q, Taken 31 readTarget .planning m q s →
        (s.locked q = true → exec (.lock t .planning) s = .next (answered .planning 31 m .done [] (handed t .planning s)))
        ∧ (s.locked q = false → s.store.frozen = true → exec (.lock t .planning) s =
            .next (answered .planning 31 m .frozen [] (handed t .planning s)))
        ∧ (s.locked q = false → s.store.frozen = false → s.store.job.isSome = true → exec (.lock t .planning) s =
            .next (answered .planning 31 m .busy [] (handed t .planning s)))
        ∧ (∀ n w h, q = .sec n → s.locked q = false → s.store.frozen = false → s.store.job = none →
            s.working = some w → s.hull = some h → w.sameSec h n = false → s.device = .config →
            exec (.lock t .planning) s = .next (answered .planning 31 m .refusedState [] (handed t .planning s)))
        ∧ (s.locked q = false → s.store.frozen = false → s.store.job = none → s.lockBlocked q = false →
            ((∀ n, q = .sec n → n < 8) → exec (.lock t .planning) s =
              .next (owing .planning 31 m false { handed t .planning s with
                store := { s.store with job := some (.lock q), writeError := false } }))
            ∧ ∀ n, q = .sec n → 8 ≤ n → exec (.lock t .planning) s =
                .next (answered .planning 31 m .unknownItem [] (handed t .planning s))))
      ∧ (Taken 32 noFields .planning m () s →
        (s.store.frozen = true → exec (.freeze t .planning) s =
            .next (answered .planning 32 m .frozen [] (handed t .planning s)))
        ∧ (s.store.frozen = false → s.store.job.isSome = true →
            exec (.freeze t .planning) s = .next (answered .planning 32 m .busy [] (handed t .planning s)))
        ∧ (s.store.frozen = false → s.store.job = none →
            exec (.freeze t .planning) s = .next (owing .planning 32 m false { handed t .planning s with
              store := { s.store with job := some .freeze, writeError := false } })))
      ∧ (∀ i, Taken 33 readIdentityFields .planning m i s →
        (s.store.identity.isSome = true → exec (.identityWrite t .planning) s =
            .next (answered .planning 33 m .alreadyWritten [] (handed t .planning s)))
        ∧ (s.store.identity = none → s.store.job.isSome = true → exec (.identityWrite t .planning) s =
            .next (answered .planning 33 m .busy [] (handed t .planning s)))
        ∧ (s.store.identity = none → s.store.job = none → i.inRange = false → exec (.identityWrite t .planning) s =
            .next (answered .planning 33 m .refusedRange [] (handed t .planning s)))
        ∧ (s.store.identity = none → s.store.job = none → i.inRange = true →
            exec (.identityWrite t .planning) s = .next (owing .planning 33 m false { handed t .planning s with
              store := { s.store with job := some (.identityWrite i), writeError := false } }))))
    ∧ (∀ t s,
          let ends (kind : JobKind) (target : Option Target) (code : Code) (store : Store) (s' : State) : Prop :=
            s'.store = { store with job := none, lastJob := some { kind := kind, target := target, code := code } }
              ∧ s' = settle (jobEnded false kind target code none [] { atTime t s with store := store })
          (∀ n, s.store.job = some (.lock (.slot n)) → ∃ s', exec (.lockEnd t true) s = .next s'
              ∧ ends .lock (some (.slot n)) .done { s.store with lockSlots := s.store.lockSlots.set n true } s')
          ∧ (∀ n, s.store.job = some (.lock (.sec n)) → ∃ s', exec (.lockEnd t true) s = .next s'
              ∧ ends .lock (some (.sec n)) .done { s.store with lockSections := s.store.lockSections.set n true } s')
          ∧ (∀ q, s.store.job = some (.lock q) → ∃ s', exec (.lockEnd t false) s = .next s'
              ∧ ends .lock (some q) .refusedState { s.store with writeError := true } s')
          ∧ (∀ ok, s.store.job = some .freeze → ∃ s', exec (.freezeEnd t ok) s = .next s'
              ∧ ends .freeze none (if ok then .done else .refusedState) { s.store with
                  frozen := ok || s.store.frozen, writeError := !ok || s.store.writeError } s')
          ∧ (∀ i ok, s.store.job = some (.identityWrite i) → ∃ s', exec (.identityWriteEnd t ok) s = .next s'
              ∧ ends .identityWrite none (if ok then .done else .refusedState) { s.store with
                  identity := if ok then some i else s.store.identity
                  writeError := !ok || s.store.writeError } s'))

/-- RELEASE-TRIAL comes from the planning link alone, in RUN, CONFIG and HULL-FAULT. With TRIAL RECALLED, TRIAL
becomes EMPTY, a waiting ADOPT is cancelled with its notice at the planning link, and the answer is DONE; with any
other owner the answer is DONE and nothing changes. It is no store job: the store's job and last job stand. A
look-ahead may become wanted: every condition but the empty TRIAL stands as it was. What TRIAL holds while it is
EMPTY is the model's choice (log 43). -/
def Obligations.ReleaseTrialEndsARecalledCondition : Prop :=
  (∀ t l s m, Taken 34 noFields l m () s → l ≠ .planning →
      exec (.releaseTrial t l) s = .next (answered l 34 m .refusedRights [] (handed t l s)))
  ∧ ∀ t s m, Taken 34 noFields .planning m () s →
    (s.owner ≠ .recalled →
        exec (.releaseTrial t .planning) s = .next (answered .planning 34 m .done [] (handed t .planning s)))
    ∧ (s.owner = .recalled → ∃ s', exec (.releaseTrial t .planning) s = .next (answered .planning 34 m .done [] s')
        ∧ s'.owner = .empty ∧ s'.trial = Area.empty
        ∧ s'.store = { s.store with waitingAdopt := false } ∧ s'.store.job = s.store.job
        ∧ (s.store.waitingAdopt = true → s'.lius.planning.slots.archive = some (.archive
            { job := .adopt, target := none, code := .refusedState, check := none
              writeError := s.store.writeError, owner := .empty, version := s.version }))
        ∧ s' = { handed t .planning s with owner := .empty, trial := Area.empty, store := s'.store, lius := s'.lius }
        ∧ (s'.lookWanted = true ↔ s.device = .run ∧ s.sched.run = none ∧ 0 < s.ring.nPending ∧ s.lookCurrent = false))

/-- ADOPT of a RECALLED TRIAL with an empty ring waits and raises a live request with its cause; one that waits
already is answered DONE; else it is refused REFUSED-STATE. A waiting ADOPT at the live snapshot: with no lot in
hand and an empty ring LIVE takes TRIAL's lots, constants and mode and its tanks with their volumes and densities, a
tank without a SOUNDING channel becoming STATED, and keeps its own cranes; the version is one higher and TRIAL is
EMPTY; else nothing of LIVE or TRIAL changes. It waits no longer in either case. The ARCHIVE notice of the ADOPT,
DONE or REFUSED-STATE, is raised at the planning link whatever it selects, and at the other links that select it.
What TRIAL holds while it is EMPTY is the model's choice (log 43). -/
def Obligations.AdoptReplacesLive : Prop :=
  (∀ t s m, Taken 35 noFields .planning m () s →
      ((s.device = .hullFault ∨ s.owner ≠ .recalled ∨ s.ring.entries ≠ []) →
          exec (.adopt t .planning) s = .next (answered .planning 35 m .refusedState [] (handed t .planning s)))
      ∧ ((s.device = .run ∨ s.device = .config) → s.owner = .recalled → s.ring.entries = [] →
          (s.store.waitingAdopt = true →
            exec (.adopt t .planning) s = .next (answered .planning 35 m .done [] (handed t .planning s)))
          ∧ (s.store.waitingAdopt = false →
            exec (.adopt t .planning) s = .next (answered .planning 35 m .done [] { handed t .planning s with
              store := { s.store with waitingAdopt := true }
              sched := if s.device = .run then
                  { s.sched with livePending := true, causes := s.sched.causes ||| 0b100000#6 }
                else s.sched }))))
    ∧ (∀ s : State, s.store.waitingAdopt = true →
          (applyAdopt s).store = { s.store with waitingAdopt := false }
          ∧ (s.live.anyInHand = false → s.ring.entries = [] →
              (applyAdopt s).live.lots = s.trial.lots ∧ (applyAdopt s).live.constants = s.trial.constants
                ∧ (applyAdopt s).live.mode = s.trial.mode ∧ (applyAdopt s).live.cranes = s.live.cranes
                ∧ (applyAdopt s).live.tanks.length = s.trial.tanks.length
                ∧ (∀ (k : Nat) (T : TankState), s.trial.tanks[k]? = some T → (applyAdopt s).live.tanks[k]? = some { T with
                    source := if gaugeBound s.bank.channels k then T.source else .stated })
                ∧ (applyAdopt s).version = s.version + 1 ∧ (applyAdopt s).owner = .empty
                ∧ (applyAdopt s).trial = Area.empty
                ∧ applyAdopt s = raiseNotice forcedPlanning
                    (.archive { job := .adopt, target := none, code := .done, check := none
                                writeError := s.store.writeError, owner := .empty, version := s.version + 1 })
                    { s with live := (applyAdopt s).live, version := s.version + 1, owner := .empty
                             trial := Area.empty, store := { s.store with waitingAdopt := false } })
          ∧ ((s.live.anyInHand = true ∨ s.ring.entries ≠ []) →
              (applyAdopt s).live = s.live ∧ (applyAdopt s).version = s.version ∧ (applyAdopt s).trial = s.trial
                ∧ (applyAdopt s).owner = s.owner
                ∧ applyAdopt s = raiseNotice forcedPlanning
                    (.archive { job := .adopt, target := none, code := .refusedState, check := none
                                writeError := s.store.writeError, owner := s.owner, version := s.version })
                    { s with store := { s.store with waitingAdopt := false } }))

/-! ## The scheduler -/

/-- EVALUATE-NOW in RUN raises REQUESTED and is answered with the serial its verdict may carry, the one after the next
while a live evaluation is computing; elsewhere it is refused REFUSED-STATE. The periodic timer's expiry stops it and,
in RUN, raises PERIODIC; a timer that is stopped or not yet due does nothing. -/
def Obligations.LiveRequestsAreRaised : Prop :=
  (∀ t l s m, Taken 21 noFields l m () s →
      let succ (n : Nat) : Nat := if n < 65535 then n + 1 else 1
      (s.device ≠ .run → exec (.evaluateNow t l) s = .next (answered l 21 m .refusedState [] (handed t l s)))
      ∧ (s.device = .run → exec (.evaluateNow t l) s = .next (answered l 21 m .done
          (be 2 (if s.liveComputing then succ (succ s.serial) else succ s.serial))
          { handed t l s with
            sched := { s.sched with livePending := true, causes := s.sched.causes ||| 0b000010#6 } })))
    ∧ (∀ t s,
          (∀ e, s.sched.periodic = some e → e ≤ max s.now t →
              (s.device = .run → exec (.periodicTimerExpiry t) s = .next (settle { atTime t s with
                sched := { s.sched with
                  periodic := none, livePending := true, causes := s.sched.causes ||| 0b000001#6 } }))
              ∧ (s.device ≠ .run → exec (.periodicTimerExpiry t) s = .next (settle { atTime t s with
                sched := { s.sched with periodic := none } })))
          ∧ ((s.sched.periodic = none ∨ ∃ e, s.sched.periodic = some e ∧ max s.now t < e) →
              exec (.periodicTimerExpiry t) s = .next s))

/-- A grant with the Unit IDLE and no ENTER-CONFIG held serves a pending live request first: a waiting ADOPT is
applied or refused, then each ready set in list order is tried over what the one before it left, LIVE as they leave
it is copied into the snapshot with the causes and the frozen channels (of each crane the net load and reaches, of
each GAUGED tank the sounding, of a HEEL channel that is enabled the observed heel, each held where its channel is
not LIVE and 0 where none is bound), the pending mark is cleared, and the periodic timer starts anew. Then a waiting
self-check, over TRIAL, with every crane at net load and reach 0, fresh, and no soundings or heel. A run gives way
to either, SUSPENDED; with the Unit computing or an ENTER-CONFIG held nothing is granted (how these meet at one
event is the model's reading, log 21). From the grant on the working accumulators hold the sums of the snapshot (the
model's choice, log 37). A grant with nothing pending but a wanted look-ahead starts a run: TRIAL is LOOKAHEAD with
the base of LIVE as the first stage changes it, and the Unit computes that stage; a run in progress whose base still
stands goes on with its next stage; one whose base has moved is started again in the same way, from the present
base. A run whose walk gives no stage is COMPLETE at once, without records. With nothing wanted nothing is granted.
What TRIAL holds while it is EMPTY is the model's choice (log 43). -/
def Obligations.GrantsServeInTheirOrder : Prop :=
  (∀ t s, (s.hull = none → exec (.grant t) s = .next s) ∧ ∀ h, s.hull = some h →
      ((s.unit.isSome = true ∨ s.sched.heldEnter = true) → exec (.grant t) s = .next s)
      ∧ (s.unit = none → s.sched.heldEnter = false → s.device = .run → s.sched.livePending = true →
          let after := s.ready.foldl (fun q r => applySet r q) { applyAdopt { atTime t s with
            sched := { s.sched with run := s.sched.run.map (fun r => { r with suspended := true }) } } with ready := [] }
          ∃ s' sn, exec (.grant t) s = .next s' ∧ s'.unit = some ⟨.live, sn, sn.accumulators⟩
            ∧ s' = settle { after with unit := s'.unit, sched := s'.sched }
            ∧ s'.live = after.live ∧ s'.ring = after.ring ∧ s'.version = after.version ∧ s'.sets = after.sets
            ∧ s'.owner = after.owner ∧ s'.trial = after.trial
            ∧ sn.source = .live ∧ sn.area = s'.live ∧ sn.hull = h
            ∧ sn.ident = some { version := s'.version, causes := s.sched.causes }
            ∧ (let frozen (kind : ChanKind) (target : Nat) (value : Int → Int) : Frozen :=
                match boundChannel s.bank.channels kind target with
                | none => { value := 0, held := false, channel := none }
                | some (n, c) => { value := value c.value, held := decide (c.state ≠ .live), channel := some n }
              sn.cranes.length = h.s5.length
              ∧ (∀ k r, h.s5[k]? = some r → sn.cranes[k]? = some (CraneTerm.mk
                  (frozen .hook (k + 1) (fun v => max 0 (v - r.tare)))
                  (frozen .reachL (k + 1) id) (frozen .reachT (k + 1) id)))
              ∧ sn.soundings.length = sn.area.tanks.length
              ∧ (∀ k T, sn.area.tanks[k]? = some T → sn.soundings[k]? = some
                  (if T.source = .gauged then some (frozen .sounding k id) else none))
              ∧ sn.heel = (match boundChannel s.bank.channels .heel 0 with
                | none => none
                | some (_, c) => if c.cfg.enable = true then some (frozen .heel 0 id) else none))
            ∧ s'.sched.livePending = false ∧ s'.sched.causes = 0
            ∧ s'.sched.periodic = some (max s.now t + h.s7.period)
            ∧ s'.sched.run = s.sched.run.map (fun r => { r with suspended := true })
            ∧ s'.ready = [] ∧ s'.store.waitingAdopt = false
            ∧ (s.ready = [] → s.store.waitingAdopt = false → s'.live = s.live ∧ s'.version = s.version)
            ∧ s'.bank = s.bank ∧ s'.holds = s.holds ∧ s'.verdict = s.verdict ∧ s'.serial = s.serial)
      ∧ (s.unit = none → s.sched.heldEnter = false → (s.sched.livePending = false ∨ s.device ≠ .run) →
          s.sched.selfCheckWaiting = true →
          ∃ sn, exec (.grant t) s = .next (settle { atTime t s with
              unit := some ⟨.selfCheck, sn, sn.accumulators⟩
              sched := { s.sched with
                selfCheckWaiting := false, run := s.sched.run.map (fun r => { r with suspended := true }) } })
            ∧ sn.source = .trial ∧ sn.ident = none ∧ sn.area = s.trial ∧ sn.hull = h ∧ sn.heel = none
            ∧ sn.soundings = [] ∧ sn.cranes.length = h.s5.length
            ∧ ∀ c ∈ sn.cranes, c.net = ⟨0, false, none⟩ ∧ c.l = ⟨0, false, none⟩ ∧ c.t = ⟨0, false, none⟩))
    ∧ (∀ t s h, s.hull = some h → s.unit = none → s.sched.heldEnter = false → s.sched.livePending = false →
          s.sched.selfCheckWaiting = false →
          let starts := (s.sched.run = none ∧ s.lookWanted = true)
            ∨ ∃ r, s.sched.run = some r ∧ (r.base.version ≠ s.version ∨ r.base.seq ≠ s.ring.version)
          let base : BaseInfo := { version := s.version, seq := s.ring.version, serial := s.serial }
          (∀ st rest, starts → s.fixStages = st :: rest →
              ∃ s' r sn, exec (.grant t) s = .next s' ∧ s'.owner = .lookahead
                ∧ s'.trial = st.apply (baseArea s.live) ∧ s'.unit = some ⟨.stage 1, sn, sn.accumulators⟩ ∧ sn.area = s'.trial
                ∧ sn.source = .trial ∧ sn.ident = none
                ∧ s'.sched.run = some r ∧ r.suspended = false ∧ r.next = 2 ∧ r.records = [] ∧ r.stages = st :: rest
                ∧ r.base = base
                ∧ s'.live = s.live ∧ s'.version = s.version ∧ s'.ring = s.ring ∧ s'.store = s.store)
          ∧ (starts → s.fixStages = [] →
              ∃ s', exec (.grant t) s = .next s' ∧ s'.owner = .empty ∧ s'.trial = Area.empty ∧ s'.unit = none
                ∧ s'.sched = { s.sched with run := none }
                ∧ s'.look = { outcome := .complete, base := some base, records := [], firstOver := none }
                ∧ s'.live = s.live ∧ s'.version = s.version ∧ s'.ring = s.ring ∧ s'.store = s.store)
          ∧ (∀ r st, s.sched.run = some r → r.base.version = s.version → r.base.seq = s.ring.version →
              r.stages[r.next - 1]? = some st →
              ∃ s' sn, exec (.grant t) s = .next s' ∧ s'.trial = st.apply s.trial ∧ s'.owner = s.owner
                ∧ s'.unit = some ⟨.stage r.next, sn, sn.accumulators⟩ ∧ sn.area = s'.trial
                ∧ s'.sched.run = some { r with suspended := false, next := r.next + 1 } ∧ s'.live = s.live)
          ∧ (s.sched.run = none → s.lookWanted = false → exec (.grant t) s = .next (settle (atTime t s))))

/-- A live evaluation's completion, the working accumulators holding the sums of the snapshot (log 37), is one
event: the Unit is IDLE and its accumulators are gone, the serial counts on, the verdict holds the figures of the
snapshot and the states its table reaches from the states before, every line stands by the new verdict, every link's
verdict-ready mark is set, and one that was set counts an overrun; LIVE and the sequence stand. Of the links' other
fields only the HOLD slots and the counters may move, and then a VERDICT notice with the verdict's figures and its
entries OVER is raised at the selecting links where it is the first since RUN was entered, or where the level, the
degraded mark or the entries OVER differ from the verdict before; else none is raised. -/
def Obligations.LiveCompletionPublishes : Prop :=
  ∀ t s sn, s.unit = some ⟨.live, sn, sn.accumulators⟩ →
    ∃ s' v, exec (.liveCompletion t) s = .next s' ∧ s'.unit = none ∧ s'.verdict = some v ∧ s'.published = true
      ∧ v.serial = (if s.serial < 65535 then s.serial + 1 else 1) ∧ s'.serial = v.serial
      ∧ v.figures = evaluate sn ∧ (∀ i, sn.ident = some i → v.ident = i) ∧ s'.crit = v.entries
      ∧ v.entries = List.zipWith (fun e j => e.publish (sn.hull.s6.band e.kind) j) s.crit (judge sn.hull (evaluate sn))
      ∧ (∀ h, s'.lineStands h)
      ∧ (∀ l, (s'.lius.get l).mark = true)
      ∧ (∀ l, (s.lius.get l).summary.overruns ≤ 255 → (s'.lius.get l).summary.overruns =
          if (s.lius.get l).mark then min 255 ((s.lius.get l).summary.overruns + 1)
          else (s.lius.get l).summary.overruns)
      ∧ s'.live = s.live ∧ s'.version = s.version ∧ s'.ring = s.ring ∧ s'.look = s.look ∧ s'.sched = s.sched
      ∧ s'.bank = s.bank ∧ s'.store = s.store ∧ s'.owner = s.owner ∧ s'.trial = s.trial ∧ s'.sets = s.sets
      ∧ ∃ s2,
        let overSet (w : Verdict) : List (CritKind × Nat) :=
          (w.entries.filter (fun e => e.state == .over)).map (fun e => (e.kind, e.index))
        let news := s.published = false ∨ s.verdict = none ∨ ∃ old, s.verdict = some old ∧
          (old.level ≠ v.level ∨ old.figures.degraded ≠ v.figures.degraded ∨ overSet old ≠ overSet v)
        (∀ l, s2.lius.get l = { s.lius.get l with
            mark := true
            slots := { (s.lius.get l).slots with hold := (s2.lius.get l).slots.hold }
            summary := (s2.lius.get l).summary })
        ∧ (¬ news → s' = settle s2)
        ∧ (news → s' = settle (raiseNotice forcedNone
            (.verdict { serial := v.serial, causes := v.ident.causes, version := v.ident.version
                        mode := v.figures.mode, level := v.level, degraded := v.figures.degraded
                        nOver := (overSet v).length
                        nNear := (v.entries.filter (fun e => e.state == .near)).length
                        overEntries := overSet v }) s2))

/-- A stage's completion, the working accumulators holding the sums of the snapshot (log 37), adds its record; after
the last stage the result is COMPLETE under the run's base with the first OVER stage, TRIAL is EMPTY, and a SEQUENCE
notice of the result is raised at the selecting links, and at every link where the first OVER stage differs in
presence, step or kind from the one before (what the notice carries follows log 41, the model's reading); before it
the run goes on, suspended where a live request or a self-check waits. A stage whose run was abandoned leaves
nothing. An abandonment ends the run in progress, leaves the result as it was but ABANDONED, and raises a SEQUENCE
notice at the selecting links; with no run it does nothing. What TRIAL holds while it is EMPTY is the model's choice
(log 43). -/
def Obligations.StageCompletionRecordsAStage : Prop :=
  (∀ t s k sn, s.unit = some ⟨.stage k, sn, sn.accumulators⟩ →
    (s.sched.run = none → exec (.stageCompletion t) s = .next (settle { atTime t s with unit := none }))
    ∧ ∀ r st, s.sched.run = some r → r.stages[k - 1]? = some st →
      let e := evaluate sn
      let j := judgeLevel sn.hull e
      let rec' : StageRecord := { ordinal := k, step := st.stepId, kind := st.kind, level := j.1, worst := j.2
                                  gm := e.gm, heel := e.heel, trim := e.trim, degraded := e.degraded }
      (k < r.stages.length → exec (.stageCompletion t) s = .next (settle { atTime t s with
          unit := none
          sched := { s.sched with run := some { r with
            records := r.records ++ [rec'], suspended := s.sched.livePending || s.sched.selfCheckWaiting } } }))
      ∧ (r.stages.length ≤ k →
          let records := r.records ++ [rec']
          let differs := firstOverDiffers s.look.firstOver (firstOverOf records)
          exec (.stageCompletion t) s = .next (settle (raiseNotice (fun _ => differs)
            (.sequence { outcome := .complete, base := some r.base, nRecords := records.length
                         worst := records.foldl (fun w x => w.worse x.level) .ok
                         firstOver := firstOverOf records, differs := differs
                         seq := s.ring.version, nPending := s.ring.nPending })
            { atTime t s with
              unit := none, sched := { s.sched with run := none }, owner := .empty, trial := Area.empty
              look := { outcome := .complete, base := some r.base, records := records
                        firstOver := firstOverOf records } }))))
    ∧ (∀ a b : Option FirstOver, firstOverDiffers a b = false ↔
          (a.map fun x => (x.step, x.kind)) = b.map fun x => (x.step, x.kind))
    ∧ ∀ s : State, (s.sched.run = none → abandonLook s = s)
      ∧ (s.sched.run.isSome = true → abandonLook s = raiseNotice forcedNone
          (.sequence { outcome := .abandoned, base := s.look.base, nRecords := s.look.records.length
                       worst := s.look.records.foldl (fun w x => w.worse x.level) .ok
                       firstOver := s.look.firstOver, differs := false
                       seq := s.ring.version, nPending := s.ring.nPending })
          { s with sched := { s.sched with run := none }, look := { s.look with outcome := .abandoned } })

/-! ## Arithmetic, criteria, encodings -/

/-- Every quotient is rounded to the nearest integer, a half away from zero. Between two points of an ascending column a
value is interpolated by one rounded quotient, and outside it is the end point's. The items of a snapshot are the
constants at their places, the lots at theirs with the mass they are counted by (a STOWED lot its mass used, a SLUNG one
ABOARD that less the net load of its crane down to 0, any other 0), and the tanks, each with the mass of its volume and
density; a crane term is its net load at its load point. The sums without crane terms are taken over lightship and the
items; the crane terms follow in order under the 48-bit bound, a sum that would pass it staying at the end of its range.
A station's weight and its moment take each point and span whole, in part or not at all by where it lies, its buoyancy
is interpolated at the displacement, and shear force and bending moment are their differences. The figures of a result
stand in their relations: the centres are the moments over the displacement, GM is KM less corrected KG, corrected KG
is KG with the free surface, trim is the displacement's lever over MCT, the forward draught is the after one less trim,
heel and trim stay in their ranges, the negative-GM flag says that GM is not above 0, and the release group is absent
exactly where no crane carries a net load. A lot without a place counts nothing (the model's reading, log 20). -/
def Obligations.QuotientsAndResultsHoldTheirRelations : Prop :=
  let bound : Int := 140737488355327
  (∀ a b : Int, b ≠ 0 →
      2 * |roundDiv a b * b - a| ≤ |b| ∧ (2 * |roundDiv a b * b - a| = |b| → |a| < |roundDiv a b * b|))
    ∧ (∀ (keys values : List Int) (key : Int), keys.Pairwise (· < ·) → values.length = keys.length →
          let found := interpolate (bracket key keys) values
          (∀ i a b va vb, keys[i]? = some a → keys[i + 1]? = some b → values[i]? = some va → values[i + 1]? = some vb →
              a ≤ key → key ≤ b → found = va + roundDiv ((vb - va) * (key - a)) (b - a))
            ∧ (∀ a va, keys.head? = some a → values.head? = some va → key < a → found = va)
            ∧ (∀ z vz, keys.getLast? = some z → values.getLast? = some vz → z < key → found = vz))
    ∧ (∀ (sn : Snapshot) (k : Nat) (r : TankRec) (T : TankState),
          sn.hull.s4[k]? = some r → sn.area.tanks[k]? = some T →
          ∃ f, sn.tanks[k]? = some (k, r, f) ∧ f.mass = roundDiv (f.volume * T.density) 100000
            ∧ f.fsm = (if 2 * r.capacity < 100 * f.volume ∧ 100 * f.volume < 98 * r.capacity then
                roundDiv (r.coeff * T.density) 1000 else 0)
            ∧ (T.source = .stated → f.volume = T.volume
                ∧ f.vcg = interpolate (bracket T.volume (r.points.map (·.volume))) (r.points.map (·.vcg)))
            ∧ (∀ z, T.source = .gauged → sn.soundings[k]? = some (some z) →
                let b := bracket z.value (r.points.map (·.sounding))
                f.volume = interpolate b (r.points.map (·.volume)) ∧ f.vcg = interpolate b (r.points.map (·.vcg))))
    ∧ (∀ sn : Snapshot,
          let used (x : Lot) : Int := x.measured.getD x.declared
          let net (crane : Nat) : Int := ((nth1 sn.cranes crane).map (·.net.value)).getD 0
          let counted (x : Lot) : Int :=
            if x.state = .stowed then used x
            else if x.state = .slung ∧ x.resting = some .aboard then
              used x - min (used x) (net (x.crane.getD 0))
            else 0
          sn.items = sn.area.constants.map (fun c => ⟨c.mass, c.pos, 0⟩)
              ++ sn.area.lots.map (fun x => match x.place with
                | none => Item.mk 0 ⟨0, 0, 0⟩ 0
                | some p => Item.mk (counted x) p.pos x.half)
              ++ sn.tanks.map (fun k => Item.mk k.2.2.mass ⟨k.2.1.lcg, k.2.1.tcg, k.2.2.vcg⟩ k.2.1.half)
            ∧ (∀ (k : Nat) (rec : CraneRec) (c : CraneTerm) (a : AreaCrane), sn.hull.s5[k]? = some rec →
                sn.cranes[k]? = some c → sn.area.cranes[k]? = some a → sn.craneItems[k]? =
                  some (Item.mk c.net.value ⟨rec.px + c.l.value, rec.py + c.t.value, a.height⟩ 0))
            ∧ sn.craneItems.length = min sn.hull.s5.length sn.cranes.length)
    ∧ (∀ sn : Snapshot,
          let a := sn.accumulators
          let point : Item := ⟨sn.hull.s0.lightMass, sn.hull.s0.light, 0⟩
          let sum (f : Item → Int) : Int := f point + sumInt (sn.items.map f)
          let held (start : Int) (f : Item → Int) (m : MomentSum) : Prop :=
            m = addCranes ⟨start, false⟩ (sn.craneItems.map f)
              ∧ (-bound ≤ start → start ≤ bound → -bound ≤ m.value ∧ m.value ≤ bound)
          a.base.mass = sum (fun i => i.mass) ∧ a.base.mx = sum (fun i => i.mass * i.pos.x)
            ∧ a.base.my = sum (fun i => i.mass * i.pos.y) ∧ a.base.mz = sum (fun i => i.mass * i.pos.z)
            ∧ a.mass = a.base.mass + sumInt (sn.cranes.map (·.net.value)) ∧ (evaluate sn).delta = a.mass
            ∧ held a.base.mx (fun i => i.mass * i.pos.x) a.mx ∧ held a.base.my (fun i => i.mass * i.pos.y) a.my
            ∧ held a.base.mz (fun i => i.mass * i.pos.z) a.mz
            ∧ (evaluate sn).lcg = roundDiv a.mx.value a.mass ∧ (evaluate sn).tcg = roundDiv a.my.value a.mass
            ∧ (evaluate sn).kg = roundDiv a.mz.value a.mass)
    ∧ (∀ (start t : Int) (ts : List Int),
          (addCranes ⟨start, false⟩ []).value = start
            ∧ (-bound ≤ start + t → start + t ≤ bound →
                (addCranes ⟨start, false⟩ (t :: ts)).value = (addCranes ⟨start + t, false⟩ ts).value)
            ∧ (bound < start + t → (addCranes ⟨start, false⟩ (t :: ts)).value = bound)
            ∧ (start + t < -bound → (addCranes ⟨start, false⟩ (t :: ts)).value = -bound))
    ∧ (∀ (x : Int) (i : Item),
          let d := x - (i.pos.x - i.half)
          let adds (weight moment : Int) : Prop := weightAft x i = weight ∧ momentAft x i = moment
          (i.half = 0 → i.pos.x < x → adds i.mass (i.mass * (x - i.pos.x)))
            ∧ (i.half = 0 → x ≤ i.pos.x → adds 0 0)
            ∧ (0 < i.half → i.pos.x + i.half ≤ x → adds i.mass (i.mass * (x - i.pos.x)))
            ∧ (0 < i.half → x ≤ i.pos.x - i.half → adds 0 0)
            ∧ (0 < i.half → i.pos.x - i.half < x → x < i.pos.x + i.half →
                adds (roundDiv (i.mass * d) (2 * i.half)) (roundDiv (roundDiv (i.mass * d) (2 * i.half) * d) 2)))
    ∧ (∀ (sn : Snapshot) (k : Nat) (r : StationRec) (cells : List BuoyCell),
          sn.hull.s0.stations[k]? = some r → sn.hull.s2.cells[k]? = some cells →
          let b := bracket (evaluate sn).delta (sn.hull.s1.map (·.delta))
          let moment := addCranes ⟨r.aftMass * (r.x - r.aftX) + sumInt (sn.items.map (momentAft r.x)), false⟩
            (sn.craneItems.map (momentAft r.x))
          ∃ q, (evaluate sn).strength[k]? = some q
            ∧ q.w = r.aftMass + sumInt (sn.items.map (weightAft r.x)) + sumInt (sn.craneItems.map (weightAft r.x))
            ∧ q.b = roundDiv ((evaluate sn).delta * interpolate b (cells.map (·.f))) 10000 ∧ q.sf = q.w - q.b
            ∧ q.bm = roundDiv (moment.value - q.b * (r.x - interpolate b (cells.map (·.b)))) 10000)
    ∧ (∀ sn : Snapshot,
          let r := evaluate sn
          let b := bracket r.delta (sn.hull.s1.map (·.delta))
          r.t = interpolate b (sn.hull.s1.map (·.t)) ∧ r.km = interpolate b (sn.hull.s1.map (·.km))
            ∧ r.lcb = interpolate b (sn.hull.s1.map (·.lcb)) ∧ r.lcf = interpolate b (sn.hull.s1.map (·.lcf))
            ∧ r.mct = interpolate b (sn.hull.s1.map (·.mct))
            ∧ r.gm = r.km - r.kgc ∧ r.kgc = r.kg + roundDiv r.fsm r.delta
            ∧ r.trim = max (-32000) (min 32000 (roundDiv (r.delta * (r.lcb - r.lcg)) r.mct))
            ∧ r.tAft = r.t + roundDiv (r.trim * r.lcf) sn.hull.s0.lpp ∧ r.tFwd = r.tAft - r.trim
            ∧ (0 < r.gm → r.heel = max (-10000) (min 10000 (roundDiv (10000 * r.tcg) r.gm)))
            ∧ -10000 ≤ r.heel ∧ r.heel ≤ 10000 ∧ -32000 ≤ r.trim ∧ r.trim ≤ 32000
            ∧ (r.negGm = true ↔ r.gm ≤ 0) ∧ (r.negGm = true → r.tcg = 0 → r.heel = 0)
            ∧ (r.negGm = true → (r.tcg < 0 → r.heel = -10000) ∧ (0 < r.tcg → r.heel = 10000))
            ∧ (r.release = none ↔ sumInt (sn.cranes.map (·.net.value)) ≤ 0)
            ∧ r.spaces.length = sn.hull.s3.length ∧ r.source = sn.source ∧ r.ident = sn.ident
            ∧ r.mode = sn.area.mode)

/-- The free-surface sum is the sum of the free-surface moments of all tanks, the correction is that sum over the
displacement, rounded, and the corrected centre height is KG with it; with no slack tank the sum is 0 and the
corrected height is KG. The result carries both. -/
def Obligations.FreeSurfaceCorrectsTheCentre : Prop :=
  ∀ sn : Snapshot,
    let r := evaluate sn
    r.fsm = sumInt (sn.tanks.map (fun k => k.2.2.fsm))
      ∧ r.kgc = r.kg + roundDiv r.fsm r.delta
      ∧ ((∀ k ∈ sn.tanks, slack k.2.1.capacity k.2.2.volume = false) → r.fsm = 0 ∧ r.kgc = r.kg)

/-- Each criterion of a result has its margin. GM, HEEL, TRIM, DRAUGHT and TABLE always; RELEASE and AGREEMENT where their
figure exists, else they are OFF; SHEAR and BENDING of each station, against the limits of the mode; SPACE of each
space, under its id; CRANE of each crane, against the SWL of the first point of its table that lies far enough out, 0
beyond the table. A flag of the hydrostatic table forces TABLE, and a negative GM at the release forces RELEASE. The
state a publication gives a criterion: OVER below 0 or where a flag forces it; still OVER below the recovery where it
was OVER; NEAR up to the near band; else OK. The OFF state keeps no hold on what follows. Station indices count from 0
(the model's choice, log 11). -/
def Obligations.CriterionStatesFollowTheMargin : Prop :=
  (∀ (h : Hull) (r : Result),
      let lim := if r.mode = .harbour then h.s6.harbour else h.s6.sea
      let of (k : CritKind) : List Judged := (judge h r).filter (fun j => j.kind == k)
      let plain (k : CritKind) (index : Nat) (m : Int) : Judged :=
        { kind := k, index := index, margin := some m, forced := false, degraded := false }
      of .gm = [plain .gm 0 (r.gm - h.s0.gmMin)] ∧ of .heel = [plain .heel 0 (lim.heel - |r.heel|)]
        ∧ of .release = [{ kind := .release, index := 0, margin := r.release.map (fun x => lim.release - |x.heel|)
                           forced := (r.release.map (·.negGm)).getD false, degraded := false }]
        ∧ of .trim = [plain .trim 0 (min (r.trim - lim.trimMin) (lim.trimMax - r.trim))]
        ∧ of .draught = [plain .draught 0 (lim.tMax - max r.tAft r.tFwd)]
        ∧ of .table = [{ plain .table 0 (h.s0.deltaMax - r.delta) with forced := decide (r.flag ≠ .none) }]
        ∧ of .agreement = [{ kind := .agreement, index := 0, margin := r.observed.map (fun o => lim.agreement - |o - r.heel|)
                             forced := false, degraded := false }]
        ∧ (∀ k l f, lim.stations[k]? = some l → r.strength[k]? = some f →
            (of .shear)[k]? = some (plain .shear k (l.shear - |f.sf|))
              ∧ (of .bending)[k]? = some (plain .bending k (min (l.hog - f.bm) (f.bm + l.sag))))
        ∧ (∀ (k : Nat) (p : SpaceRec) (load : Int), h.s3[k]? = some p → r.spaces[k]? = some load →
            (of .space)[k]? = some (plain .space p.id (p.maxMass - load)))
        ∧ (∀ k rec c, h.s5[k]? = some rec → r.cranes[k]? = some c →
            let far (p : SwlPoint) : Prop := c.l * c.l + c.t * c.t ≤ p.radius * p.radius
            let entry (swl : Int) : Judged := { plain .crane (k + 1) (swl - c.net) with degraded := c.degraded }
            ((∀ p ∈ rec.swl, ¬ far p) → (of .crane)[k]? = some (entry 0))
              ∧ ∀ before p after', rec.swl = before ++ p :: after' → (∀ x ∈ before, ¬ far x) → far p →
                  (of .crane)[k]? = some (entry p.swl)))
    ∧ (∀ (b : Band) (prev : CritState) (forced : Bool) (m : Int), 0 ≤ b.n → 0 ≤ b.r →
        ((forced = true ∨ m < 0) → nextState b prev forced m = .over)
        ∧ (forced = false → 0 ≤ m → prev = .over → m < b.r → nextState b prev forced m = .over)
        ∧ (forced = false → 0 ≤ m → (prev ≠ .over ∨ b.r ≤ m) →
            nextState b prev forced m = if m ≤ b.n then .near else .ok)
        ∧ nextState b .off forced m = nextState b .ok forced m)
    ∧ (∀ (e : CritEntry) (b : Band) (j : Judged),
        (∀ m, j.margin = some m → e.publish b j =
            { e with state := nextState b e.state j.forced m, margin := m, degraded := j.degraded })
        ∧ (j.margin = none → e.publish b j = { e with state := .off, degraded := j.degraded }))

/-- The level of a verdict is the worst state among its entries that are not OFF, OVER worse than NEAR and NEAR worse
than OK; with every entry OFF or OK it is OK; no degraded mark takes part. -/
def Obligations.LevelIsTheWorstState : Prop :=
  ∀ v : Verdict,
    (v.level = .over ↔ ∃ e ∈ v.entries, e.state = .over)
      ∧ (v.level = .near ↔ (∃ e ∈ v.entries, e.state = .near) ∧ ∀ e ∈ v.entries, e.state ≠ .over)
      ∧ (v.level = .ok ↔ ∀ e ∈ v.entries, e.state = .off ∨ e.state = .ok)
      ∧ ∀ v' : Verdict, v'.entries.map (·.state) = v.entries.map (·.state) → v'.level = v.level

/-- Numbers, signed numbers, segments and replies read back as they were written: a number in `n` bytes with the most
significant first, a segment with its data, sequence bit and final mark, a reply with its bit; a message's segments
joined are the message. The two checks give the manual's test values. -/
def Obligations.FieldsAndUnitsReadBack : Prop :=
  (∀ n v : Nat, v < 256 ^ n → readWhole (readNat n) (be n v) = some v)
    ∧ (∀ (n : Nat) (v : Int), 0 < n → -(2 ^ (8 * n - 1)) ≤ v → v < 2 ^ (8 * n - 1) →
        readWhole (readInt n) (beS n v) = some v)
    ∧ (∀ (msg : List Byte) (i : Nat) (bit : Bool), segmentOf ⟨segmentUnit msg i bit, false⟩ =
        some { final := segmentIsLast msg i, seq := bit, data := (msg.drop (32 * i)).take 32 })
    ∧ (∀ (msg : List Byte) (i : Nat), segmentIsLast msg i = true ↔ msg.length / 32 ≤ i)
    ∧ (∀ msg : List Byte, ((List.range (msg.length / 32 + 1)).map (segmentDataOf msg)).flatten = msg)
    ∧ (∀ bit r, replyOf ⟨replyUnitBytes bit r, false⟩ = some (bit, r))
    ∧ crc16 [0x31, 0x32, 0x33, 0x34, 0x35, 0x36, 0x37, 0x38, 0x39] = 0x29B1#16
    ∧ crc8 [0x31, 0x32, 0x33, 0x34, 0x35, 0x36, 0x37, 0x38, 0x39] = 0xF4#8

/-! ## What every step keeps -/

/-- The hold lines stand: each is asserted exactly while a cause is present or its mark is set. -/
def Obligations.StepsKeepTheLines : Prop := KeptByStep State.linesStand

/-- TRIAL has one owner, and its contents, runs and jobs agree with it. What TRIAL holds while it is EMPTY is the
model's choice (log 43). The working accumulators of a COMPUTING Unit hold the sums of its snapshot (the model's
choice, log 37). -/
def Obligations.StepsKeepTrialOwnedAndSums : Prop := KeptByStep State.trialOwned ∧ KeptByStep State.sumsHeld

/-- The ring holds at most 127 entries, and at most 127 less the guard that the planning link appended. -/
def Obligations.StepsKeepTheRingBounds : Prop := KeptByStep State.ringBounded

/-- Response entries, counters and notice slots stay within their capacities, the inbound queue with the message in
assembly holds at most 2,048 bytes, and no message in it is above 512 bytes. -/
def Obligations.StepsKeepTheLinkBounds : Prop := KeptByStep State.linksBounded

/-- Open sets, outcome records and the ready list stay within their capacities. Every lot list holds at most 512 lots
with different ids. -/
def Obligations.StepsKeepTheSetAndLotBounds : Prop :=
  (KeptByStep State.setsBounded)
    ∧ (KeptByStep State.lotsStand)

/-- Lock marks, the freeze mark, a written identity record and the factory serial are never undone, and under FREEZE
no lock mark is added. -/
def Obligations.StepsKeepThePermanentMarks : Prop :=
  KeptByStep State.jobsLawful ∧ ∀ s s', s.jobsLawful → step s = .next s' → s.marksKept s'

/-- The state after reset has every property that steps keep. -/
def Obligations.ResetHasWhatStepsKeep : Prop :=
  State.reset.linesStand ∧ State.reset.trialOwned ∧ State.reset.sumsHeld ∧ State.reset.ringBounded
    ∧ State.reset.linksBounded ∧ State.reset.setsBounded ∧ State.reset.lotsStand ∧ State.reset.jobsLawful
end

