-- ==== Sys2Proof/Laws/State.lean ====
section
/-! SUPPORT. Which fields of State each shared operation leaves as they were: one lemma per field and update. An
operation that branches first has a lemma `<operation>_only`, which says everything it can change. -/

namespace Sys2Proof.Machine

/-! ## atTime -/

@[simp] theorem atTime_pending (t : Nat) (s : State) : (atTime t s).pending = s.pending := rfl
@[simp] theorem atTime_freeReads (t : Nat) (s : State) : (atTime t s).freeReads = s.freeReads := rfl
@[simp] theorem atTime_device (t : Nat) (s : State) : (atTime t s).device = s.device := rfl
@[simp] theorem atTime_hull (t : Nat) (s : State) : (atTime t s).hull = s.hull := rfl
@[simp] theorem atTime_working (t : Nat) (s : State) : (atTime t s).working = s.working := rfl
@[simp] theorem atTime_live (t : Nat) (s : State) : (atTime t s).live = s.live := rfl
@[simp] theorem atTime_version (t : Nat) (s : State) : (atTime t s).version = s.version := rfl
@[simp] theorem atTime_owner (t : Nat) (s : State) : (atTime t s).owner = s.owner := rfl
@[simp] theorem atTime_trial (t : Nat) (s : State) : (atTime t s).trial = s.trial := rfl
@[simp] theorem atTime_sets (t : Nat) (s : State) : (atTime t s).sets = s.sets := rfl
@[simp] theorem atTime_ready (t : Nat) (s : State) : (atTime t s).ready = s.ready := rfl
@[simp] theorem atTime_tracker (t : Nat) (s : State) : (atTime t s).tracker = s.tracker := rfl
@[simp] theorem atTime_bank (t : Nat) (s : State) : (atTime t s).bank = s.bank := rfl
@[simp] theorem atTime_unit (t : Nat) (s : State) : (atTime t s).unit = s.unit := rfl
@[simp] theorem atTime_sched (t : Nat) (s : State) : (atTime t s).sched = s.sched := rfl
@[simp] theorem atTime_crit (t : Nat) (s : State) : (atTime t s).crit = s.crit := rfl
@[simp] theorem atTime_verdict (t : Nat) (s : State) : (atTime t s).verdict = s.verdict := rfl
@[simp] theorem atTime_serial (t : Nat) (s : State) : (atTime t s).serial = s.serial := rfl
@[simp] theorem atTime_published (t : Nat) (s : State) : (atTime t s).published = s.published := rfl
@[simp] theorem atTime_holds (t : Nat) (s : State) : (atTime t s).holds = s.holds := rfl
@[simp] theorem atTime_ring (t : Nat) (s : State) : (atTime t s).ring = s.ring := rfl
@[simp] theorem atTime_look (t : Nat) (s : State) : (atTime t s).look = s.look := rfl
@[simp] theorem atTime_store (t : Nat) (s : State) : (atTime t s).store = s.store := rfl
@[simp] theorem atTime_lius (t : Nat) (s : State) : (atTime t s).lius = s.lius := rfl

@[simp] theorem atTime_now (t : Nat) (s : State) : (atTime t s).now = max s.now t := rfl

/-! ## modifyLiu -/

@[simp] theorem modifyLiu_now (l : Link) (f : Liu → Liu) (s : State) : (modifyLiu l f s).now = s.now := rfl
@[simp] theorem modifyLiu_pending (l : Link) (f : Liu → Liu) (s : State) : (modifyLiu l f s).pending = s.pending := rfl
@[simp] theorem modifyLiu_freeReads (l : Link) (f : Liu → Liu) (s : State) : (modifyLiu l f s).freeReads = s.freeReads := rfl
@[simp] theorem modifyLiu_device (l : Link) (f : Liu → Liu) (s : State) : (modifyLiu l f s).device = s.device := rfl
@[simp] theorem modifyLiu_hull (l : Link) (f : Liu → Liu) (s : State) : (modifyLiu l f s).hull = s.hull := rfl
@[simp] theorem modifyLiu_working (l : Link) (f : Liu → Liu) (s : State) : (modifyLiu l f s).working = s.working := rfl
@[simp] theorem modifyLiu_live (l : Link) (f : Liu → Liu) (s : State) : (modifyLiu l f s).live = s.live := rfl
@[simp] theorem modifyLiu_version (l : Link) (f : Liu → Liu) (s : State) : (modifyLiu l f s).version = s.version := rfl
@[simp] theorem modifyLiu_owner (l : Link) (f : Liu → Liu) (s : State) : (modifyLiu l f s).owner = s.owner := rfl
@[simp] theorem modifyLiu_trial (l : Link) (f : Liu → Liu) (s : State) : (modifyLiu l f s).trial = s.trial := rfl
@[simp] theorem modifyLiu_sets (l : Link) (f : Liu → Liu) (s : State) : (modifyLiu l f s).sets = s.sets := rfl
@[simp] theorem modifyLiu_ready (l : Link) (f : Liu → Liu) (s : State) : (modifyLiu l f s).ready = s.ready := rfl
@[simp] theorem modifyLiu_tracker (l : Link) (f : Liu → Liu) (s : State) : (modifyLiu l f s).tracker = s.tracker := rfl
@[simp] theorem modifyLiu_bank (l : Link) (f : Liu → Liu) (s : State) : (modifyLiu l f s).bank = s.bank := rfl
@[simp] theorem modifyLiu_unit (l : Link) (f : Liu → Liu) (s : State) : (modifyLiu l f s).unit = s.unit := rfl
@[simp] theorem modifyLiu_sched (l : Link) (f : Liu → Liu) (s : State) : (modifyLiu l f s).sched = s.sched := rfl
@[simp] theorem modifyLiu_crit (l : Link) (f : Liu → Liu) (s : State) : (modifyLiu l f s).crit = s.crit := rfl
@[simp] theorem modifyLiu_verdict (l : Link) (f : Liu → Liu) (s : State) : (modifyLiu l f s).verdict = s.verdict := rfl
@[simp] theorem modifyLiu_serial (l : Link) (f : Liu → Liu) (s : State) : (modifyLiu l f s).serial = s.serial := rfl
@[simp] theorem modifyLiu_published (l : Link) (f : Liu → Liu) (s : State) : (modifyLiu l f s).published = s.published := rfl
@[simp] theorem modifyLiu_holds (l : Link) (f : Liu → Liu) (s : State) : (modifyLiu l f s).holds = s.holds := rfl
@[simp] theorem modifyLiu_ring (l : Link) (f : Liu → Liu) (s : State) : (modifyLiu l f s).ring = s.ring := rfl
@[simp] theorem modifyLiu_look (l : Link) (f : Liu → Liu) (s : State) : (modifyLiu l f s).look = s.look := rfl
@[simp] theorem modifyLiu_store (l : Link) (f : Liu → Liu) (s : State) : (modifyLiu l f s).store = s.store := rfl

/-! ## settle -/

@[simp] theorem settle_now (s : State) : (settle s).now = s.now := rfl
@[simp] theorem settle_pending (s : State) : (settle s).pending = s.pending := rfl
@[simp] theorem settle_freeReads (s : State) : (settle s).freeReads = s.freeReads := rfl
@[simp] theorem settle_device (s : State) : (settle s).device = s.device := rfl
@[simp] theorem settle_hull (s : State) : (settle s).hull = s.hull := rfl
@[simp] theorem settle_working (s : State) : (settle s).working = s.working := rfl
@[simp] theorem settle_live (s : State) : (settle s).live = s.live := rfl
@[simp] theorem settle_version (s : State) : (settle s).version = s.version := rfl
@[simp] theorem settle_owner (s : State) : (settle s).owner = s.owner := rfl
@[simp] theorem settle_trial (s : State) : (settle s).trial = s.trial := rfl
@[simp] theorem settle_sets (s : State) : (settle s).sets = s.sets := rfl
@[simp] theorem settle_ready (s : State) : (settle s).ready = s.ready := rfl
@[simp] theorem settle_tracker (s : State) : (settle s).tracker = s.tracker := rfl
@[simp] theorem settle_bank (s : State) : (settle s).bank = s.bank := rfl
@[simp] theorem settle_unit (s : State) : (settle s).unit = s.unit := rfl
@[simp] theorem settle_sched (s : State) : (settle s).sched = s.sched := rfl
@[simp] theorem settle_crit (s : State) : (settle s).crit = s.crit := rfl
@[simp] theorem settle_verdict (s : State) : (settle s).verdict = s.verdict := rfl
@[simp] theorem settle_serial (s : State) : (settle s).serial = s.serial := rfl
@[simp] theorem settle_published (s : State) : (settle s).published = s.published := rfl
@[simp] theorem settle_holds (s : State) : (settle s).holds = s.holds := rfl
@[simp] theorem settle_ring (s : State) : (settle s).ring = s.ring := rfl
@[simp] theorem settle_look (s : State) : (settle s).look = s.look := rfl
@[simp] theorem settle_store (s : State) : (settle s).store = s.store := rfl

/-! ## bumpVersion -/

@[simp] theorem bumpVersion_now (s : State) : (bumpVersion s).now = s.now := rfl
@[simp] theorem bumpVersion_pending (s : State) : (bumpVersion s).pending = s.pending := rfl
@[simp] theorem bumpVersion_freeReads (s : State) : (bumpVersion s).freeReads = s.freeReads := rfl
@[simp] theorem bumpVersion_device (s : State) : (bumpVersion s).device = s.device := rfl
@[simp] theorem bumpVersion_hull (s : State) : (bumpVersion s).hull = s.hull := rfl
@[simp] theorem bumpVersion_working (s : State) : (bumpVersion s).working = s.working := rfl
@[simp] theorem bumpVersion_live (s : State) : (bumpVersion s).live = s.live := rfl
@[simp] theorem bumpVersion_owner (s : State) : (bumpVersion s).owner = s.owner := rfl
@[simp] theorem bumpVersion_trial (s : State) : (bumpVersion s).trial = s.trial := rfl
@[simp] theorem bumpVersion_sets (s : State) : (bumpVersion s).sets = s.sets := rfl
@[simp] theorem bumpVersion_ready (s : State) : (bumpVersion s).ready = s.ready := rfl
@[simp] theorem bumpVersion_tracker (s : State) : (bumpVersion s).tracker = s.tracker := rfl
@[simp] theorem bumpVersion_bank (s : State) : (bumpVersion s).bank = s.bank := rfl
@[simp] theorem bumpVersion_unit (s : State) : (bumpVersion s).unit = s.unit := rfl
@[simp] theorem bumpVersion_sched (s : State) : (bumpVersion s).sched = s.sched := rfl
@[simp] theorem bumpVersion_crit (s : State) : (bumpVersion s).crit = s.crit := rfl
@[simp] theorem bumpVersion_verdict (s : State) : (bumpVersion s).verdict = s.verdict := rfl
@[simp] theorem bumpVersion_serial (s : State) : (bumpVersion s).serial = s.serial := rfl
@[simp] theorem bumpVersion_published (s : State) : (bumpVersion s).published = s.published := rfl
@[simp] theorem bumpVersion_holds (s : State) : (bumpVersion s).holds = s.holds := rfl
@[simp] theorem bumpVersion_ring (s : State) : (bumpVersion s).ring = s.ring := rfl
@[simp] theorem bumpVersion_look (s : State) : (bumpVersion s).look = s.look := rfl
@[simp] theorem bumpVersion_store (s : State) : (bumpVersion s).store = s.store := rfl
@[simp] theorem bumpVersion_lius (s : State) : (bumpVersion s).lius = s.lius := rfl

@[simp] theorem bumpVersion_version (s : State) : (bumpVersion s).version = s.version + 1 := rfl

/-! ## setTrial -/

@[simp] theorem setTrial_now (o : Owner) (a : Area) (s : State) : (setTrial o a s).now = s.now := rfl
@[simp] theorem setTrial_pending (o : Owner) (a : Area) (s : State) : (setTrial o a s).pending = s.pending := rfl
@[simp] theorem setTrial_freeReads (o : Owner) (a : Area) (s : State) : (setTrial o a s).freeReads = s.freeReads := rfl
@[simp] theorem setTrial_device (o : Owner) (a : Area) (s : State) : (setTrial o a s).device = s.device := rfl
@[simp] theorem setTrial_hull (o : Owner) (a : Area) (s : State) : (setTrial o a s).hull = s.hull := rfl
@[simp] theorem setTrial_working (o : Owner) (a : Area) (s : State) : (setTrial o a s).working = s.working := rfl
@[simp] theorem setTrial_live (o : Owner) (a : Area) (s : State) : (setTrial o a s).live = s.live := rfl
@[simp] theorem setTrial_version (o : Owner) (a : Area) (s : State) : (setTrial o a s).version = s.version := rfl
@[simp] theorem setTrial_sets (o : Owner) (a : Area) (s : State) : (setTrial o a s).sets = s.sets := rfl
@[simp] theorem setTrial_ready (o : Owner) (a : Area) (s : State) : (setTrial o a s).ready = s.ready := rfl
@[simp] theorem setTrial_tracker (o : Owner) (a : Area) (s : State) : (setTrial o a s).tracker = s.tracker := rfl
@[simp] theorem setTrial_bank (o : Owner) (a : Area) (s : State) : (setTrial o a s).bank = s.bank := rfl
@[simp] theorem setTrial_unit (o : Owner) (a : Area) (s : State) : (setTrial o a s).unit = s.unit := rfl
@[simp] theorem setTrial_sched (o : Owner) (a : Area) (s : State) : (setTrial o a s).sched = s.sched := rfl
@[simp] theorem setTrial_crit (o : Owner) (a : Area) (s : State) : (setTrial o a s).crit = s.crit := rfl
@[simp] theorem setTrial_verdict (o : Owner) (a : Area) (s : State) : (setTrial o a s).verdict = s.verdict := rfl
@[simp] theorem setTrial_serial (o : Owner) (a : Area) (s : State) : (setTrial o a s).serial = s.serial := rfl
@[simp] theorem setTrial_published (o : Owner) (a : Area) (s : State) : (setTrial o a s).published = s.published := rfl
@[simp] theorem setTrial_holds (o : Owner) (a : Area) (s : State) : (setTrial o a s).holds = s.holds := rfl
@[simp] theorem setTrial_ring (o : Owner) (a : Area) (s : State) : (setTrial o a s).ring = s.ring := rfl
@[simp] theorem setTrial_look (o : Owner) (a : Area) (s : State) : (setTrial o a s).look = s.look := rfl
@[simp] theorem setTrial_store (o : Owner) (a : Area) (s : State) : (setTrial o a s).store = s.store := rfl
@[simp] theorem setTrial_lius (o : Owner) (a : Area) (s : State) : (setTrial o a s).lius = s.lius := rfl

@[simp] theorem setTrial_owner (o : Owner) (a : Area) (s : State) : (setTrial o a s).owner = o := rfl
@[simp] theorem setTrial_trial (o : Owner) (a : Area) (s : State) : (setTrial o a s).trial = a := rfl

/-! ## startJob -/

@[simp] theorem startJob_now (j : Job) (s : State) : (startJob j s).now = s.now := rfl
@[simp] theorem startJob_pending (j : Job) (s : State) : (startJob j s).pending = s.pending := rfl
@[simp] theorem startJob_freeReads (j : Job) (s : State) : (startJob j s).freeReads = s.freeReads := rfl
@[simp] theorem startJob_device (j : Job) (s : State) : (startJob j s).device = s.device := rfl
@[simp] theorem startJob_hull (j : Job) (s : State) : (startJob j s).hull = s.hull := rfl
@[simp] theorem startJob_working (j : Job) (s : State) : (startJob j s).working = s.working := rfl
@[simp] theorem startJob_live (j : Job) (s : State) : (startJob j s).live = s.live := rfl
@[simp] theorem startJob_version (j : Job) (s : State) : (startJob j s).version = s.version := rfl
@[simp] theorem startJob_owner (j : Job) (s : State) : (startJob j s).owner = s.owner := rfl
@[simp] theorem startJob_trial (j : Job) (s : State) : (startJob j s).trial = s.trial := rfl
@[simp] theorem startJob_sets (j : Job) (s : State) : (startJob j s).sets = s.sets := rfl
@[simp] theorem startJob_ready (j : Job) (s : State) : (startJob j s).ready = s.ready := rfl
@[simp] theorem startJob_tracker (j : Job) (s : State) : (startJob j s).tracker = s.tracker := rfl
@[simp] theorem startJob_bank (j : Job) (s : State) : (startJob j s).bank = s.bank := rfl
@[simp] theorem startJob_unit (j : Job) (s : State) : (startJob j s).unit = s.unit := rfl
@[simp] theorem startJob_sched (j : Job) (s : State) : (startJob j s).sched = s.sched := rfl
@[simp] theorem startJob_crit (j : Job) (s : State) : (startJob j s).crit = s.crit := rfl
@[simp] theorem startJob_verdict (j : Job) (s : State) : (startJob j s).verdict = s.verdict := rfl
@[simp] theorem startJob_serial (j : Job) (s : State) : (startJob j s).serial = s.serial := rfl
@[simp] theorem startJob_published (j : Job) (s : State) : (startJob j s).published = s.published := rfl
@[simp] theorem startJob_holds (j : Job) (s : State) : (startJob j s).holds = s.holds := rfl
@[simp] theorem startJob_ring (j : Job) (s : State) : (startJob j s).ring = s.ring := rfl
@[simp] theorem startJob_look (j : Job) (s : State) : (startJob j s).look = s.look := rfl
@[simp] theorem startJob_lius (j : Job) (s : State) : (startJob j s).lius = s.lius := rfl

@[simp] theorem startJob_job (j : Job) (s : State) : (startJob j s).store.job = some j := rfl

/-! ## putChannel -/

@[simp] theorem putChannel_now (ch : Nat) (c : Channel) (s : State) : (putChannel ch c s).now = s.now := rfl
@[simp] theorem putChannel_pending (ch : Nat) (c : Channel) (s : State) : (putChannel ch c s).pending = s.pending := rfl
@[simp] theorem putChannel_freeReads (ch : Nat) (c : Channel) (s : State) : (putChannel ch c s).freeReads = s.freeReads := rfl
@[simp] theorem putChannel_device (ch : Nat) (c : Channel) (s : State) : (putChannel ch c s).device = s.device := rfl
@[simp] theorem putChannel_hull (ch : Nat) (c : Channel) (s : State) : (putChannel ch c s).hull = s.hull := rfl
@[simp] theorem putChannel_working (ch : Nat) (c : Channel) (s : State) : (putChannel ch c s).working = s.working := rfl
@[simp] theorem putChannel_live (ch : Nat) (c : Channel) (s : State) : (putChannel ch c s).live = s.live := rfl
@[simp] theorem putChannel_version (ch : Nat) (c : Channel) (s : State) : (putChannel ch c s).version = s.version := rfl
@[simp] theorem putChannel_owner (ch : Nat) (c : Channel) (s : State) : (putChannel ch c s).owner = s.owner := rfl
@[simp] theorem putChannel_trial (ch : Nat) (c : Channel) (s : State) : (putChannel ch c s).trial = s.trial := rfl
@[simp] theorem putChannel_sets (ch : Nat) (c : Channel) (s : State) : (putChannel ch c s).sets = s.sets := rfl
@[simp] theorem putChannel_ready (ch : Nat) (c : Channel) (s : State) : (putChannel ch c s).ready = s.ready := rfl
@[simp] theorem putChannel_tracker (ch : Nat) (c : Channel) (s : State) : (putChannel ch c s).tracker = s.tracker := rfl
@[simp] theorem putChannel_unit (ch : Nat) (c : Channel) (s : State) : (putChannel ch c s).unit = s.unit := rfl
@[simp] theorem putChannel_sched (ch : Nat) (c : Channel) (s : State) : (putChannel ch c s).sched = s.sched := rfl
@[simp] theorem putChannel_crit (ch : Nat) (c : Channel) (s : State) : (putChannel ch c s).crit = s.crit := rfl
@[simp] theorem putChannel_verdict (ch : Nat) (c : Channel) (s : State) : (putChannel ch c s).verdict = s.verdict := rfl
@[simp] theorem putChannel_serial (ch : Nat) (c : Channel) (s : State) : (putChannel ch c s).serial = s.serial := rfl
@[simp] theorem putChannel_published (ch : Nat) (c : Channel) (s : State) : (putChannel ch c s).published = s.published := rfl
@[simp] theorem putChannel_holds (ch : Nat) (c : Channel) (s : State) : (putChannel ch c s).holds = s.holds := rfl
@[simp] theorem putChannel_ring (ch : Nat) (c : Channel) (s : State) : (putChannel ch c s).ring = s.ring := rfl
@[simp] theorem putChannel_look (ch : Nat) (c : Channel) (s : State) : (putChannel ch c s).look = s.look := rfl
@[simp] theorem putChannel_store (ch : Nat) (c : Channel) (s : State) : (putChannel ch c s).store = s.store := rfl
@[simp] theorem putChannel_lius (ch : Nat) (c : Channel) (s : State) : (putChannel ch c s).lius = s.lius := rfl

/-! ## handed -/

@[simp] theorem handed_pending (t : Nat) (l : Link) (s : State) : (handed t l s).pending = s.pending := rfl
@[simp] theorem handed_freeReads (t : Nat) (l : Link) (s : State) : (handed t l s).freeReads = s.freeReads := rfl
@[simp] theorem handed_device (t : Nat) (l : Link) (s : State) : (handed t l s).device = s.device := rfl
@[simp] theorem handed_hull (t : Nat) (l : Link) (s : State) : (handed t l s).hull = s.hull := rfl
@[simp] theorem handed_working (t : Nat) (l : Link) (s : State) : (handed t l s).working = s.working := rfl
@[simp] theorem handed_live (t : Nat) (l : Link) (s : State) : (handed t l s).live = s.live := rfl
@[simp] theorem handed_version (t : Nat) (l : Link) (s : State) : (handed t l s).version = s.version := rfl
@[simp] theorem handed_owner (t : Nat) (l : Link) (s : State) : (handed t l s).owner = s.owner := rfl
@[simp] theorem handed_trial (t : Nat) (l : Link) (s : State) : (handed t l s).trial = s.trial := rfl
@[simp] theorem handed_sets (t : Nat) (l : Link) (s : State) : (handed t l s).sets = s.sets := rfl
@[simp] theorem handed_ready (t : Nat) (l : Link) (s : State) : (handed t l s).ready = s.ready := rfl
@[simp] theorem handed_tracker (t : Nat) (l : Link) (s : State) : (handed t l s).tracker = s.tracker := rfl
@[simp] theorem handed_bank (t : Nat) (l : Link) (s : State) : (handed t l s).bank = s.bank := rfl
@[simp] theorem handed_unit (t : Nat) (l : Link) (s : State) : (handed t l s).unit = s.unit := rfl
@[simp] theorem handed_sched (t : Nat) (l : Link) (s : State) : (handed t l s).sched = s.sched := rfl
@[simp] theorem handed_crit (t : Nat) (l : Link) (s : State) : (handed t l s).crit = s.crit := rfl
@[simp] theorem handed_verdict (t : Nat) (l : Link) (s : State) : (handed t l s).verdict = s.verdict := rfl
@[simp] theorem handed_serial (t : Nat) (l : Link) (s : State) : (handed t l s).serial = s.serial := rfl
@[simp] theorem handed_published (t : Nat) (l : Link) (s : State) : (handed t l s).published = s.published := rfl
@[simp] theorem handed_holds (t : Nat) (l : Link) (s : State) : (handed t l s).holds = s.holds := rfl
@[simp] theorem handed_ring (t : Nat) (l : Link) (s : State) : (handed t l s).ring = s.ring := rfl
@[simp] theorem handed_look (t : Nat) (l : Link) (s : State) : (handed t l s).look = s.look := rfl
@[simp] theorem handed_store (t : Nat) (l : Link) (s : State) : (handed t l s).store = s.store := rfl

@[simp] theorem handed_now (t : Nat) (l : Link) (s : State) : (handed t l s).now = max s.now t := rfl

/-! ## raiseNotice -/

theorem raiseNotice_only (forced : Link → Bool) (n : Notice) (s : State) :
    raiseNotice forced n s = { s with lius := (raiseNotice forced n s).lius } := by
  unfold raiseNotice
  dsimp only
  split_ifs <;> rfl

@[simp] theorem raiseNotice_now (forced : Link → Bool) (n : Notice) (s : State) : (raiseNotice forced n s).now = s.now := by rw [raiseNotice_only]
@[simp] theorem raiseNotice_pending (forced : Link → Bool) (n : Notice) (s : State) : (raiseNotice forced n s).pending = s.pending := by rw [raiseNotice_only]
@[simp] theorem raiseNotice_freeReads (forced : Link → Bool) (n : Notice) (s : State) : (raiseNotice forced n s).freeReads = s.freeReads := by rw [raiseNotice_only]
@[simp] theorem raiseNotice_device (forced : Link → Bool) (n : Notice) (s : State) : (raiseNotice forced n s).device = s.device := by rw [raiseNotice_only]
@[simp] theorem raiseNotice_hull (forced : Link → Bool) (n : Notice) (s : State) : (raiseNotice forced n s).hull = s.hull := by rw [raiseNotice_only]
@[simp] theorem raiseNotice_working (forced : Link → Bool) (n : Notice) (s : State) : (raiseNotice forced n s).working = s.working := by rw [raiseNotice_only]
@[simp] theorem raiseNotice_live (forced : Link → Bool) (n : Notice) (s : State) : (raiseNotice forced n s).live = s.live := by rw [raiseNotice_only]
@[simp] theorem raiseNotice_version (forced : Link → Bool) (n : Notice) (s : State) : (raiseNotice forced n s).version = s.version := by rw [raiseNotice_only]
@[simp] theorem raiseNotice_owner (forced : Link → Bool) (n : Notice) (s : State) : (raiseNotice forced n s).owner = s.owner := by rw [raiseNotice_only]
@[simp] theorem raiseNotice_trial (forced : Link → Bool) (n : Notice) (s : State) : (raiseNotice forced n s).trial = s.trial := by rw [raiseNotice_only]
@[simp] theorem raiseNotice_sets (forced : Link → Bool) (n : Notice) (s : State) : (raiseNotice forced n s).sets = s.sets := by rw [raiseNotice_only]
@[simp] theorem raiseNotice_ready (forced : Link → Bool) (n : Notice) (s : State) : (raiseNotice forced n s).ready = s.ready := by rw [raiseNotice_only]
@[simp] theorem raiseNotice_tracker (forced : Link → Bool) (n : Notice) (s : State) : (raiseNotice forced n s).tracker = s.tracker := by rw [raiseNotice_only]
@[simp] theorem raiseNotice_bank (forced : Link → Bool) (n : Notice) (s : State) : (raiseNotice forced n s).bank = s.bank := by rw [raiseNotice_only]
@[simp] theorem raiseNotice_unit (forced : Link → Bool) (n : Notice) (s : State) : (raiseNotice forced n s).unit = s.unit := by rw [raiseNotice_only]
@[simp] theorem raiseNotice_sched (forced : Link → Bool) (n : Notice) (s : State) : (raiseNotice forced n s).sched = s.sched := by rw [raiseNotice_only]
@[simp] theorem raiseNotice_crit (forced : Link → Bool) (n : Notice) (s : State) : (raiseNotice forced n s).crit = s.crit := by rw [raiseNotice_only]
@[simp] theorem raiseNotice_verdict (forced : Link → Bool) (n : Notice) (s : State) : (raiseNotice forced n s).verdict = s.verdict := by rw [raiseNotice_only]
@[simp] theorem raiseNotice_serial (forced : Link → Bool) (n : Notice) (s : State) : (raiseNotice forced n s).serial = s.serial := by rw [raiseNotice_only]
@[simp] theorem raiseNotice_published (forced : Link → Bool) (n : Notice) (s : State) : (raiseNotice forced n s).published = s.published := by rw [raiseNotice_only]
@[simp] theorem raiseNotice_holds (forced : Link → Bool) (n : Notice) (s : State) : (raiseNotice forced n s).holds = s.holds := by rw [raiseNotice_only]
@[simp] theorem raiseNotice_ring (forced : Link → Bool) (n : Notice) (s : State) : (raiseNotice forced n s).ring = s.ring := by rw [raiseNotice_only]
@[simp] theorem raiseNotice_look (forced : Link → Bool) (n : Notice) (s : State) : (raiseNotice forced n s).look = s.look := by rw [raiseNotice_only]
@[simp] theorem raiseNotice_store (forced : Link → Bool) (n : Notice) (s : State) : (raiseNotice forced n s).store = s.store := by rw [raiseNotice_only]

/-! ## raiseLive -/

theorem raiseLive_only (c : Cause) (s : State) :
    raiseLive c s = { s with sched := (raiseLive c s).sched } := by
  unfold raiseLive
  split <;> rfl

@[simp] theorem raiseLive_now (c : Cause) (s : State) : (raiseLive c s).now = s.now := by rw [raiseLive_only]
@[simp] theorem raiseLive_pending (c : Cause) (s : State) : (raiseLive c s).pending = s.pending := by rw [raiseLive_only]
@[simp] theorem raiseLive_freeReads (c : Cause) (s : State) : (raiseLive c s).freeReads = s.freeReads := by rw [raiseLive_only]
@[simp] theorem raiseLive_device (c : Cause) (s : State) : (raiseLive c s).device = s.device := by rw [raiseLive_only]
@[simp] theorem raiseLive_hull (c : Cause) (s : State) : (raiseLive c s).hull = s.hull := by rw [raiseLive_only]
@[simp] theorem raiseLive_working (c : Cause) (s : State) : (raiseLive c s).working = s.working := by rw [raiseLive_only]
@[simp] theorem raiseLive_live (c : Cause) (s : State) : (raiseLive c s).live = s.live := by rw [raiseLive_only]
@[simp] theorem raiseLive_version (c : Cause) (s : State) : (raiseLive c s).version = s.version := by rw [raiseLive_only]
@[simp] theorem raiseLive_owner (c : Cause) (s : State) : (raiseLive c s).owner = s.owner := by rw [raiseLive_only]
@[simp] theorem raiseLive_trial (c : Cause) (s : State) : (raiseLive c s).trial = s.trial := by rw [raiseLive_only]
@[simp] theorem raiseLive_sets (c : Cause) (s : State) : (raiseLive c s).sets = s.sets := by rw [raiseLive_only]
@[simp] theorem raiseLive_ready (c : Cause) (s : State) : (raiseLive c s).ready = s.ready := by rw [raiseLive_only]
@[simp] theorem raiseLive_tracker (c : Cause) (s : State) : (raiseLive c s).tracker = s.tracker := by rw [raiseLive_only]
@[simp] theorem raiseLive_bank (c : Cause) (s : State) : (raiseLive c s).bank = s.bank := by rw [raiseLive_only]
@[simp] theorem raiseLive_unit (c : Cause) (s : State) : (raiseLive c s).unit = s.unit := by rw [raiseLive_only]
@[simp] theorem raiseLive_crit (c : Cause) (s : State) : (raiseLive c s).crit = s.crit := by rw [raiseLive_only]
@[simp] theorem raiseLive_verdict (c : Cause) (s : State) : (raiseLive c s).verdict = s.verdict := by rw [raiseLive_only]
@[simp] theorem raiseLive_serial (c : Cause) (s : State) : (raiseLive c s).serial = s.serial := by rw [raiseLive_only]
@[simp] theorem raiseLive_published (c : Cause) (s : State) : (raiseLive c s).published = s.published := by rw [raiseLive_only]
@[simp] theorem raiseLive_holds (c : Cause) (s : State) : (raiseLive c s).holds = s.holds := by rw [raiseLive_only]
@[simp] theorem raiseLive_ring (c : Cause) (s : State) : (raiseLive c s).ring = s.ring := by rw [raiseLive_only]
@[simp] theorem raiseLive_look (c : Cause) (s : State) : (raiseLive c s).look = s.look := by rw [raiseLive_only]
@[simp] theorem raiseLive_store (c : Cause) (s : State) : (raiseLive c s).store = s.store := by rw [raiseLive_only]
@[simp] theorem raiseLive_lius (c : Cause) (s : State) : (raiseLive c s).lius = s.lius := by rw [raiseLive_only]

/-! ## respond -/

theorem respond_only (l : Link) (kind tag : Nat) (r : Reply) (s : State) :
    respond l kind tag r s = { s with lius := (respond l kind tag r s).lius } := by
  cases r <;> rfl

@[simp] theorem respond_now (l : Link) (kind tag : Nat) (r : Reply) (s : State) : (respond l kind tag r s).now = s.now := by rw [respond_only]
@[simp] theorem respond_pending (l : Link) (kind tag : Nat) (r : Reply) (s : State) : (respond l kind tag r s).pending = s.pending := by rw [respond_only]
@[simp] theorem respond_freeReads (l : Link) (kind tag : Nat) (r : Reply) (s : State) : (respond l kind tag r s).freeReads = s.freeReads := by rw [respond_only]
@[simp] theorem respond_device (l : Link) (kind tag : Nat) (r : Reply) (s : State) : (respond l kind tag r s).device = s.device := by rw [respond_only]
@[simp] theorem respond_hull (l : Link) (kind tag : Nat) (r : Reply) (s : State) : (respond l kind tag r s).hull = s.hull := by rw [respond_only]
@[simp] theorem respond_working (l : Link) (kind tag : Nat) (r : Reply) (s : State) : (respond l kind tag r s).working = s.working := by rw [respond_only]
@[simp] theorem respond_live (l : Link) (kind tag : Nat) (r : Reply) (s : State) : (respond l kind tag r s).live = s.live := by rw [respond_only]
@[simp] theorem respond_version (l : Link) (kind tag : Nat) (r : Reply) (s : State) : (respond l kind tag r s).version = s.version := by rw [respond_only]
@[simp] theorem respond_owner (l : Link) (kind tag : Nat) (r : Reply) (s : State) : (respond l kind tag r s).owner = s.owner := by rw [respond_only]
@[simp] theorem respond_trial (l : Link) (kind tag : Nat) (r : Reply) (s : State) : (respond l kind tag r s).trial = s.trial := by rw [respond_only]
@[simp] theorem respond_sets (l : Link) (kind tag : Nat) (r : Reply) (s : State) : (respond l kind tag r s).sets = s.sets := by rw [respond_only]
@[simp] theorem respond_ready (l : Link) (kind tag : Nat) (r : Reply) (s : State) : (respond l kind tag r s).ready = s.ready := by rw [respond_only]
@[simp] theorem respond_tracker (l : Link) (kind tag : Nat) (r : Reply) (s : State) : (respond l kind tag r s).tracker = s.tracker := by rw [respond_only]
@[simp] theorem respond_bank (l : Link) (kind tag : Nat) (r : Reply) (s : State) : (respond l kind tag r s).bank = s.bank := by rw [respond_only]
@[simp] theorem respond_unit (l : Link) (kind tag : Nat) (r : Reply) (s : State) : (respond l kind tag r s).unit = s.unit := by rw [respond_only]
@[simp] theorem respond_sched (l : Link) (kind tag : Nat) (r : Reply) (s : State) : (respond l kind tag r s).sched = s.sched := by rw [respond_only]
@[simp] theorem respond_crit (l : Link) (kind tag : Nat) (r : Reply) (s : State) : (respond l kind tag r s).crit = s.crit := by rw [respond_only]
@[simp] theorem respond_verdict (l : Link) (kind tag : Nat) (r : Reply) (s : State) : (respond l kind tag r s).verdict = s.verdict := by rw [respond_only]
@[simp] theorem respond_serial (l : Link) (kind tag : Nat) (r : Reply) (s : State) : (respond l kind tag r s).serial = s.serial := by rw [respond_only]
@[simp] theorem respond_published (l : Link) (kind tag : Nat) (r : Reply) (s : State) : (respond l kind tag r s).published = s.published := by rw [respond_only]
@[simp] theorem respond_holds (l : Link) (kind tag : Nat) (r : Reply) (s : State) : (respond l kind tag r s).holds = s.holds := by rw [respond_only]
@[simp] theorem respond_ring (l : Link) (kind tag : Nat) (r : Reply) (s : State) : (respond l kind tag r s).ring = s.ring := by rw [respond_only]
@[simp] theorem respond_look (l : Link) (kind tag : Nat) (r : Reply) (s : State) : (respond l kind tag r s).look = s.look := by rw [respond_only]
@[simp] theorem respond_store (l : Link) (kind tag : Nat) (r : Reply) (s : State) : (respond l kind tag r s).store = s.store := by rw [respond_only]

/-! ## answerOwed -/

@[simp] theorem answerOwed_now (e : Bool) (c : Code) (b : List Byte) (r : Bool) (s : State) : (answerOwed e c b r s).now = s.now := rfl
@[simp] theorem answerOwed_pending (e : Bool) (c : Code) (b : List Byte) (r : Bool) (s : State) : (answerOwed e c b r s).pending = s.pending := rfl
@[simp] theorem answerOwed_freeReads (e : Bool) (c : Code) (b : List Byte) (r : Bool) (s : State) : (answerOwed e c b r s).freeReads = s.freeReads := rfl
@[simp] theorem answerOwed_device (e : Bool) (c : Code) (b : List Byte) (r : Bool) (s : State) : (answerOwed e c b r s).device = s.device := rfl
@[simp] theorem answerOwed_hull (e : Bool) (c : Code) (b : List Byte) (r : Bool) (s : State) : (answerOwed e c b r s).hull = s.hull := rfl
@[simp] theorem answerOwed_working (e : Bool) (c : Code) (b : List Byte) (r : Bool) (s : State) : (answerOwed e c b r s).working = s.working := rfl
@[simp] theorem answerOwed_live (e : Bool) (c : Code) (b : List Byte) (r : Bool) (s : State) : (answerOwed e c b r s).live = s.live := rfl
@[simp] theorem answerOwed_version (e : Bool) (c : Code) (b : List Byte) (r : Bool) (s : State) : (answerOwed e c b r s).version = s.version := rfl
@[simp] theorem answerOwed_owner (e : Bool) (c : Code) (b : List Byte) (r : Bool) (s : State) : (answerOwed e c b r s).owner = s.owner := rfl
@[simp] theorem answerOwed_trial (e : Bool) (c : Code) (b : List Byte) (r : Bool) (s : State) : (answerOwed e c b r s).trial = s.trial := rfl
@[simp] theorem answerOwed_sets (e : Bool) (c : Code) (b : List Byte) (r : Bool) (s : State) : (answerOwed e c b r s).sets = s.sets := rfl
@[simp] theorem answerOwed_ready (e : Bool) (c : Code) (b : List Byte) (r : Bool) (s : State) : (answerOwed e c b r s).ready = s.ready := rfl
@[simp] theorem answerOwed_tracker (e : Bool) (c : Code) (b : List Byte) (r : Bool) (s : State) : (answerOwed e c b r s).tracker = s.tracker := rfl
@[simp] theorem answerOwed_bank (e : Bool) (c : Code) (b : List Byte) (r : Bool) (s : State) : (answerOwed e c b r s).bank = s.bank := rfl
@[simp] theorem answerOwed_unit (e : Bool) (c : Code) (b : List Byte) (r : Bool) (s : State) : (answerOwed e c b r s).unit = s.unit := rfl
@[simp] theorem answerOwed_sched (e : Bool) (c : Code) (b : List Byte) (r : Bool) (s : State) : (answerOwed e c b r s).sched = s.sched := rfl
@[simp] theorem answerOwed_crit (e : Bool) (c : Code) (b : List Byte) (r : Bool) (s : State) : (answerOwed e c b r s).crit = s.crit := rfl
@[simp] theorem answerOwed_verdict (e : Bool) (c : Code) (b : List Byte) (r : Bool) (s : State) : (answerOwed e c b r s).verdict = s.verdict := rfl
@[simp] theorem answerOwed_serial (e : Bool) (c : Code) (b : List Byte) (r : Bool) (s : State) : (answerOwed e c b r s).serial = s.serial := rfl
@[simp] theorem answerOwed_published (e : Bool) (c : Code) (b : List Byte) (r : Bool) (s : State) : (answerOwed e c b r s).published = s.published := rfl
@[simp] theorem answerOwed_holds (e : Bool) (c : Code) (b : List Byte) (r : Bool) (s : State) : (answerOwed e c b r s).holds = s.holds := rfl
@[simp] theorem answerOwed_ring (e : Bool) (c : Code) (b : List Byte) (r : Bool) (s : State) : (answerOwed e c b r s).ring = s.ring := rfl
@[simp] theorem answerOwed_look (e : Bool) (c : Code) (b : List Byte) (r : Bool) (s : State) : (answerOwed e c b r s).look = s.look := rfl
@[simp] theorem answerOwed_store (e : Bool) (c : Code) (b : List Byte) (r : Bool) (s : State) : (answerOwed e c b r s).store = s.store := rfl

/-! ## archiveNotice -/

theorem archiveNotice_only (j : JobKind) (tg : Option Target) (c : Code) (k : Option (Option Quantity)) (s : State) :
    archiveNotice j tg c k s = { s with lius := (archiveNotice j tg c k s).lius } := by
  unfold archiveNotice
  exact raiseNotice_only _ _ _

@[simp] theorem archiveNotice_now (j : JobKind) (tg : Option Target) (c : Code) (k : Option (Option Quantity)) (s : State) : (archiveNotice j tg c k s).now = s.now := by rw [archiveNotice_only]
@[simp] theorem archiveNotice_pending (j : JobKind) (tg : Option Target) (c : Code) (k : Option (Option Quantity)) (s : State) : (archiveNotice j tg c k s).pending = s.pending := by rw [archiveNotice_only]
@[simp] theorem archiveNotice_freeReads (j : JobKind) (tg : Option Target) (c : Code) (k : Option (Option Quantity)) (s : State) : (archiveNotice j tg c k s).freeReads = s.freeReads := by rw [archiveNotice_only]
@[simp] theorem archiveNotice_device (j : JobKind) (tg : Option Target) (c : Code) (k : Option (Option Quantity)) (s : State) : (archiveNotice j tg c k s).device = s.device := by rw [archiveNotice_only]
@[simp] theorem archiveNotice_hull (j : JobKind) (tg : Option Target) (c : Code) (k : Option (Option Quantity)) (s : State) : (archiveNotice j tg c k s).hull = s.hull := by rw [archiveNotice_only]
@[simp] theorem archiveNotice_working (j : JobKind) (tg : Option Target) (c : Code) (k : Option (Option Quantity)) (s : State) : (archiveNotice j tg c k s).working = s.working := by rw [archiveNotice_only]
@[simp] theorem archiveNotice_live (j : JobKind) (tg : Option Target) (c : Code) (k : Option (Option Quantity)) (s : State) : (archiveNotice j tg c k s).live = s.live := by rw [archiveNotice_only]
@[simp] theorem archiveNotice_version (j : JobKind) (tg : Option Target) (c : Code) (k : Option (Option Quantity)) (s : State) : (archiveNotice j tg c k s).version = s.version := by rw [archiveNotice_only]
@[simp] theorem archiveNotice_owner (j : JobKind) (tg : Option Target) (c : Code) (k : Option (Option Quantity)) (s : State) : (archiveNotice j tg c k s).owner = s.owner := by rw [archiveNotice_only]
@[simp] theorem archiveNotice_trial (j : JobKind) (tg : Option Target) (c : Code) (k : Option (Option Quantity)) (s : State) : (archiveNotice j tg c k s).trial = s.trial := by rw [archiveNotice_only]
@[simp] theorem archiveNotice_sets (j : JobKind) (tg : Option Target) (c : Code) (k : Option (Option Quantity)) (s : State) : (archiveNotice j tg c k s).sets = s.sets := by rw [archiveNotice_only]
@[simp] theorem archiveNotice_ready (j : JobKind) (tg : Option Target) (c : Code) (k : Option (Option Quantity)) (s : State) : (archiveNotice j tg c k s).ready = s.ready := by rw [archiveNotice_only]
@[simp] theorem archiveNotice_tracker (j : JobKind) (tg : Option Target) (c : Code) (k : Option (Option Quantity)) (s : State) : (archiveNotice j tg c k s).tracker = s.tracker := by rw [archiveNotice_only]
@[simp] theorem archiveNotice_bank (j : JobKind) (tg : Option Target) (c : Code) (k : Option (Option Quantity)) (s : State) : (archiveNotice j tg c k s).bank = s.bank := by rw [archiveNotice_only]
@[simp] theorem archiveNotice_unit (j : JobKind) (tg : Option Target) (c : Code) (k : Option (Option Quantity)) (s : State) : (archiveNotice j tg c k s).unit = s.unit := by rw [archiveNotice_only]
@[simp] theorem archiveNotice_sched (j : JobKind) (tg : Option Target) (c : Code) (k : Option (Option Quantity)) (s : State) : (archiveNotice j tg c k s).sched = s.sched := by rw [archiveNotice_only]
@[simp] theorem archiveNotice_crit (j : JobKind) (tg : Option Target) (c : Code) (k : Option (Option Quantity)) (s : State) : (archiveNotice j tg c k s).crit = s.crit := by rw [archiveNotice_only]
@[simp] theorem archiveNotice_verdict (j : JobKind) (tg : Option Target) (c : Code) (k : Option (Option Quantity)) (s : State) : (archiveNotice j tg c k s).verdict = s.verdict := by rw [archiveNotice_only]
@[simp] theorem archiveNotice_serial (j : JobKind) (tg : Option Target) (c : Code) (k : Option (Option Quantity)) (s : State) : (archiveNotice j tg c k s).serial = s.serial := by rw [archiveNotice_only]
@[simp] theorem archiveNotice_published (j : JobKind) (tg : Option Target) (c : Code) (k : Option (Option Quantity)) (s : State) : (archiveNotice j tg c k s).published = s.published := by rw [archiveNotice_only]
@[simp] theorem archiveNotice_holds (j : JobKind) (tg : Option Target) (c : Code) (k : Option (Option Quantity)) (s : State) : (archiveNotice j tg c k s).holds = s.holds := by rw [archiveNotice_only]
@[simp] theorem archiveNotice_ring (j : JobKind) (tg : Option Target) (c : Code) (k : Option (Option Quantity)) (s : State) : (archiveNotice j tg c k s).ring = s.ring := by rw [archiveNotice_only]
@[simp] theorem archiveNotice_look (j : JobKind) (tg : Option Target) (c : Code) (k : Option (Option Quantity)) (s : State) : (archiveNotice j tg c k s).look = s.look := by rw [archiveNotice_only]
@[simp] theorem archiveNotice_store (j : JobKind) (tg : Option Target) (c : Code) (k : Option (Option Quantity)) (s : State) : (archiveNotice j tg c k s).store = s.store := by rw [archiveNotice_only]

/-! ## endJobWith -/

theorem endJobWith_only (r : Bool) (j : JobKind) (tg : Option Target) (c : Code) (k : Option (Option Quantity)) (b : List Byte)
    (s : State) :
    endJobWith r j tg c k b s = { s with store := (endJobWith r j tg c k b s).store, lius := (endJobWith r j tg c k b s).lius } := by
  unfold endJobWith
  dsimp only
  rw [archiveNotice_only]
  rfl

@[simp] theorem endJobWith_now (r : Bool) (j : JobKind) (tg : Option Target) (c : Code) (k : Option (Option Quantity)) (b : List Byte)
    (s : State) : (endJobWith r j tg c k b s).now = s.now := by rw [endJobWith_only]
@[simp] theorem endJobWith_pending (r : Bool) (j : JobKind) (tg : Option Target) (c : Code) (k : Option (Option Quantity)) (b : List Byte)
    (s : State) : (endJobWith r j tg c k b s).pending = s.pending := by rw [endJobWith_only]
@[simp] theorem endJobWith_freeReads (r : Bool) (j : JobKind) (tg : Option Target) (c : Code) (k : Option (Option Quantity)) (b : List Byte)
    (s : State) : (endJobWith r j tg c k b s).freeReads = s.freeReads := by rw [endJobWith_only]
@[simp] theorem endJobWith_device (r : Bool) (j : JobKind) (tg : Option Target) (c : Code) (k : Option (Option Quantity)) (b : List Byte)
    (s : State) : (endJobWith r j tg c k b s).device = s.device := by rw [endJobWith_only]
@[simp] theorem endJobWith_hull (r : Bool) (j : JobKind) (tg : Option Target) (c : Code) (k : Option (Option Quantity)) (b : List Byte)
    (s : State) : (endJobWith r j tg c k b s).hull = s.hull := by rw [endJobWith_only]
@[simp] theorem endJobWith_working (r : Bool) (j : JobKind) (tg : Option Target) (c : Code) (k : Option (Option Quantity)) (b : List Byte)
    (s : State) : (endJobWith r j tg c k b s).working = s.working := by rw [endJobWith_only]
@[simp] theorem endJobWith_live (r : Bool) (j : JobKind) (tg : Option Target) (c : Code) (k : Option (Option Quantity)) (b : List Byte)
    (s : State) : (endJobWith r j tg c k b s).live = s.live := by rw [endJobWith_only]
@[simp] theorem endJobWith_version (r : Bool) (j : JobKind) (tg : Option Target) (c : Code) (k : Option (Option Quantity)) (b : List Byte)
    (s : State) : (endJobWith r j tg c k b s).version = s.version := by rw [endJobWith_only]
@[simp] theorem endJobWith_owner (r : Bool) (j : JobKind) (tg : Option Target) (c : Code) (k : Option (Option Quantity)) (b : List Byte)
    (s : State) : (endJobWith r j tg c k b s).owner = s.owner := by rw [endJobWith_only]
@[simp] theorem endJobWith_trial (r : Bool) (j : JobKind) (tg : Option Target) (c : Code) (k : Option (Option Quantity)) (b : List Byte)
    (s : State) : (endJobWith r j tg c k b s).trial = s.trial := by rw [endJobWith_only]
@[simp] theorem endJobWith_sets (r : Bool) (j : JobKind) (tg : Option Target) (c : Code) (k : Option (Option Quantity)) (b : List Byte)
    (s : State) : (endJobWith r j tg c k b s).sets = s.sets := by rw [endJobWith_only]
@[simp] theorem endJobWith_ready (r : Bool) (j : JobKind) (tg : Option Target) (c : Code) (k : Option (Option Quantity)) (b : List Byte)
    (s : State) : (endJobWith r j tg c k b s).ready = s.ready := by rw [endJobWith_only]
@[simp] theorem endJobWith_tracker (r : Bool) (j : JobKind) (tg : Option Target) (c : Code) (k : Option (Option Quantity)) (b : List Byte)
    (s : State) : (endJobWith r j tg c k b s).tracker = s.tracker := by rw [endJobWith_only]
@[simp] theorem endJobWith_bank (r : Bool) (j : JobKind) (tg : Option Target) (c : Code) (k : Option (Option Quantity)) (b : List Byte)
    (s : State) : (endJobWith r j tg c k b s).bank = s.bank := by rw [endJobWith_only]
@[simp] theorem endJobWith_unit (r : Bool) (j : JobKind) (tg : Option Target) (c : Code) (k : Option (Option Quantity)) (b : List Byte)
    (s : State) : (endJobWith r j tg c k b s).unit = s.unit := by rw [endJobWith_only]
@[simp] theorem endJobWith_sched (r : Bool) (j : JobKind) (tg : Option Target) (c : Code) (k : Option (Option Quantity)) (b : List Byte)
    (s : State) : (endJobWith r j tg c k b s).sched = s.sched := by rw [endJobWith_only]
@[simp] theorem endJobWith_crit (r : Bool) (j : JobKind) (tg : Option Target) (c : Code) (k : Option (Option Quantity)) (b : List Byte)
    (s : State) : (endJobWith r j tg c k b s).crit = s.crit := by rw [endJobWith_only]
@[simp] theorem endJobWith_verdict (r : Bool) (j : JobKind) (tg : Option Target) (c : Code) (k : Option (Option Quantity)) (b : List Byte)
    (s : State) : (endJobWith r j tg c k b s).verdict = s.verdict := by rw [endJobWith_only]
@[simp] theorem endJobWith_serial (r : Bool) (j : JobKind) (tg : Option Target) (c : Code) (k : Option (Option Quantity)) (b : List Byte)
    (s : State) : (endJobWith r j tg c k b s).serial = s.serial := by rw [endJobWith_only]
@[simp] theorem endJobWith_published (r : Bool) (j : JobKind) (tg : Option Target) (c : Code) (k : Option (Option Quantity)) (b : List Byte)
    (s : State) : (endJobWith r j tg c k b s).published = s.published := by rw [endJobWith_only]
@[simp] theorem endJobWith_holds (r : Bool) (j : JobKind) (tg : Option Target) (c : Code) (k : Option (Option Quantity)) (b : List Byte)
    (s : State) : (endJobWith r j tg c k b s).holds = s.holds := by rw [endJobWith_only]
@[simp] theorem endJobWith_ring (r : Bool) (j : JobKind) (tg : Option Target) (c : Code) (k : Option (Option Quantity)) (b : List Byte)
    (s : State) : (endJobWith r j tg c k b s).ring = s.ring := by rw [endJobWith_only]
@[simp] theorem endJobWith_look (r : Bool) (j : JobKind) (tg : Option Target) (c : Code) (k : Option (Option Quantity)) (b : List Byte)
    (s : State) : (endJobWith r j tg c k b s).look = s.look := by rw [endJobWith_only]

/-! ## cancelAdopt -/

theorem cancelAdopt_only (s : State) :
    cancelAdopt s = { s with store := (cancelAdopt s).store, lius := (cancelAdopt s).lius } := by
  unfold cancelAdopt
  split
  · rw [archiveNotice_only]
  · rfl

@[simp] theorem cancelAdopt_now (s : State) : (cancelAdopt s).now = s.now := by rw [cancelAdopt_only]
@[simp] theorem cancelAdopt_pending (s : State) : (cancelAdopt s).pending = s.pending := by rw [cancelAdopt_only]
@[simp] theorem cancelAdopt_freeReads (s : State) : (cancelAdopt s).freeReads = s.freeReads := by rw [cancelAdopt_only]
@[simp] theorem cancelAdopt_device (s : State) : (cancelAdopt s).device = s.device := by rw [cancelAdopt_only]
@[simp] theorem cancelAdopt_hull (s : State) : (cancelAdopt s).hull = s.hull := by rw [cancelAdopt_only]
@[simp] theorem cancelAdopt_working (s : State) : (cancelAdopt s).working = s.working := by rw [cancelAdopt_only]
@[simp] theorem cancelAdopt_live (s : State) : (cancelAdopt s).live = s.live := by rw [cancelAdopt_only]
@[simp] theorem cancelAdopt_version (s : State) : (cancelAdopt s).version = s.version := by rw [cancelAdopt_only]
@[simp] theorem cancelAdopt_owner (s : State) : (cancelAdopt s).owner = s.owner := by rw [cancelAdopt_only]
@[simp] theorem cancelAdopt_trial (s : State) : (cancelAdopt s).trial = s.trial := by rw [cancelAdopt_only]
@[simp] theorem cancelAdopt_sets (s : State) : (cancelAdopt s).sets = s.sets := by rw [cancelAdopt_only]
@[simp] theorem cancelAdopt_ready (s : State) : (cancelAdopt s).ready = s.ready := by rw [cancelAdopt_only]
@[simp] theorem cancelAdopt_tracker (s : State) : (cancelAdopt s).tracker = s.tracker := by rw [cancelAdopt_only]
@[simp] theorem cancelAdopt_bank (s : State) : (cancelAdopt s).bank = s.bank := by rw [cancelAdopt_only]
@[simp] theorem cancelAdopt_unit (s : State) : (cancelAdopt s).unit = s.unit := by rw [cancelAdopt_only]
@[simp] theorem cancelAdopt_sched (s : State) : (cancelAdopt s).sched = s.sched := by rw [cancelAdopt_only]
@[simp] theorem cancelAdopt_crit (s : State) : (cancelAdopt s).crit = s.crit := by rw [cancelAdopt_only]
@[simp] theorem cancelAdopt_verdict (s : State) : (cancelAdopt s).verdict = s.verdict := by rw [cancelAdopt_only]
@[simp] theorem cancelAdopt_serial (s : State) : (cancelAdopt s).serial = s.serial := by rw [cancelAdopt_only]
@[simp] theorem cancelAdopt_published (s : State) : (cancelAdopt s).published = s.published := by rw [cancelAdopt_only]
@[simp] theorem cancelAdopt_holds (s : State) : (cancelAdopt s).holds = s.holds := by rw [cancelAdopt_only]
@[simp] theorem cancelAdopt_ring (s : State) : (cancelAdopt s).ring = s.ring := by rw [cancelAdopt_only]
@[simp] theorem cancelAdopt_look (s : State) : (cancelAdopt s).look = s.look := by rw [cancelAdopt_only]

/-! ## abandonLook -/

theorem abandonLook_only (s : State) :
    abandonLook s = { s with sched := (abandonLook s).sched, look := (abandonLook s).look, lius := (abandonLook s).lius } := by
  unfold abandonLook
  split
  · rfl
  · dsimp only
    rw [raiseNotice_only]

@[simp] theorem abandonLook_now (s : State) : (abandonLook s).now = s.now := by rw [abandonLook_only]
@[simp] theorem abandonLook_pending (s : State) : (abandonLook s).pending = s.pending := by rw [abandonLook_only]
@[simp] theorem abandonLook_freeReads (s : State) : (abandonLook s).freeReads = s.freeReads := by rw [abandonLook_only]
@[simp] theorem abandonLook_device (s : State) : (abandonLook s).device = s.device := by rw [abandonLook_only]
@[simp] theorem abandonLook_hull (s : State) : (abandonLook s).hull = s.hull := by rw [abandonLook_only]
@[simp] theorem abandonLook_working (s : State) : (abandonLook s).working = s.working := by rw [abandonLook_only]
@[simp] theorem abandonLook_live (s : State) : (abandonLook s).live = s.live := by rw [abandonLook_only]
@[simp] theorem abandonLook_version (s : State) : (abandonLook s).version = s.version := by rw [abandonLook_only]
@[simp] theorem abandonLook_owner (s : State) : (abandonLook s).owner = s.owner := by rw [abandonLook_only]
@[simp] theorem abandonLook_trial (s : State) : (abandonLook s).trial = s.trial := by rw [abandonLook_only]
@[simp] theorem abandonLook_sets (s : State) : (abandonLook s).sets = s.sets := by rw [abandonLook_only]
@[simp] theorem abandonLook_ready (s : State) : (abandonLook s).ready = s.ready := by rw [abandonLook_only]
@[simp] theorem abandonLook_tracker (s : State) : (abandonLook s).tracker = s.tracker := by rw [abandonLook_only]
@[simp] theorem abandonLook_bank (s : State) : (abandonLook s).bank = s.bank := by rw [abandonLook_only]
@[simp] theorem abandonLook_unit (s : State) : (abandonLook s).unit = s.unit := by rw [abandonLook_only]
@[simp] theorem abandonLook_crit (s : State) : (abandonLook s).crit = s.crit := by rw [abandonLook_only]
@[simp] theorem abandonLook_verdict (s : State) : (abandonLook s).verdict = s.verdict := by rw [abandonLook_only]
@[simp] theorem abandonLook_serial (s : State) : (abandonLook s).serial = s.serial := by rw [abandonLook_only]
@[simp] theorem abandonLook_published (s : State) : (abandonLook s).published = s.published := by rw [abandonLook_only]
@[simp] theorem abandonLook_holds (s : State) : (abandonLook s).holds = s.holds := by rw [abandonLook_only]
@[simp] theorem abandonLook_ring (s : State) : (abandonLook s).ring = s.ring := by rw [abandonLook_only]
@[simp] theorem abandonLook_store (s : State) : (abandonLook s).store = s.store := by rw [abandonLook_only]

/-! ## recompute -/

theorem recompute_only (h : Line) (s : State) :
    recompute h s = { s with holds := (recompute h s).holds, lius := (recompute h s).lius } := by
  unfold recompute
  split
  · rfl
  · rw [raiseNotice_only]
    rfl

@[simp] theorem recompute_now (h : Line) (s : State) : (recompute h s).now = s.now := by rw [recompute_only]
@[simp] theorem recompute_pending (h : Line) (s : State) : (recompute h s).pending = s.pending := by rw [recompute_only]
@[simp] theorem recompute_freeReads (h : Line) (s : State) : (recompute h s).freeReads = s.freeReads := by rw [recompute_only]
@[simp] theorem recompute_device (h : Line) (s : State) : (recompute h s).device = s.device := by rw [recompute_only]
@[simp] theorem recompute_hull (h : Line) (s : State) : (recompute h s).hull = s.hull := by rw [recompute_only]
@[simp] theorem recompute_working (h : Line) (s : State) : (recompute h s).working = s.working := by rw [recompute_only]
@[simp] theorem recompute_live (h : Line) (s : State) : (recompute h s).live = s.live := by rw [recompute_only]
@[simp] theorem recompute_version (h : Line) (s : State) : (recompute h s).version = s.version := by rw [recompute_only]
@[simp] theorem recompute_owner (h : Line) (s : State) : (recompute h s).owner = s.owner := by rw [recompute_only]
@[simp] theorem recompute_trial (h : Line) (s : State) : (recompute h s).trial = s.trial := by rw [recompute_only]
@[simp] theorem recompute_sets (h : Line) (s : State) : (recompute h s).sets = s.sets := by rw [recompute_only]
@[simp] theorem recompute_ready (h : Line) (s : State) : (recompute h s).ready = s.ready := by rw [recompute_only]
@[simp] theorem recompute_tracker (h : Line) (s : State) : (recompute h s).tracker = s.tracker := by rw [recompute_only]
@[simp] theorem recompute_bank (h : Line) (s : State) : (recompute h s).bank = s.bank := by rw [recompute_only]
@[simp] theorem recompute_unit (h : Line) (s : State) : (recompute h s).unit = s.unit := by rw [recompute_only]
@[simp] theorem recompute_sched (h : Line) (s : State) : (recompute h s).sched = s.sched := by rw [recompute_only]
@[simp] theorem recompute_crit (h : Line) (s : State) : (recompute h s).crit = s.crit := by rw [recompute_only]
@[simp] theorem recompute_verdict (h : Line) (s : State) : (recompute h s).verdict = s.verdict := by rw [recompute_only]
@[simp] theorem recompute_serial (h : Line) (s : State) : (recompute h s).serial = s.serial := by rw [recompute_only]
@[simp] theorem recompute_published (h : Line) (s : State) : (recompute h s).published = s.published := by rw [recompute_only]
@[simp] theorem recompute_ring (h : Line) (s : State) : (recompute h s).ring = s.ring := by rw [recompute_only]
@[simp] theorem recompute_look (h : Line) (s : State) : (recompute h s).look = s.look := by rw [recompute_only]
@[simp] theorem recompute_store (h : Line) (s : State) : (recompute h s).store = s.store := by rw [recompute_only]

/-! ## recomputeLines -/

theorem recomputeLines_only (hs : List Line) (s : State) :
    recomputeLines hs s = { s with holds := (recomputeLines hs s).holds, lius := (recomputeLines hs s).lius } := by
  unfold recomputeLines
  induction hs generalizing s with
  | nil => rfl
  | cons h hs ih =>
    rw [List.foldl_cons, ih]
    simp

@[simp] theorem recomputeLines_now (hs : List Line) (s : State) : (recomputeLines hs s).now = s.now := by rw [recomputeLines_only]
@[simp] theorem recomputeLines_pending (hs : List Line) (s : State) : (recomputeLines hs s).pending = s.pending := by rw [recomputeLines_only]
@[simp] theorem recomputeLines_freeReads (hs : List Line) (s : State) : (recomputeLines hs s).freeReads = s.freeReads := by rw [recomputeLines_only]
@[simp] theorem recomputeLines_device (hs : List Line) (s : State) : (recomputeLines hs s).device = s.device := by rw [recomputeLines_only]
@[simp] theorem recomputeLines_hull (hs : List Line) (s : State) : (recomputeLines hs s).hull = s.hull := by rw [recomputeLines_only]
@[simp] theorem recomputeLines_working (hs : List Line) (s : State) : (recomputeLines hs s).working = s.working := by rw [recomputeLines_only]
@[simp] theorem recomputeLines_live (hs : List Line) (s : State) : (recomputeLines hs s).live = s.live := by rw [recomputeLines_only]
@[simp] theorem recomputeLines_version (hs : List Line) (s : State) : (recomputeLines hs s).version = s.version := by rw [recomputeLines_only]
@[simp] theorem recomputeLines_owner (hs : List Line) (s : State) : (recomputeLines hs s).owner = s.owner := by rw [recomputeLines_only]
@[simp] theorem recomputeLines_trial (hs : List Line) (s : State) : (recomputeLines hs s).trial = s.trial := by rw [recomputeLines_only]
@[simp] theorem recomputeLines_sets (hs : List Line) (s : State) : (recomputeLines hs s).sets = s.sets := by rw [recomputeLines_only]
@[simp] theorem recomputeLines_ready (hs : List Line) (s : State) : (recomputeLines hs s).ready = s.ready := by rw [recomputeLines_only]
@[simp] theorem recomputeLines_tracker (hs : List Line) (s : State) : (recomputeLines hs s).tracker = s.tracker := by rw [recomputeLines_only]
@[simp] theorem recomputeLines_bank (hs : List Line) (s : State) : (recomputeLines hs s).bank = s.bank := by rw [recomputeLines_only]
@[simp] theorem recomputeLines_unit (hs : List Line) (s : State) : (recomputeLines hs s).unit = s.unit := by rw [recomputeLines_only]
@[simp] theorem recomputeLines_sched (hs : List Line) (s : State) : (recomputeLines hs s).sched = s.sched := by rw [recomputeLines_only]
@[simp] theorem recomputeLines_crit (hs : List Line) (s : State) : (recomputeLines hs s).crit = s.crit := by rw [recomputeLines_only]
@[simp] theorem recomputeLines_verdict (hs : List Line) (s : State) : (recomputeLines hs s).verdict = s.verdict := by rw [recomputeLines_only]
@[simp] theorem recomputeLines_serial (hs : List Line) (s : State) : (recomputeLines hs s).serial = s.serial := by rw [recomputeLines_only]
@[simp] theorem recomputeLines_published (hs : List Line) (s : State) : (recomputeLines hs s).published = s.published := by rw [recomputeLines_only]
@[simp] theorem recomputeLines_ring (hs : List Line) (s : State) : (recomputeLines hs s).ring = s.ring := by rw [recomputeLines_only]
@[simp] theorem recomputeLines_look (hs : List Line) (s : State) : (recomputeLines hs s).look = s.look := by rw [recomputeLines_only]
@[simp] theorem recomputeLines_store (hs : List Line) (s : State) : (recomputeLines hs s).store = s.store := by rw [recomputeLines_only]

end Sys2Proof.Machine
end

