-- ==== Sys2Proof/Laws/Links.lean ====
section
/-! SUPPORT. What the shared operations do to one link and to the others: reading back a written link or line, notices,
responses, and the choice of the next outbound message (R201 to R204). -/

namespace Sys2Proof.Machine

/-! ## Reading back -/

@[simp] theorem PerLink.get_set {α : Type} (p : PerLink α) (l : Link) (v : α) : (p.set l v).get l = v := by
  cases l <;> rfl

theorem PerLink.get_set_other {α : Type} (p : PerLink α) {l l' : Link} (v : α) (h : l' ≠ l) :
    (p.set l v).get l' = p.get l' := by
  cases l <;> cases l' <;> first | rfl | exact absurd rfl h

/-- Two values for each link are one when they agree at every link. -/
theorem PerLink.ext_get {α : Type} {p q : PerLink α} (h : ∀ l, p.get l = q.get l) : p = q := by
  have a := h .planning
  have b := h .deck
  have c := h .ballast
  cases p
  cases q
  simp only [PerLink.get] at a b c
  rw [a, b, c]

@[simp] theorem PerLine.get_set {α : Type} (p : PerLine α) (h : Line) (v : α) : (p.set h v).get h = v := by
  cases h <;> rfl

theorem PerLine.get_set_other {α : Type} (p : PerLine α) {h h' : Line} (v : α) (ne : h' ≠ h) :
    (p.set h v).get h' = p.get h' := by
  cases h <;> cases h' <;> first | rfl | exact absurd rfl ne

/-- Two values for each line are one when they agree at every line. -/
theorem PerLine.ext_get {α : Type} {p q : PerLine α} (h : ∀ k, p.get k = q.get k) : p = q := by
  have a := h .a
  have b := h .b
  have c := h .c
  have d := h .d
  cases p
  cases q
  simp only [PerLine.get] at a b c d
  rw [a, b, c, d]

@[simp] theorem modifyLiu_get (l : Link) (f : Liu → Liu) (s : State) :
    (modifyLiu l f s).lius.get l = f (s.lius.get l) := PerLink.get_set _ _ _

theorem modifyLiu_get_other {l l' : Link} (f : Liu → Liu) (s : State) (h : l' ≠ l) :
    (modifyLiu l f s).lius.get l' = s.lius.get l' := PerLink.get_set_other _ _ h

/-! ## Counters (R206) -/

theorem bump_eq_min {n : Nat} (h : n ≤ 255) : bump n = min 255 (n + 1) := by
  unfold bump satSucc Config.counterMax
  split <;> omega

theorem bump_le {n : Nat} (h : n ≤ 255) : bump n ≤ 255 := by
  unfold bump satSucc Config.counterMax
  split <;> omega

/-! ## Notices (R204) -/

/-- What raising a notice does at one link. -/
theorem raiseNotice_get (forced : Link → Bool) (n : Notice) (s : State) (l : Link) :
    (raiseNotice forced n s).lius.get l =
      if forced l || (s.lius.get l).selects n.kind then (s.lius.get l).write n else s.lius.get l := by
  unfold raiseNotice raiseAt
  cases l <;> dsimp only <;> split_ifs <;> simp_all [modifyLiu, PerLink.get, PerLink.set]

@[simp] theorem NoticeSlots.get_set (x : NoticeSlots) (k : NoticeKind) (v : Option Notice) : (x.set k v).get k = v := by
  cases k <;> rfl

theorem NoticeSlots.get_set_other (x : NoticeSlots) {k k' : NoticeKind} (v : Option Notice) (h : k' ≠ k) :
    (x.set k v).get k' = x.get k' := by
  cases k <;> cases k' <;> first | rfl | exact absurd rfl h

/-! ## The inbound queue (R195, R198) -/

theorem queuedBytes_append (xs ys : List InMsg) : queuedBytes (xs ++ ys) = queuedBytes xs + queuedBytes ys := by
  induction xs with
  | nil => simp [queuedBytes]
  | cons x xs ih => simp only [List.cons_append, queuedBytes, ih, Nat.add_assoc]

/-- A segment carries at most 32 bytes (R196). -/
theorem segmentOf_length {rx : RxUnit} {g : Segment} (h : segmentOf rx = some g) : g.data.length ≤ 32 := by
  unfold segmentOf at h
  split at h
  · cases h
  · split at h
    · split at h
      · rename_i c
        cases h
        have := c.2.1
        simp only [Config.segmentData, List.length_take] at this ⊢
        omega
      · cases h
    · cases h

/-- A message that ends, of up to 512 bytes and within the room of its last segment, leaves the queue in its capacity. -/
theorem Liu.queueFits_complete {u : Liu} {m : InMsg} (h : u.queueFits)
    (room : queuedBytes u.inbound + m.bytes.length ≤ 2048) (short : m.bytes.length ≤ 512) :
    (u.complete m).queueFits := by
  refine ⟨?_, Nat.zero_le _, fun x hx => ?_⟩
  · simpa [Liu.complete, queuedBytes_append, queuedBytes, Assembly.length] using room
  · simp only [Liu.complete, List.mem_append, List.mem_singleton] at hx
    rcases hx with hx | rfl
    · exact h.2.2 x hx
    · exact short

/-- A segment taken with 32 bytes free leaves the queue in its capacity. -/
theorem Liu.queueFits_assemble {u : Liu} {g : Segment} (h : u.queueFits) (room : 32 ≤ u.freeBytes)
    (short : g.data.length ≤ 32) : (u.assemble g).queueFits := by
  obtain ⟨total, part, each⟩ := h
  have free : queuedBytes u.inbound + u.assembly.length + 32 ≤ 2048 := by
    unfold Liu.freeBytes Config.inboundBytes at room
    omega
  have drop (tag : Nat) : (u.complete { bytes := [], malformed := true, tag := tag }).queueFits :=
    Liu.queueFits_complete ⟨total, part, each⟩ (by simp; omega) (by simp)
  unfold Liu.assemble Config.maxMessage
  cases e : u.assembly with
  | discarding tag =>
    dsimp only
    split_ifs
    · exact drop tag
    · exact ⟨total, part, each⟩
  | _ =>
    rw [e] at free
    dsimp only
    split_ifs with big
    · exact drop _
    · exact ⟨by simp only [Assembly.length] at free ⊢; omega, Nat.zero_le _, each⟩
    · refine Liu.queueFits_complete ⟨total, part, each⟩ ?_ (not_lt.mp big)
      simp only [Assembly.length, List.length_append, List.length_nil] at free ⊢
      omega
    · refine ⟨?_, not_lt.mp big, each⟩
      simp only [Assembly.length, List.length_append, List.length_nil] at free ⊢
      omega

/-- Judging a segment leaves the queue in its capacity. -/
theorem Liu.queueFits_judge {u : Liu} (h : u.queueFits) (device : DeviceState) (rx : RxUnit) :
    (u.judge device rx).queueFits := by
  unfold Liu.judge
  by_cases off : device = .start
  · rw [if_pos off]
    exact h
  · rw [if_neg off]
    cases good : segmentOf rx with
    | none => exact h
    | some g =>
      dsimp only
      split_ifs with _ room
      · exact h
      · exact h
      · exact Liu.queueFits_assemble h (not_lt.mp room) (segmentOf_length good)

/-! ## Sending (R203) -/

/-- What an LIU's choice can change: the READY responses, the message in flight, the resend timer, the slots, the turn
and the transmit line. -/
theorem Liu.settle_only (u : Liu) (device : DeviceState) (now : Nat) :
    u.settle device now = { u with
      ready := (u.settle device now).ready, outbound := (u.settle device now).outbound
      resend := (u.settle device now).resend, slots := (u.settle device now).slots
      lastNotice := (u.settle device now).lastNotice, lastKind := (u.settle device now).lastKind
      tx := (u.settle device now).tx } := by
  unfold Liu.settle
  split
  · rfl
  · unfold Liu.choose
    split
    · rfl
    · unfold Liu.beginResponse Liu.transmit
      rfl
    · unfold Liu.beginNotice Liu.transmit
      rfl
    · split
      · unfold Liu.beginResponse Liu.transmit
        rfl
      · unfold Liu.beginNotice Liu.transmit
        rfl

@[simp] theorem settle_get (s : State) (l : Link) : (settle s).lius.get l = (s.lius.get l).settle s.device s.now := by
  cases l <;> rfl

/-- In START nothing is sent, so the end of an event changes nothing. -/
theorem settle_start {s : State} (h : s.device = .start) : settle s = s := by
  have key : ∀ u : Liu, u.settle s.device s.now = u := by
    intro u
    unfold Liu.settle
    rw [if_pos (by simp [h])]
  unfold settle
  simp only [key]

end Sys2Proof.Machine
end

