-- ==== Sys2Proof/Laws/Lines.lean ====
section
/-! SUPPORT. What recomputing hold lines does: the record of the line, the lines it leaves alone, and how a line stands
afterwards (R125 to R127). -/

namespace Sys2Proof.Machine

/-- A line's causes rest on the device state, the verdict, section 7, the channels and the line's own timers. -/
theorem causesOf_congr {s s' : State} {h : Line} (device : s'.device = s.device) (published : s'.published = s.published)
    (hull : s'.hull = s.hull) (verdict : s'.verdict = s.verdict) (channels : s'.bank.channels = s.bank.channels)
    (deck : (s'.holds.get h).deckTimer = (s.holds.get h).deckTimer)
    (ballast : (s'.holds.get h).ballastTimer = (s.holds.get h).ballastTimer) :
    s'.causesOf h = s.causesOf h := by
  unfold State.causesOf State.verdictCounts State.holdKinds State.holdWatches State.entryHolds State.masksOf State.lineCfg
  rw [device, published, hull, verdict, channels, deck, ballast]

theorem lineCfg_congr {s s' : State} {h : Line} (hull : s'.hull = s.hull) : s'.lineCfg h = s.lineCfg h := by
  unfold State.lineCfg
  rw [hull]

/-- The holds after a recomputation. -/
theorem recompute_holds (h : Line) (s : State) : (recompute h s).holds = (setLine h s).holds := by
  unfold recompute
  split
  · rfl
  · rw [raiseNotice_holds]

@[simp] theorem recompute_get (h : Line) (s : State) :
    (recompute h s).holds.get h =
      { s.holds.get h with latched := s.latchedNext h, asserted := s.assertedNext h } := by
  rw [recompute_holds]
  exact PerLine.get_set _ _ _

/-- The output of a recomputed line conducts exactly while the line comes out unasserted (R218). -/
theorem recompute_conducts (h : Line) (s : State) :
    ((recompute h s).holds.get h).conducts = !s.assertedNext h := by
  simp [HoldLine.conducts]

theorem recompute_get_other {h h' : Line} (s : State) (ne : h' ≠ h) :
    (recompute h s).holds.get h' = s.holds.get h' := by
  rw [recompute_holds]
  exact PerLine.get_set_other _ _ ne

/-- Recomputing a line changes no cause of any line. -/
theorem recompute_causesOf (h h' : Line) (s : State) : (recompute h s).causesOf h' = s.causesOf h' := by
  apply causesOf_congr
  · simp
  · simp
  · simp
  · simp
  · simp
  all_goals
    by_cases e : h' = h
    · subst e
      simp
    · rw [recompute_get_other s e]

theorem recompute_lineCfg (h h' : Line) (s : State) : (recompute h s).lineCfg h' = s.lineCfg h' :=
  lineCfg_congr (by simp)

/-- A recomputed line stands. -/
theorem recompute_stands (h : Line) (s : State) : (recompute h s).lineStands h := by
  unfold State.lineStands
  rw [recompute_causesOf, recompute_lineCfg, recompute_get]
  refine ⟨rfl, fun mode => ?_, fun mode latches => ?_⟩
  · simp [State.latchedNext, mode]
  · simp [State.latchedNext, mode, latches]

/-- Recomputing one line leaves another standing as it stood. -/
theorem recompute_stands_other {h h' : Line} {s : State} (ne : h' ≠ h) :
    (recompute h s).lineStands h' ↔ s.lineStands h' := by
  unfold State.lineStands
  rw [recompute_causesOf, recompute_lineCfg, recompute_get_other s ne]

/-- Recomputing several lines leaves those standing that stood, and those recomputed stand. -/
theorem recomputeLines_stands (hs : List Line) (s : State) (h : Line) (ok : h ∈ hs ∨ s.lineStands h) :
    (recomputeLines hs s).lineStands h := by
  unfold recomputeLines
  induction hs generalizing s with
  | nil => exact ok.resolve_left (by simp)
  | cons k ks ih =>
    rw [List.foldl_cons]
    apply ih
    by_cases e : h = k
    · subst e
      exact .inr (recompute_stands h s)
    · rcases ok with ok | ok
      · exact .inl (by simpa [e] using ok)
      · exact .inr ((recompute_stands_other e).mpr ok)

/-- After all lines are recomputed, all stand. -/
theorem recomputeAll_stands (s : State) (h : Line) : (recomputeAll s).lineStands h :=
  recomputeLines_stands _ _ _ (.inl (by cases h <;> decide))

/-- Recomputing lines changes no cause of any line. -/
theorem recomputeLines_causesOf (hs : List Line) (s : State) (h : Line) :
    (recomputeLines hs s).causesOf h = s.causesOf h := by
  unfold recomputeLines
  induction hs generalizing s with
  | nil => rfl
  | cons k ks ih => rw [List.foldl_cons, ih, recompute_causesOf]

/-- Recomputing lines moves no timer. -/
theorem recomputeLines_timers (hs : List Line) (s : State) (h : Line) :
    ((recomputeLines hs s).holds.get h).deckTimer = (s.holds.get h).deckTimer
      ∧ ((recomputeLines hs s).holds.get h).ballastTimer = (s.holds.get h).ballastTimer := by
  unfold recomputeLines
  induction hs generalizing s with
  | nil => exact ⟨rfl, rfl⟩
  | cons k ks ih =>
    rw [List.foldl_cons, (ih _).1, (ih _).2]
    by_cases e : h = k
    · subst e
      simp
    · rw [recompute_get_other s e]
      exact ⟨rfl, rfl⟩

/-- With the start hold present, every line is asserted once all are recomputed (R125, R131). -/
theorem recomputeAll_start {s : State} (start : s.verdictCounts = false) (h : Line) :
    ((recomputeAll s).holds.get h).asserted = true := by
  have stands := (recomputeAll_stands s h).1
  rw [stands]
  unfold recomputeAll
  rw [recomputeLines_causesOf]
  simp [HoldCauses.any, State.causesOf, start]

/-! ## What the links see (R127) -/

theorem Liu.write_hold (u : Liu) {n : Notice} (hold : n.kind = .hold) : u.write n = { u with
    slots := { u.slots with hold := (u.write n).slots.hold }, summary := (u.write n).summary } := by
  unfold Liu.write
  rw [hold]
  dsimp only
  split <;> rfl

/-- Recomputing a line reaches a link in its HOLD slot and its counters alone. -/
theorem recompute_link (h : Line) (s : State) (l : Link) : ∃ n c, (recompute h s).lius.get l =
    { s.lius.get l with slots := { (s.lius.get l).slots with hold := n }, summary := c } := by
  unfold recompute
  split
  · exact ⟨_, _, rfl⟩
  · rw [raiseNotice_get]
    split
    · exact ⟨_, _, Liu.write_hold _ rfl⟩
    · exact ⟨_, _, rfl⟩

theorem recomputeLines_link (hs : List Line) (s : State) (l : Link) : ∃ n c, (recomputeLines hs s).lius.get l =
    { s.lius.get l with slots := { (s.lius.get l).slots with hold := n }, summary := c } := by
  induction hs generalizing s with
  | nil => exact ⟨_, _, rfl⟩
  | cons h hs ih =>
    obtain ⟨n, c, e⟩ := ih (recompute h s)
    obtain ⟨_, _, e'⟩ := recompute_link h s l
    exact ⟨n, c, e.trans (by rw [e'])⟩

end Sys2Proof.Machine
end

