-- ==== Sys2Proof/Laws/Blocks.lean ====
section
/-! SUPPORT. What the blocks' shared operations can change: one lemma `<operation>_only` for each, which writes its
result as the state before it with the fields it may touch replaced by the result's own. -/

namespace Sys2Proof.Machine

/-! ## Movements -/

theorem lotNotice_only (e : LotEvent) (x : Lot) (freed : Bool) (crane : Nat) (peak : Option Int) (s : State) :
    lotNotice e x freed crane peak s = { s with lius := (lotNotice e x freed crane peak s).lius } :=
  raiseNotice_only _ _ _

/-- The notice of every event but a SET-DOWN is forced at no link (R62). -/
theorem lotNotice_forcedNone {e : LotEvent} (x : Lot) (freed : Bool) (crane : Nat) (peak : Option Int) (s : State)
    (other : e ≠ .setDown) : lotNotice e x freed crane peak s = raiseNotice forcedNone
      (.lot { event := e, lot := x, freed := freed, crane := crane, peak := peak, version := s.version }) s := by
  unfold lotNotice
  congr 1
  funext l
  cases e <;> first | rfl | exact absurd rfl other

theorem liftOff_only (x : Lot) (crane : Nat) (net : Int) (s : State) :
    liftOff x crane net s = { s with
      live := (liftOff x crane net s).live, tracker := (liftOff x crane net s).tracker
      version := s.version + 1, sched := (liftOff x crane net s).sched, lius := (liftOff x crane net s).lius } := by
  unfold liftOff
  rw [lotNotice_only, raiseLive_only]
  rfl

theorem land_only (e : LotEvent) (x : Lot) (crane : Nat) (peak : Option Int) (s : State) :
    (land e x crane peak s).1 = { s with
      live := (land e x crane peak s).1.live, tracker := (land e x crane peak s).1.tracker
      version := s.version + 1, sched := (land e x crane peak s).1.sched, lius := (land e x crane peak s).1.lius } := by
  unfold land
  dsimp only
  rw [lotNotice_only, raiseLive_only]
  rfl

theorem hookWhileLifted_only (x : Lot) (crane : Nat) (rec : CraneRec) (peak net : Int) (s : State) :
    hookWhileLifted x crane rec peak net s = { s with
      live := (hookWhileLifted x crane rec peak net s).live, tracker := (hookWhileLifted x crane rec peak net s).tracker
      version := (hookWhileLifted x crane rec peak net s).version
      sched := (hookWhileLifted x crane rec peak net s).sched, lius := (hookWhileLifted x crane rec peak net s).lius } := by
  unfold hookWhileLifted
  generalize (if peak < net then net else peak) = peak'
  dsimp only
  split
  · rw [land_only]
    rfl
  · rfl

/-- A HOOK output moves the Tracker, and through it LIVE, the version, the live request and notices. -/
theorem hookOutput_only (crane : Nat) (v : Int) (s : State) :
    hookOutput crane v s = { s with
      live := (hookOutput crane v s).live, tracker := (hookOutput crane v s).tracker
      version := (hookOutput crane v s).version, sched := (hookOutput crane v s).sched
      lius := (hookOutput crane v s).lius } := by
  unfold hookOutput
  split
  · rfl
  · dsimp only
    split
    · rfl
    · split
      · split
        · rw [liftOff_only]
          rfl
        · rfl
      · rw [hookWhileLifted_only]
        rfl
      · rfl

/-! ## Channels -/

theorem channelNotice_only (k : Nat) (c : Channel) (e : ChanEvents) (s : State) :
    channelNotice k c e s = { s with lius := (channelNotice k c e s).lius } := by
  unfold channelNotice
  split
  · exact raiseNotice_only _ _ _
  · rfl

theorem disableChannel_only (k : Nat) (c : Channel) (s : State) :
    disableChannel k c s = { s with bank := (putChannel k c.toDisabled s).bank, lius := (disableChannel k c s).lius } := by
  unfold disableChannel
  rw [channelNotice_only]
  rfl

/-- A block output reaches the lines of its watch and, for HOOK, the Tracker. -/
theorem handOn_only (c : Channel) (changed : Bool) (s : State) :
    handOn c changed s = { s with
      live := (handOn c changed s).live, tracker := (handOn c changed s).tracker
      version := (handOn c changed s).version, sched := (handOn c changed s).sched
      holds := (handOn c changed s).holds, lius := (handOn c changed s).lius } := by
  have lines : (if changed then recomputeMask c.cfg.mask s else s) = { s with
      holds := (if changed then recomputeMask c.cfg.mask s else s).holds
      lius := (if changed then recomputeMask c.cfg.mask s else s).lius } := by
    split
    · exact recomputeLines_only _ _
    · rfl
  unfold handOn
  dsimp only
  rw [lines]
  split
  · rw [hookOutput_only]
  · rfl

/-- A sample changes its channel's record, and what `handOn` changes. -/
theorem takeSample_only (k : Nat) (c : Channel) (v : Int) (s : State) :
    takeSample k c v s = { s with
      bank := (takeSample k c v s).bank
      live := (takeSample k c v s).live, tracker := (takeSample k c v s).tracker
      version := (takeSample k c v s).version, sched := (takeSample k c v s).sched
      holds := (takeSample k c v s).holds, lius := (takeSample k c v s).lius } := by
  unfold takeSample
  dsimp only
  split
  · rfl
  · rw [channelNotice_only]
    rfl
  · rw [handOn_only, channelNotice_only]
    rfl

/-! ## Change sets -/

theorem reportSet_only (l : Link) (o : SetOutcome) (s : State) :
    reportSet l o s = { s with sets := (reportSet l o s).sets, lius := (reportSet l o s).lius } := rfl

/-- A set tried changes LIVE, the ring and the version, its link's outcome record and its link's LIU. -/
theorem applySet_only (r : ReadySet) (s : State) :
    applySet r s = { s with
      live := (applySet r s).live, ring := (applySet r s).ring, version := (applySet r s).version
      sets := (applySet r s).sets, lius := (applySet r s).lius } := by
  unfold applySet
  split <;> rfl

theorem applySets_only (rs : List ReadySet) (s : State) :
    rs.foldl (fun s r => applySet r s) s = { s with
      live := (rs.foldl (fun s r => applySet r s) s).live, ring := (rs.foldl (fun s r => applySet r s) s).ring
      version := (rs.foldl (fun s r => applySet r s) s).version, sets := (rs.foldl (fun s r => applySet r s) s).sets
      lius := (rs.foldl (fun s r => applySet r s) s).lius } := by
  induction rs generalizing s with
  | nil => rfl
  | cons r rs ih =>
    rw [List.foldl_cons, ih, applySet_only]

/-- The ready list is empty after it is handed over, and the sets changed what `applySet` changes. -/
theorem applyReady_only (s : State) :
    applyReady s = { s with
      ready := [], live := (applyReady s).live, ring := (applyReady s).ring, version := (applyReady s).version
      sets := (applyReady s).sets, lius := (applyReady s).lius } := by
  unfold applyReady
  rw [applySets_only]

/-! ## TRIAL, ADOPT and runs -/

theorem releaseRecalled_only (s : State) :
    releaseRecalled s = { s with
      owner := (releaseRecalled s).owner, trial := (releaseRecalled s).trial
      store := (releaseRecalled s).store, lius := (releaseRecalled s).lius } := by
  unfold releaseRecalled
  split
  · rw [cancelAdopt_only]
    rfl
  · rfl

theorem applyAdopt_only (s : State) :
    applyAdopt s = { s with
      live := (applyAdopt s).live, version := (applyAdopt s).version, owner := (applyAdopt s).owner
      trial := (applyAdopt s).trial, store := { s.store with waitingAdopt := false }, lius := (applyAdopt s).lius } := by
  unfold applyAdopt
  split
  · rename_i h
    have none : s.store.waitingAdopt = false := by simpa using h
    simp only [← none]
  · dsimp only
    split
    · rw [archiveNotice_only]
    · rw [archiveNotice_only]
      rfl

/-- A run that completes leaves its result, TRIAL EMPTY and no run. -/
theorem completeRun_only (b : BaseInfo) (rs : List StageRecord) (s : State) :
    completeRun b rs s = { s with
      look := { outcome := .complete, base := some b, records := rs, firstOver := firstOverOf rs }
      sched := { s.sched with run := none }, owner := .empty, trial := Area.empty
      lius := (completeRun b rs s).lius } := by
  unfold completeRun
  dsimp only
  rw [raiseNotice_only]
  rfl

/-! ## Publication -/

/-- A publication changes the table, the serial, the verdict, the lines and the links. -/
theorem publish_only (h : Hull) (r : Result) (s : State) :
    publish h r s = { s with
      crit := (s.verdictOf h r).entries, serial := (s.verdictOf h r).serial, verdict := some (s.verdictOf h r)
      published := true, holds := (publish h r s).holds, lius := (publish h r s).lius } := by
  unfold publish recomputeAll
  dsimp only
  split
  · rw [raiseNotice_only]
    unfold markAll
    rw [recomputeLines_only]
  · unfold markAll
    rw [recomputeLines_only]

/-- A publication, its notice apart from what goes before it. -/
theorem publish_eq (h : Hull) (r : Result) (s : State) : publish h r s =
    let v := s.verdictOf h r
    let s2 := markAll (recomputeAll { s with
      crit := v.entries, serial := v.serial, verdict := some v, published := true })
    if s.verdictNews v then raiseNotice forcedNone v.notice s2 else s2 := rfl

theorem markAll_get (s : State) (l : Link) : (markAll s).lius.get l = (s.lius.get l).markVerdict := by cases l <;> rfl

/-- What the lines and the marks of a publication change at a link: the mark, the HOLD slot and the counters. -/
theorem markAll_link (s : State) (l : Link) : (markAll (recomputeAll s)).lius.get l = { s.lius.get l with
    mark := true
    slots := { (s.lius.get l).slots with hold := ((markAll (recomputeAll s)).lius.get l).slots.hold }
    summary := ((markAll (recomputeAll s)).lius.get l).summary } := by
  obtain ⟨n, c, e⟩ := recomputeLines_link allLines s l
  rw [markAll_get, show recomputeAll s = recomputeLines allLines s from rfl, e]
  rfl

/-! ## The live grant (R138) -/

/-- A live grant leaves what the ready sets leave, tried in list order over what a waiting ADOPT leaves, with the
snapshot taken. -/
theorem grantLive_eq (h : Hull) (s : State) : grantLive h s =
    { s.ready.foldl (fun q r => applySet r q) { applyAdopt (suspendRun s) with ready := [] } with
      unit := (grantLive h s).unit, sched := (grantLive h s).sched } := by
  have ready : (applyAdopt (suspendRun s)).ready = s.ready := by
    rw [applyAdopt_only]
    rfl
  unfold grantLive applyReady
  simp only [ready]

end Sys2Proof.Machine
end

