-- ==== Sys2Proof/Laws/Evaluation.lean ====
section
/-! SUPPORT. What the moment accumulators can hold, and that a granted Unit's accumulators are the sums of its snapshot
(R84, R87). -/

namespace Sys2Proof.Machine

/-- Adding a crane's term leaves a moment accumulator within its range (R87). -/
theorem Accumulator.add_range {a : Accumulator} (term : Int) (low : -Config.momentMax ≤ a.value)
    (high : a.value ≤ Config.momentMax) :
    -Config.momentMax ≤ (a.add term).value ∧ (a.add term).value ≤ Config.momentMax := by
  unfold Accumulator.add
  split
  · exact ⟨low, high⟩
  · split
    · exact ⟨by decide, Int.le_refl _⟩
    · split
      · exact ⟨Int.le_refl _, by decide⟩
      · dsimp only
        constructor <;> omega

/-- Adding the crane terms in order leaves a moment accumulator within its range (R87). -/
theorem addCranes_range (ts : List Int) (a : Accumulator) (low : -Config.momentMax ≤ a.value)
    (high : a.value ≤ Config.momentMax) :
    -Config.momentMax ≤ (addCranes a ts).value ∧ (addCranes a ts).value ≤ Config.momentMax := by
  induction ts generalizing a with
  | nil => exact ⟨low, high⟩
  | cons t ts ih =>
    have within := a.add_range t low high
    exact ih (a.add t) within.1 within.2

theorem Snapshot.withCranes_range (sn : Snapshot) {start : Int} (term : Item → Int) (low : -Config.momentMax ≤ start)
    (high : start ≤ Config.momentMax) :
    -Config.momentMax ≤ (sn.withCranes start term).value ∧ (sn.withCranes start term).value ≤ Config.momentMax :=
  addCranes_range _ _ low high

/-- A granted Unit holds the sums of its snapshot, and the result formed from them is the evaluation of it (R84). -/
theorem Computing.granted_acc (work : Work) (sn : Snapshot) :
    (Computing.granted work sn).acc = sn.accumulators
      ∧ sn.resultFrom (Computing.granted work sn).acc = evaluate sn := ⟨rfl, rfl⟩

end Sys2Proof.Machine
end

