-- ==== Sys2Proof/Laws/Requests.lean ====
section
/-! SUPPORT. What taking a request can do: nothing when it is not due, a MALFORMED or REFUSED-RIGHTS answer, or what
its owning block does with the answer it gives (R199). A proof about a request cites these and unfolds only the owning
block's own function. -/

namespace Sys2Proof.Machine

variable {α : Type} {kind : Nat} {form : Reader α} {right : Link → α → Bool}
  {act : Link → α → State → State × Reply} {t : Nat} {l : Link} {s : State} {m : InMsg} {a : α}

theorem request_not_due (h : takeable kind l s = none) : request kind form right act t l s = s := by
  unfold request; rw [h]

theorem request_malformed (h : takeable kind l s = some m)
    (bad : m.malformed = true ∨ readWhole form (m.bytes.drop 3) = none) :
    request kind form right act t l s = answered l kind m .malformed [] (handed t l s) := by
  unfold request answered handed refuse
  rw [h]
  rcases bad with bad | bad
  · simp [bad]
  · cases m.malformed <;> simp [bad]

theorem request_refusedRights (h : Taken kind form l m a s) (no : right l a = false) :
    request kind form right act t l s = answered l kind m .refusedRights [] (handed t l s) := by
  obtain ⟨h1, h2, h3⟩ := h
  unfold request answered handed
  rw [h1]
  simp [h2, h3, no, refuse]

theorem request_handed (h : Taken kind form l m a s) (yes : right l a = true) :
    request kind form right act t l s =
      settle (respond l kind m.requestTag (act l a (handed t l s)).2 (act l a (handed t l s)).1) := by
  obtain ⟨h1, h2, h3⟩ := h
  unfold request handed
  rw [h1]
  simp [h2, h3, yes]

/-- A request answered at its taking, by what its owning block does on the state handed to it. -/
theorem request_answered {s' : State} {code : Code} {body : List Byte} (h : Taken kind form l m a s)
    (yes : right l a = true) (does : act l a (handed t l s) = (s', .answer code body)) :
    request kind form right act t l s = answered l kind m code body s' := by
  rw [request_handed h yes, does]
  rfl

/-- A request whose answer is owed. -/
theorem request_owing {s' : State} {enter : Bool} (h : Taken kind form l m a s) (yes : right l a = true)
    (does : act l a (handed t l s) = (s', .owed enter)) :
    request kind form right act t l s = owing l kind m enter s' := by
  rw [request_handed h yes, does]
  rfl

/-- A request for which nothing is taken in START (R197). -/
theorem takeable_start (h : s.device = .start) : takeable kind l s = none := by
  unfold takeable
  simp [h]

theorem takeable_device (h : takeable kind l s = some m) : s.device ≠ .start := by
  intro h'
  rw [takeable_start h'] at h
  exact absurd h (by simp)

end Sys2Proof.Machine
end

