-- ==== Sys2Proof/Laws/Store.lean ====
section
/-! SUPPORT. What the end of a store job does, and what an answer owed to a request does (R183, R188, R202, R209). -/

namespace Sys2Proof.Machine

/-- An owed answer changes the links alone. -/
theorem answerOwed_only (enter : Bool) (code : Code) (body : List Byte) (restart : Bool) (s : State) :
    answerOwed enter code body restart s = { s with lius := (answerOwed enter code body restart s).lius } := rfl

/-- With no entry RESERVED for it an owed answer is discarded (R209). -/
theorem answerOwed_discarded {enter : Bool} {s : State} (code : Code) (body : List Byte) (restart : Bool)
    (gone : ∀ o ∈ (s.lius.get .planning).owed, o.enter ≠ enter) : answerOwed enter code body restart s = s := by
  have none : (s.lius.get .planning).owed.find? (fun o => o.enter == enter) = none := by
    simpa using gone
  unfold answerOwed modifyLiu
  simp only [none]
  rfl

/-- The end of a job other than ADOPT: IDLE, its answer and its ARCHIVE notice. -/
theorem endJobWith_eq {kind : JobKind} (restart : Bool) (target : Option Target) (code : Code)
    (check : Option (Option Quantity)) (body : List Byte) (s : State) (job : kind ≠ .adopt) :
    endJobWith restart kind target code check body s = jobEnded restart kind target code check body s := by
  have forced : (fun l => kind == JobKind.adopt && forcedPlanning l) = forcedNone := by
    funext l
    simp [job, forcedNone]
  simp only [endJobWith, archiveNotice, forced]
  rfl

/-- The end of a job changes the job, the last job and the links alone. -/
theorem jobEnded_only (restart : Bool) (kind : JobKind) (target : Option Target) (code : Code)
    (check : Option (Option Quantity)) (body : List Byte) (s : State) :
    jobEnded restart kind target code check body s = { s with
      store := { s.store with job := none, lastJob := some { kind := kind, target := target, code := code } }
      lius := (jobEnded restart kind target code check body s).lius } := by
  unfold jobEnded
  rw [raiseNotice_only, answerOwed_only]

end Sys2Proof.Machine
end

