-- ==== Sys2Proof/Tests/Slice0.lean ====
section
/-! SUPPORT. The model's own tests: each check of well-formedness refuses an ill-formed command, the manual's check
values and worked examples come out, and each statement's hypotheses are met by a concrete state, clause by clause. -/

namespace Sys2Proof.Tests

open Sys2Proof Sys2Proof.Machine

set_option Elab.async false

/-! ## Well-formed commands -/

/-- A unit without a framing error. -/
def rx (bs : List Byte) : RxUnit := ⟨bs, false⟩

theorem test_well_formed_segment : (Instr.segmentArrival 0 .deck (rx [2, 0])).wellFormed = true := by decide
theorem test_empty_segment_refused : (Instr.segmentArrival 0 .deck (rx [])).wellFormed = false := by decide
theorem test_reply_as_segment_refused : (Instr.segmentArrival 0 .deck (rx [128, 1])).wellFormed = false := by decide
theorem test_segment_as_reply_refused : (Instr.replyUnit 0 .deck (rx [2, 0])).wellFormed = false := by decide
theorem test_empty_reply_refused : (Instr.replyUnit 0 .deck (rx [])).wellFormed = false := by decide
theorem test_empty_frame_refused : (Instr.sampleFrame 0 (rx [])).wellFormed = false := by decide
theorem test_channel_24_refused : (Instr.staleTimerExpiry 0 24).wellFormed = false := by decide
theorem test_planning_timer_refused : (Instr.timedHoldExpiry 0 .planning .a).wellFormed = false := by decide
theorem test_section_8_refused : (Instr.leaveConfigWriteEnd 0 (some 8)).wellFormed = false := by decide
theorem test_nine_sections_refused :
    (Instr.powerOn 0 ⟨9, false⟩).wellFormed = false ∧ (Instr.resetLine 0 ⟨9, false⟩).wellFormed = false := by decide

/-! ## A small ship -/

/-- A HOOK, reach or other channel configuration with every sample a block. -/
def chan (k : ChanKind) (t : Nat) (lo hi : Int) : ChannelCfg :=
  { binding := some ⟨k, t⟩, enable := true, al := 1, min := lo, max := hi, stale := 1000, rail := 3, high := none
    low := none, band := 0, mask := LineSet.none }

/-- An unbound channel. -/
def unbound : ChannelCfg := { ChannelCfg.blank with max := 1 }

/-- The limits of the example of chapter 6, over two stations. -/
def lims : LimitSet := ⟨875, 1750, -500, 2000, 7000, 600, [⟨12000, 15000, 12000⟩, ⟨12000, 15000, 12000⟩]⟩

/-- Hull data with two stations, one space, one tank and one crane. -/
def ship : Hull :=
  { s0 := ⟨120000, 40000, ⟨60000, 0, 8000⟩, 60000, 150, [⟨70000, 26000, 38000⟩, ⟨100000, 38000, 55000⟩]⟩
    s1 := [⟨45000, 4100, 9800, 61200, 58500, 78000⟩, ⟨50000, 4500, 9700, 61000, 58300, 82000⟩]
    s2 := ⟨2, [[⟨5600, 37000⟩, ⟨5650, 37200⟩], [⟨8000, 50000⟩, ⟨8100, 50000⟩]]⟩
    s3 := [⟨5, [65, 65, 65, 65, 65, 65, 65, 65], 40000, 90000, -9000, 9000, 0, 3000⟩]
    s4 := [⟨800000, 40000, -4000, 8000,
      [⟨200, 0, 400⟩, ⟨2100, 400000, 1300⟩, ⟨3100, 600000, 1700⟩, ⟨4100, 800000, 2100⟩], 16670000⟩]
    s5 := [⟨80000, 6000, 10, 90, 10, 5, [⟨12000, 1500⟩, ⟨20000, 1200⟩, ⟨28000, 800⟩], 30000⟩]
    s6 := ⟨lims, lims, [⟨100, 50⟩, ⟨100, 50⟩, ⟨200, 50⟩, ⟨200, 50⟩, ⟨300, 50⟩, ⟨1000, 50⟩, ⟨1000, 50⟩, ⟨1000, 50⟩,
      ⟨100, 50⟩, ⟨60, 50⟩, ⟨100, 50⟩]⟩
    s7 :=
      { channels := [chan .hook 1 0 3000, chan .reachL 1 (-100000) 100000, chan .reachT 1 (-100000) 100000]
          ++ List.replicate 21 unbound
        lines := ⟨⟨.latch, false⟩, ⟨.follow, false⟩, ⟨.latch, true⟩, ⟨.follow, false⟩⟩
        masks := [⟨LineSet.none, LineSet.none⟩, ⟨⟨true, false, false, false⟩, LineSet.none⟩]
          ++ List.replicate 7 ⟨LineSet.none, LineSet.none⟩
          ++ [⟨LineSet.none, ⟨false, true, false, false⟩⟩, ⟨LineSet.none, LineSet.none⟩]
        period := 500, guard := 8, depth := 8 } }

/-- A set of sections as the store holds it. -/
def storedAs (h : Hull) : StoredHull :=
  ⟨some h.s0, some h.s1, some h.s2, some h.s3, some h.s4, some h.s5, some h.s6, some h.s7⟩

/-- A state that a command's outcome holds. -/
def after (o : Host.Outcome State Fault Refusal) : State :=
  match o with
  | .next s => s
  | .fault _ => State.reset
  | .refused _ => State.reset

/-- The state two commands leave. -/
def run (cs : List Instr) (s : State) : State := cs.foldl (fun s c => after (exec c s)) s

/-- The part in START with the ship's sections stored. -/
def starting : State := { State.reset with store := { Store.manufactured with sections := storedAs ship } }

/-- A lot on deck, 2,000 mu long by 12 m. -/
def stowed : Lot :=
  ⟨101, 2000, none, 6000, .stowed, some ⟨5, ⟨70000, 3000, 10000⟩⟩, none, none, none, none, false, none⟩

/-- A lot that is only planned. -/
def planned : Lot := ⟨7, 600, none, 2000, .planned, none, none, none, none, none, false, none⟩

/-- The part in RUN under the ship's hull data with two lots, nothing sent yet. -/
def running : State :=
  { State.reset with
    device := .run
    hull := some ship
    live :=
      { constants := List.replicate 16 ConstItem.absent, lots := [stowed, planned], tanks := [⟨.stated, 500000, 1025⟩]
        cranes := [⟨30000, none⟩], mode := .harbour }
    tracker := [⟨0, none⟩]
    bank := { channels := (ship.s7.channels.map loadChannel), errors := 0 }
    crit := buildTable ship
    store := { Store.manufactured with sections := storedAs ship } }

/-- A complete message. -/
def msg (kind tag : Nat) (body : List Byte) : InMsg := ⟨be 1 kind ++ be 2 tag ++ body, false, 0⟩

/-- A request standing alone in a link's queue. -/
def asked (l : Link) (kind : Nat) (body : List Byte) (s : State) : State :=
  modifyLiu l (fun u => { u with inbound := [msg kind 9 body] }) s

/-- The code an owning block answers at the taking of a request, none where the answer is owed. -/
def codeOf (r : State × Reply) : Option Code :=
  match r.2 with
  | .answer c _ => some c
  | _ => none

/-- A link that selects every notice. -/
def heeding (l : Link) (s : State) : State := modifyLiu l (fun u => { u with selection := 127#7 }) s

/-! ## The step -/

theorem test_step_takes_the_front :
    (after (step { starting with pending := [.startUpEnd 1 0 0, .grant 2] })).device = .run
      ∧ (after (step { starting with pending := [.startUpEnd 1 0 0, .grant 2] })).pending = [.grant 2] := by
  decide +kernel

theorem test_step_idles : step State.reset = .next State.reset := rfl

/-! ## Resets and start-up -/

/-- A restart awaited until 1,500 ms. -/
def repaired : State :=
  { running with device := .hullFault, store := { running.store with restart := some ⟨1500, false⟩ } }

theorem test_restart_at_its_deadline :
    repaired.store.restart = some ⟨1500, false⟩ ∧ repaired.store.job = none
      ∧ after (exec (.restart 1500) repaired) = after (exec (.resetLine 1500 ⟨0, false⟩) repaired)
      ∧ after (exec (.restart 1499) repaired) = repaired := by decide +kernel

/-- A SAVE that runs. -/
def saving : State := { running with owner := .archive, store := { running.store with job := some (.save 4 7 3) } }

theorem test_reset_in_a_save :
    (after (exec (.resetLine 5 ⟨0, false⟩) saving)).store.slots = saving.store.slots.set 4 .bad
      ∧ (after (exec (.resetLine 5 ⟨0, false⟩) saving)).store.sections = saving.store.sections
      ∧ (after (exec (.powerOn 5 ⟨0, false⟩) saving)).device = .start := by decide +kernel

theorem test_reset_in_a_reference_write :
    let s := { saving with store := { saving.store with job := some (.referenceWrite 4 none) } }
    (after (exec (.resetLine 5 ⟨0, false⟩) s)).store.slots.getD 4 .empty = .bad := by decide +kernel

theorem test_start_up_in_run :
    starting.device = .start ∧ (starting.store.sections.spoil 0).full = some ship
      ∧ (starting.store.sections.spoil 0).failure = none
      ∧ (after (exec (.startUpEnd 10 0 0) starting)).device = .run
      ∧ ((after (exec (.startUpEnd 10 0 0) starting)).bank.channels.map (·.timer)).take 4
          = [some 1010, some 1010, some 1010, none]
      ∧ (after (exec (.startUpEnd 10 0 0) starting)).live.tanks = [⟨.stated, 0, 1025⟩]
      ∧ (after (exec (.startUpEnd 10 0 0) starting)).sched.causes = 1 := by decide +kernel

theorem test_start_up_in_hull_fault :
    (starting.store.sections.spoil 0x80).full = none
      ∧ (after (exec (.startUpEnd 10 0x80 0) starting)).device = .hullFault
      ∧ (after (exec (.startUpEnd 10 0x80 0) starting)).working.map (·.s7.period) = some 500
      ∧ (after (exec (.startUpEnd 10 0x80 0) starting)).holds.d.asserted = true := by decide +kernel

theorem test_start_up_fails_validation :
    let s := { starting with store := { starting.store with
      sections := { starting.store.sections with s0 := some { ship.s0 with lightMass := 0 } } } }
    (s.store.sections.spoil 0).failure = some ⟨0, 1, 0, 0⟩
      ∧ (after (exec (.startUpEnd 10 0 0) s)).device = .hullFault := by decide +kernel

/-! ## Links -/

/-- A segment unit. -/
def seg (final bit : Bool) (data : List Byte) : RxUnit :=
  rx (withCheck (be 1 ((if final then 2 else 0) + (if bit then 1 else 0)) ++ be 1 data.length ++ data))

theorem test_segment_accepted :
    segmentOf (seg true true [22, 3, 9]) = some ⟨true, true, [22, 3, 9]⟩
      ∧ (after (exec (.segmentArrival 5 .deck (seg true true [22, 3, 9])) running)).lius.deck.inbound
          = [⟨[22, 3, 9], false, 0⟩]
      ∧ (after (exec (.segmentArrival 5 .deck (seg true true [22, 3, 9])) running)).lius.deck.tx
          = [replyUnitBytes true .accept] := by decide +kernel

theorem test_segment_repeated :
    let s := after (exec (.segmentArrival 5 .deck (seg true true [22, 3, 9])) running)
    s.lius.deck.lastIn = some true
      ∧ (after (exec (.segmentArrival 6 .deck (seg true true [22, 3, 9])) s)).lius.deck.inbound.length = 1 := by
  decide +kernel

theorem test_segment_discarded :
    segmentOf (rx [2, 1, 5, 0, 0]) = none
      ∧ (after (exec (.segmentArrival 5 .deck (rx [2, 1, 5, 0, 0])) running)).lius.deck.summary.discards = 1 := by
  decide +kernel

/-- A deck queue with 31 free bytes. -/
def crowded : State := modifyLiu .deck (fun u => { u with inbound := [⟨List.replicate 2017 0, true, 0⟩] }) running

theorem test_segment_backed_off :
    crowded.lius.deck.freeBytes = 31
      ∧ (after (exec (.segmentArrival 5 .deck (seg true true [1])) crowded)).lius.deck.summary.backOffs = 1
      ∧ (after (exec (.segmentArrival 5 .deck (seg true true [1])) starting)).lius.deck.tx
          = [replyUnitBytes true .backOff] := by decide +kernel

/-- A 40-byte message in flight on the deck link, its first segment sent. -/
def sending : State :=
  modifyLiu .deck (fun u => { u with
    outbound := some { bytes := List.replicate 40 7, index := 0, restart := false }, resend := some 50 }) running

theorem test_reply_moves_the_message :
    let ok (s : State) : State :=
      after (exec (.replyUnit 20 .deck (rx (replyUnitBytes s.lius.deck.nextOut .accept))) s)
    replyOf (rx (replyUnitBytes false .accept)) = some (false, .accept)
      ∧ (ok sending).lius.deck.outbound.map (·.index) = some 1 ∧ (ok sending).lius.deck.resend = some 70
      ∧ segmentIsLast (List.replicate 40 7) 0 = false ∧ segmentIsLast (List.replicate 40 7) 1 = true
      ∧ (ok (ok sending)).lius.deck.outbound = none ∧ (ok (ok sending)).lius.deck.nextOut = false
      ∧ after (exec (.replyUnit 20 .deck (rx (replyUnitBytes true .accept))) sending) = sending := by decide +kernel

theorem test_reply_discard_and_back_off :
    (after (exec (.replyUnit 20 .deck (rx (replyUnitBytes false .discard))) sending)).lius.deck.tx.length = 1
      ∧ (after (exec (.replyUnit 20 .deck (rx (replyUnitBytes false .backOff))) sending)).lius.deck.tx.length = 0
      ∧ (after (exec (.replyUnit 20 .deck (rx (replyUnitBytes false .backOff))) sending)).lius.deck.resend
          = some 70 := by decide +kernel

theorem test_replies_disregarded :
    let bad := rx [128, 1]
    running.lius.deck.outbound = none
      ∧ after (exec (.replyUnit 20 .deck (rx (replyUnitBytes false .accept))) running) = running
      ∧ replyOf bad = none ∧ after (exec (.replyUnit 20 .deck bad) sending) = sending
      ∧ running.lius.deck.resend = none ∧ after (exec (.resendTimerExpiry 50 .deck) running) = running := by
  decide +kernel

/-- The answer of a repair in flight on the planning link, and the restart that waits for it. -/
def answering : State :=
  modifyLiu .planning (fun u => { u with
    outbound := some { bytes := [26, 0, 9], index := 0, restart := true }, resend := some 50 }) repaired

theorem test_delivery_makes_the_restart_due :
    segmentIsLast [26, 0, 9] 0 = true
      ∧ (after (exec (.replyUnit 20 .planning (rx (replyUnitBytes false .accept))) answering)).store.restart
          = some ⟨1500, true⟩
      ∧ (after (exec (.replyUnit 20 .planning (rx (replyUnitBytes false .backOff))) answering)).store.restart
          = some ⟨1500, false⟩ := by decide +kernel

theorem test_resend_at_50_ms :
    (after (exec (.resendTimerExpiry 50 .deck) sending)).lius.deck.tx = [segmentUnit (List.replicate 40 7) 0 false]
      ∧ after (exec (.resendTimerExpiry 49 .deck) sending) = sending := by decide +kernel

/-- A READY response. -/
def ready1 : Response := ⟨6, 9, .done, false, [], false⟩

/-- A notice. -/
def hold1 : Notice := .hold ⟨.a, .latch, true, false, ⟨0, false, [], false, false, true⟩, 0⟩

/-- A link with a response and a notice waiting. -/
def waiting : Liu :=
  { running.lius.deck with ready := [ready1], slots := { NoticeSlots.reset with hold := some hold1 } }

theorem test_sending_alternates :
    waiting.nextNotice = some hold1 ∧ waiting.lastNotice = true
      ∧ ((waiting.settle .run 3).ready = [] ∧ (waiting.settle .run 3).slots.hold = some hold1)
      ∧ ({ waiting with lastNotice := false }.settle .run 3).slots.hold = none
      ∧ ({ waiting with lastNotice := false }.settle .run 3).ready = [ready1] := by decide +kernel

/-- The deck link with a message, an open set and a running timed hold. -/
def busyDeck : State :=
  { asked .deck 6 [] running with
    sets := { running.sets with deck := ⟨some ⟨3, [.lotRemove 101]⟩, none, []⟩ }
    holds := { running.holds with b := { running.holds.b with deckTimer := some 9000 } } }

theorem test_link_reset :
    busyDeck.lius.deck.inBreak = false
      ∧ (after (exec (.linkReset 5 .deck) busyDeck)).lius.deck.inbound = []
      ∧ (after (exec (.linkReset 5 .deck) busyDeck)).sets.deck = LinkSets.reset
      ∧ (after (exec (.linkReset 5 .deck) busyDeck)).holds.b.deckTimer = none
      ∧ (after (exec (.linkReset 5 .deck) busyDeck)).lius.deck.inBreak = true
      ∧ (after (exec (.linkBreakEnd 6 .deck) (after (exec (.linkReset 5 .deck) busyDeck)))).lius.deck.inBreak
          = false := by decide +kernel

/-- A RECALLED TRIAL with a waiting ADOPT. -/
def recalled : State :=
  { running with
    owner := .recalled, trial := { running.live with lots := [planned.toStowed ⟨5, ⟨60000, 0, 5000⟩⟩], mode := .sea }
    store := { running.store with waitingAdopt := true } }

theorem test_link_reset_leaves_a_reset_unit :
    let quiet := asked .deck 6 [] running
    (∀ h, (quiet.holds.get h).timer .deck = none)
      ∧ (after (exec (.linkReset 5 .deck) quiet)).lius.deck = Liu.reset .deck true
      ∧ after (exec (.linkReset 6 .deck) (after (exec (.linkReset 5 .deck) quiet)))
          = after (exec (.linkReset 5 .deck) quiet) := by
  refine ⟨fun h => ?_, by decide +kernel⟩
  cases h <;> rfl

theorem test_planning_reset_gives_the_adopt_notice :
    (after (exec (.linkReset 5 .planning) recalled)).lius.planning.slots.archive.isSome = true
      ∧ (after (exec (.linkReset 5 .planning) running)).lius.planning = Liu.reset .planning true
      ∧ (after (exec (.linkReset 5 .planning) answering)).store.restart = some ⟨1500, true⟩ := by decide +kernel

theorem test_planning_reset :
    (after (exec (.linkReset 5 .planning) recalled)).owner = .empty
      ∧ (after (exec (.linkReset 5 .planning) recalled)).store.waitingAdopt = false
      ∧ (after (exec (.linkReset 5 .planning) running)).owner = .empty := by decide +kernel

/-! ## Requests -/

theorem test_malformed_requests :
    takeable 3 .deck (asked .deck 3 [1] running) = some (msg 3 9 [1]) ∧ readWhole readAttach [1] = none
      ∧ after (exec (.attach 5 .deck) (asked .deck 3 [1] running)) =
          answered .deck 3 (msg 3 9 [1]) .malformed [] (handed 5 .deck (asked .deck 3 [1] running))
      ∧ (after (exec (.attach 5 .deck) (asked .deck 3 [1] running))).lius.deck.summary.refused = 1 := by
  decide +kernel

theorem test_unknown_kinds :
    takeable 0 .deck (asked .deck 43 [] running) = some (msg 43 9 [])
      ∧ (after (exec (.unknownRequestKind 5 .deck) (asked .deck 43 [] running))).lius.deck.summary.refused = 1 := by
  decide +kernel

theorem test_rights_held :
    Taken 27 readSlot .deck (msg 27 9 [4]) 4 (asked .deck 27 [4] running)
      ∧ (after (exec (.save 5 .deck) (asked .deck 27 [4] running))).lius.deck.summary.refused = 1
      ∧ (after (exec (.save 5 .deck) (asked .deck 27 [4] running))).store.job = none := by
  unfold Taken
  decide +kernel

/-- The bytes of a change-set message with one LOT-REMOVE of lot 101. -/
def removal (final : Byte) : List Byte := [3, final, 1, 7, 0, 101]

theorem test_edit_rights_held :
    Taken 1 readSetMessage .ballast (msg 1 9 (removal 1)) ⟨3, true, [.lotRemove 101]⟩
        (asked .ballast 1 (removal 1) running)
      ∧ (after (exec (.changeSetMessage 5 .ballast) (asked .ballast 1 (removal 1) running))).ready = []
      ∧ (after (exec (.changeSetMessage 5 .deck) (asked .deck 1 (removal 1) running))).ready
          = [⟨.deck, 3, [.lotRemove 101]⟩] := by
  unfold Taken
  decide +kernel

theorem test_notice_replaced :
    let s := { running with lius := { running.lius with deck := waiting } }
    (raiseNotice forcedNone hold1 s).lius.deck.summary.replaced = 1
      ∧ (raiseNotice forcedNone hold1 s).lius.ballast.slots.hold = some hold1
      ∧ (raiseNotice forcedAll hold1 running).lius.deck.slots.hold = some hold1 := by decide +kernel

/-- The planning link with an entry RESERVED for a held ENTER-CONFIG and one for a store job. -/
def reserved : State :=
  modifyLiu .planning (fun u => { u with owed := [⟨true, 8, 24⟩, ⟨false, 9, 27⟩], mark := true }) saving

theorem test_owed_answers :
    let u := (answerOwed false .slotInvalid [] false reserved).lius.planning
    u.owed = [⟨true, 8, 24⟩] ∧ u.ready = [⟨27, 9, .slotInvalid, true, [], false⟩]
      ∧ (u.summary.accepted, u.summary.refused) = (0, 1)
      ∧ (answerOwed true .done [] false reserved).lius.planning.ready = [⟨24, 8, .done, true, [], false⟩]
      ∧ answerOwed false .done [] false running = running := by decide +kernel

theorem test_reads_of_the_ship :
    Taken 23 readConditionForm .deck (msg 23 9 [5, 0]) (false, .constants) (asked .deck 23 [5, 0] running)
      ∧ (partContent running running.live .constants).map List.length = some 176
      ∧ Taken 23 readConditionForm .deck (msg 23 9 [4, 1]) (true, .cranes) (asked .deck 23 [4, 1] recalled)
      ∧ Taken 6 noFields .deck (msg 6 9 []) () (asked .deck 6 [] running)
      ∧ Taken 16 readChannelRange .deck (msg 16 9 [23, 8]) (23, 8) (asked .deck 16 [23, 8] running)
      ∧ Taken 19 noFields .deck (msg 19 9 []) () (asked .deck 19 [] running)
      ∧ Taken 2 noFields .deck (msg 2 9 []) () (asked .deck 2 [] running) := by
  unfold Taken
  decide +kernel

theorem test_reads_refused :
    Taken 23 readConditionForm .deck (msg 23 9 [5, 1]) (true, .constants) (asked .deck 23 [5, 1] running)
      ∧ codeOf (readConditionAct .deck (true, .constants) running) = some .refusedState
      ∧ codeOf (readConditionAct .deck (true, .lot 99) recalled) = some .unknownItem
      ∧ codeOf (readConditionAct .deck (false, .tanks 1 1) running) = some .unknownItem
      ∧ Taken 16 readChannelRange .deck (msg 16 9 [24, 1]) (24, 1) (asked .deck 16 [24, 1] running)
      ∧ codeOf (readChannelsAct .deck (24, 1) running) = some .unknownItem
      ∧ codeOf (readSequenceAct .deck (.step 7) running) = some .unknownItem
      ∧ codeOf (readHullAct .deck (⟨7, 3, 0, 0⟩, true) running) = some .refusedState
      ∧ codeOf (readHullAct .deck (⟨7, 0, 24, 0⟩, false) running) = some .unknownItem := by
  unfold Taken
  decide +kernel

theorem test_reads_of_the_plan :
    Taken 11 readSequenceForm .deck (msg 11 9 [0, 126, 8]) (.range 126 8) (asked .deck 11 [0, 126, 8] running)
      ∧ Taken 12 readLookRange .deck (msg 12 9 [32, 16]) (32, 16) (asked .deck 12 [32, 16] running)
      ∧ Taken 22 noFields .deck (msg 22 9 []) () (asked .deck 22 [] running)
      ∧ (after (exec (.readScheduler 5 .deck) (asked .deck 22 [] { running with hull := none, device := .hullFault
                                                                              }))).freeReads = 1 := by
  unfold Taken
  decide +kernel

theorem test_reads_of_the_store :
    Taken 36 noFields .deck (msg 36 9 []) () (asked .deck 36 [] running)
      ∧ Taken 37 noFields .deck (msg 37 9 []) () (asked .deck 37 [] running)
      ∧ Taken 38 noFields .deck (msg 38 9 []) () (asked .deck 38 [] running)
      ∧ Taken 39 readHullForm .deck (msg 39 9 [7, 3, 0, 0, 0]) (⟨7, 3, 0, 0⟩, false)
          (asked .deck 39 [7, 3, 0, 0, 0] running)
      ∧ ship.content ⟨7, 3, 0, 0⟩ = some [1, 244, 8, 8]
      ∧ Taken 39 readHullForm .deck (msg 39 9 [7, 3, 0, 0, 1]) (⟨7, 3, 0, 0⟩, true)
          (asked .deck 39 [7, 3, 0, 0, 1] { running with device := .config, working := some ship }) := by
  unfold Taken
  decide +kernel

theorem test_read_of_a_written_identity :
    let i : Identity := ⟨[65], List.replicate 8 48, [66], 2024, 2, 29⟩
    let s := asked .deck 38 [] { running with store := { running.store with identity := some i } }
    Taken 38 noFields .deck (msg 38 9 []) () s
      ∧ after (exec (.readIdentity 5 .deck) s) = answered .deck 38 (msg 38 9 []) .done
          ([1] ++ textBytes 32 [65] ++ List.replicate 8 48 ++ textBytes 24 [66] ++ [7, 232, 2, 29]
            ++ List.replicate 8 0) (handed 5 .deck s) := by
  unfold Taken
  decide +kernel

/-- R210: an index that is an enumeration is MALFORMED outside its list, in READ-HULL as in HULL-WRITE. -/
theorem test_read_hull_index_malformed :
    readWhole readHullForm [6, 3, 11, 0, 0] = none ∧ readWhole readHullForm [6, 3, 10, 0, 0] = some (⟨6, 3, 10, 0⟩, false)
      ∧ readWhole readHullForm [6, 1, 2, 0, 0] = none := by decide +kernel

/-- The running part after its first live evaluation. -/
def judged : State := run [.grant 30, .liveCompletion 40] { running with sched := { running.sched with livePending := true } }

theorem test_read_verdict :
    let s := { asked .deck 20 [0] judged with lius := (asked .deck 20 [0] judged).lius }
    Taken 20 readVerdictPart .deck (msg 20 9 [0]) .summary s ∧ s.verdict.isSome = true ∧ s.lius.deck.mark = true
      ∧ (after (exec (.readVerdict 50 .deck) s)).lius.deck.mark = false
      ∧ (after (exec (.readVerdict 50 .deck) s)).lius.ballast.mark = true
      ∧ Taken 20 readVerdictPart .deck (msg 20 9 [2, 81, 48]) (.criteria 81 48) (asked .deck 20 [2, 81, 48] judged)
      ∧ (after (exec (.readVerdict 50 .deck) (asked .deck 20 [1] running))).lius.deck.summary.refused = 1 := by
  unfold Taken
  decide +kernel

/-- R112: the OFF criterion of the last entry shows its kept margin; R63: the load point is three coordinates. -/
theorem test_off_margin_and_load_point :
    (judged.crit.getLast?.map fun e => (e.state, e.recorded, critBytes { e with margin := 7 }))
        = some (.off, none, [10, 0, 0, 1, 0, 0, 0, 7, 0])
      ∧ (ship.s5.map fun c => (hookAnswer running 1 c).drop 30) = [beS 3 80000 ++ beS 3 6000 ++ beS 3 30000] := by
  decide +kernel

theorem test_selection_and_setting :
    Taken 40 readSelection .deck (msg 40 9 [127]) 127 (asked .deck 40 [127] running)
      ∧ (after (exec (.noticeSelect 5 .deck) (asked .deck 40 [127] running))).lius.deck.selection = 127
      ∧ readWhole readSelection [128] = none
      ∧ Taken 41 readFlag .deck (msg 41 9 [1]) true (asked .deck 41 [1] running)
      ∧ (after (exec (.linkSet 5 .deck) (asked .deck 41 [1] running))).lius.deck.clearOnRead = true := by
  unfold Taken
  decide +kernel

theorem test_read_summary :
    let s := modifyLiu .deck (fun u => { u with clearOnRead := true, summary := { u.summary with refused := 255 } })
      (asked .deck 42 [] running)
    Taken 42 noFields .deck (msg 42 9 []) () s
      ∧ (after (exec (.readSummary 5 .deck) s)).lius.deck.summary = Summary.zero
      ∧ (after (exec (.readSummary 5 .deck) (asked .deck 42 [] running))).lius.deck.summary.accepted = 1 := by
  unfold Taken
  decide +kernel

/-! ## Change sets -/

theorem test_set_opened_and_continued :
    let s := asked .deck 1 (removal 0) running
    let s1 := { after (exec (.changeSetMessage 5 .deck) s) with lius := s.lius }
    Taken 1 readSetMessage .deck (msg 1 9 (removal 0)) ⟨3, false, [.lotRemove 101]⟩ s
      ∧ s1.sets.deck.open1 = some ⟨3, [.lotRemove 101]⟩ ∧ (s1.sets.deck.find 3).isSome = true
      ∧ (after (exec (.changeSetMessage 6 .deck) s1)).sets.deck.open1 = some ⟨3, [.lotRemove 101, .lotRemove 101]⟩ := by
  unfold Taken
  decide +kernel

/-- Deck sets with an open set of 31 edits and another. -/
def fullSets (n : Nat) : State :=
  { running with sets := { running.sets with
      deck := ⟨some ⟨3, List.replicate n (.lotRemove 101)⟩, some ⟨4, [.lotRemove 101]⟩, []⟩ } }

theorem test_sets_at_their_bounds :
    let go (s : State) (b : List Byte) : State := after (exec (.changeSetMessage 5 .deck) (asked .deck 1 b s))
    ((go (fullSets 31) (removal 0)).sets.deck.open1.map (·.edits.length)) = some 32
      ∧ (go (fullSets 32) (removal 0)).lius.deck.summary.refused = 1
      ∧ (go (fullSets 1) [5, 0, 1, 7, 0, 101]).lius.deck.summary.refused = 1
      ∧ ((go (fullSets 31) (removal 1)).ready.map (·.edits.length)) = [32]
      ∧ (go (fullSets 32) (removal 1)).ready = []
      ∧ (go { running with ready := List.replicate 7 ⟨.deck, 1, [.lotRemove 1]⟩ } (removal 1)).ready.length = 8
      ∧ (go { running with ready := List.replicate 8 ⟨.deck, 1, [.lotRemove 1]⟩ } (removal 1)).ready.length = 8
      ∧ (go { running with device := .hullFault } (removal 1)).ready = [] := by decide +kernel

theorem test_second_slot_opens :
    let s := { running with sets := { running.sets with deck := ⟨some ⟨4, [.lotRemove 1]⟩, none, []⟩ } }
    (after (exec (.changeSetMessage 5 .deck) (asked .deck 1 (removal 0) s))).sets.deck.open2
      = some ⟨3, [.lotRemove 101]⟩ := by decide +kernel

theorem test_set_applied_or_refused :
    (applySet ⟨.deck, 3, [.lotRemove 101]⟩ running).live.lots = [planned]
      ∧ (applySet ⟨.deck, 3, [.lotRemove 101]⟩ running).version = 1
      ∧ (applySet ⟨.deck, 3, [.lotRemove 101]⟩ running).lius.deck.summary = { Summary.zero with applied := 1 }
      ∧ (applySet ⟨.deck, 3, [.lotRemove 7]⟩ running).lius.deck.summary = { Summary.zero with refusedSets := 1 }
      ∧ (applySet ⟨.deck, 3, [.lotRemove 101, .lotRemove 7]⟩ running).live = running.live
      ∧ ((applySet ⟨.deck, 3, [.lotRemove 101, .lotRemove 7]⟩ running).sets.deck.outcomes.map (·.code))
          = [.refusedState] := by decide +kernel

/-- What edits are checked against, and what they change. -/
def env : EditEnv := running.editEnv
/-- The ship's items with an empty ring. -/
def items : EditState := { area := running.live, ring := running.ring }

theorem test_lot_edits :
    items.area.findLot 8 = none ∧ (tryEdit env items (.lotEnter 8 20000 30000 none none)).isOk = true
      ∧ items.area.findLot 7 = some planned ∧ items.area.findLot 101 = some stowed
      ∧ fits env.spaces 6000 ⟨5, ⟨46000, 9000, 80000⟩⟩ = true ∧ fits env.spaces 6000 ⟨5, ⟨45999, 0, 0⟩⟩ = false
      ∧ (tryEdit env items (.lotShift 101 ⟨5, ⟨46000, 9000, 80000⟩⟩)).isOk = true
      ∧ (tryEdit env items (.lotPlace 7 (some ⟨5, ⟨88000, 0, 0⟩⟩))).isOk = true
      ∧ (tryEdit env items (.lotDrop 7)).isOk = true ∧ (tryEdit env items (.lotRemove 101)).isOk = true := by
  decide +kernel

theorem test_item_edits :
    (tryEdit env items (.constSet 15 20000 ⟨0, 0, 0⟩)).isOk = true
      ∧ tryEdit env items (.constSet 16 1 ⟨0, 0, 0⟩) = .error .unknownItem
      ∧ (tryEdit env items (.tankState 0 800000)).isOk = true
      ∧ tryEdit env items (.tankState 0 800001) = .error .refusedRange
      ∧ tryEdit env items (.tankSource 0 .gauged) = .error .refusedState
      ∧ (tryEdit env items (.craneHeight 1 80000)).isOk = true
      ∧ (tryEdit env items (.tankDensity 0 600)).isOk = true
      ∧ (tryEdit env items (.modeSet .sea)).isOk = true := by decide +kernel

theorem test_amend_and_planned_stow :
    let at5 : Place := ⟨5, ⟨60000, 0, 5000⟩⟩
    let weighed : EditState := { items with area := { items.area with
      lots := [{ stowed with measured := some 1990, discrepancy := true }] } }
    let amended (d : Int) : Option (Option Int × Bool) :=
      match tryEdit env weighed (.lotAmend 101 (some d) none none none) with
      | .ok w => (w.area.findLot 101).map fun l => (l.measured, l.discrepancy)
      | .error _ => none
    (tryEdit env items (.lotEnter 8 1 0 (some at5) none)).isOk = true
      ∧ tryEdit env items (.lotEnter 8 1 0 (some ⟨6, ⟨0, 0, 0⟩⟩) none) = .error .unknownItem
      ∧ tryEdit env items (.lotEnter 8 0 0 (some at5) none) = .error .refusedRange
      ∧ tryEdit env items (.lotEnter 7 1 0 none none) = .error .refusedState
      ∧ amended 2000 = some (some 1990, true) ∧ amended 2001 = some (none, false)
      ∧ tryEdit env items (.lotAmend 101 none (some 30000) none none) = .error .refusedRange
      ∧ tryEdit env { items with area := items.area.putLot (stowed.toSlung 1 .ashore) } (.lotAmend 101 (some 5) none none none) = .error .refusedState
      ∧ tryEdit env items (.lotPlace 7 none) = .error .refusedState
      ∧ (tryEdit env { items with area := items.area.putLot { planned with planned := some at5 } }
          (.lotPlace 7 none)).isOk = true
      ∧ tryEdit env { items with area := items.area.putLot { planned with planned := some ⟨5, ⟨0, 0, 0⟩⟩ } }
          (.lotPlace 7 none) = .error .refusedRange := by decide +kernel

theorem test_lot_edits_refused :
    let far : Place := ⟨5, ⟨45999, 0, 0⟩⟩
    let nowhere : Place := ⟨6, ⟨60000, 0, 0⟩⟩
    let full : EditState := { items with area := { items.area with lots := List.replicate 512 stowed } }
    [tryEdit env full (.lotEnter 8 1 0 none none), tryEdit env items (.lotShift 101 far),
        tryEdit env items (.lotShift 101 nowhere), tryEdit env items (.lotShift 7 ⟨5, ⟨60000, 0, 0⟩⟩),
        tryEdit env items (.lotPlace 7 (some ⟨5, ⟨41999, 0, 0⟩⟩)), tryEdit env items (.lotPlace 7 (some nowhere)),
        tryEdit env items (.lotPlace 101 (some far)), tryEdit env items (.lotRemove 7), tryEdit env items (.lotDrop 101),
        tryEdit env items (.lotAmend 8 none none none none),
        tryEdit env items (.lotAmend 7 none none (some (some nowhere)) none)]
      = [.error .full, .error .refusedRange, .error .unknownItem, .error .refusedState, .error .refusedRange,
         .error .unknownItem, .error .refusedState, .error .refusedState, .error .refusedState, .error .unknownItem,
         .error .unknownItem] := by decide +kernel

theorem test_item_edits_refused :
    tryEdit env items (.constSet 15 20001 ⟨0, 0, 0⟩) = .error .refusedRange
      ∧ tryEdit env items (.craneHeight 2 0) = .error .unknownItem
      ∧ tryEdit env items (.craneHeight 1 80001) = .error .refusedRange
      ∧ tryEdit env items (.tankDensity 1 600) = .error .unknownItem
      ∧ tryEdit env items (.tankDensity 0 599) = .error .refusedRange
      ∧ tryEdit env { items with area := { items.area with tanks := [⟨.gauged, 0, 1025⟩] } } (.tankState 0 0)
          = .error .refusedState
      ∧ (tryEdit { env with channels := [{ Channel.blank with cfg := chan .sounding 0 0 4100 }] } items
          (.tankSource 0 .gauged)).isOk = true
      ∧ (tryEdit env items (.tankSource 0 .stated)).isOk = true := by decide +kernel

/-! ## Cargo movements -/

/-- An ATTACH of lot 101 by crane 1 for the shore. -/
def attachAshore : List Byte := be 2 101 ++ [1] ++ destBytes .ashore

/-- The ship with lot 101 SLUNG aboard, bound ashore. -/
def slung : State :=
  { running with live := (running.live.putLot (stowed.toSlung 1 .ashore)).setAttached 1 (some 101) }

theorem test_attach :
    Taken 3 readAttach .deck (msg 3 9 attachAshore) ⟨101, 1, .ashore⟩ (asked .deck 3 attachAshore running)
      ∧ nth1 running.cranes 1 = some ⟨80000, 6000, 10, 90, 10, 5, [⟨12000, 1500⟩, ⟨20000, 1200⟩, ⟨28000, 800⟩], 30000⟩
      ∧ running.live.attachedTo 1 = none ∧ stowed.state = .stowed
      ∧ (after (exec (.attach 5 .deck) (asked .deck 3 attachAshore running))).live = slung.live
      ∧ slung.live.findLot 101 = some (stowed.toSlung 1 .ashore) := by
  unfold Taken
  decide +kernel

theorem test_attach_planned :
    let d : Dest := .aboard ⟨5, ⟨60000, 0, 5000⟩⟩
    let b := be 2 7 ++ [1] ++ destBytes d
    Taken 3 readAttach .deck (msg 3 9 b) ⟨7, 1, d⟩ (asked .deck 3 b running) ∧ d.fits running.spaces 2000 = true
      ∧ (after (exec (.attach 5 .deck) (asked .deck 3 b running))).live.findLot 7 = some (planned.toSlung 1 d)
      ∧ (planned.toSlung 1 d).resting = some .ashore := by
  unfold Taken
  decide +kernel

theorem test_attach_refused :
    let go (s : State) (b : List Byte) : Nat :=
      (after (exec (.attach 5 .deck) (asked .deck 3 b s))).lius.deck.summary.refused
    go { running with device := .config } attachAshore = 1
      ∧ go running (be 2 99 ++ [1] ++ destBytes .ashore) = 1 ∧ go running (be 2 101 ++ [3] ++ destBytes .ashore) = 1
      ∧ go running (be 2 7 ++ [1] ++ destBytes .ashore) = 1
      ∧ go slung (be 2 7 ++ [1] ++ destBytes (.aboard ⟨5, ⟨60000, 0, 5000⟩⟩)) = 1
      ∧ go slung attachAshore = 1
      ∧ go running (be 2 101 ++ [1] ++ destBytes (.aboard ⟨5, ⟨45999, 0, 5000⟩⟩)) = 1 := by decide +kernel

/-- Lot 101 hanging on crane 1, bound for a destination, the peak known. -/
def lifted (d : Dest) (peak : Int) : State :=
  { running with
    live := (running.live.putLot { stowed with
      state := .lifted, place := none, crane := some 1, dest := some d }).setAttached 1 (some 101)
    tracker := [⟨peak, some peak⟩] }

theorem test_lift_off_at_the_threshold :
    nth1 slung.cranes 1 ≠ none ∧ (slung.live.lotOn 1).map (·.state) = some .slung
      ∧ ((hookOutput 1 1810 slung).live.findLot 101).map (·.state) = some .lifted
      ∧ (hookOutput 1 1810 slung).tracker = [⟨1800, some 1800⟩] ∧ (hookOutput 1 1810 slung).version = 1
      ∧ ((hookOutput 1 1809 slung).live.findLot 101).map (·.state) = some .slung
      ∧ (hookOutput 1 0 slung).tracker = [⟨0, none⟩]
      ∧ (hookOutput 1 1810 slung).lius.deck.slots.lot.isSome = true
      ∧ (hookOutput 1 1810 slung).lius.planning.slots.lot = none := by decide +kernel

theorem test_set_down_at_the_threshold :
    let s := lifted (.aboard ⟨5, ⟨60000, 0, 5000⟩⟩) 2100
    ((hookOutput 1 220 s).live.findLot 101).map (·.measured) = some (some 2100)
      ∧ ((hookOutput 1 220 s).live.findLot 101).map (·.discrepancy) = some false
      ∧ ((hookOutput 1 220 s).live.findLot 101).map (·.state) = some .slung
      ∧ ((hookOutput 1 221 s).live.findLot 101).map (·.state) = some .lifted
      ∧ ((hookOutput 1 0 (lifted .ashore 2101)).live.findLot 101).map (·.discrepancy) = some true
      ∧ ((hookOutput 1 0 (lifted .ashore 30000)).live.findLot 101).map (·.measured) = some (some 20000)
      ∧ (hookOutput 1 2200 s).tracker = [⟨2190, some 2190⟩]
      ∧ (hookOutput 1 220 s).lius.planning.slots.lot = none
      ∧ (hookOutput 1 0 (lifted .ashore 2101)).lius.planning.slots.lot.isSome = true := by decide +kernel

theorem test_detach :
    let b := be 2 101
    let go (s : State) : State := after (exec (.detach 5 .deck) (asked .deck 4 b s))
    let ashore (d : Dest) : State := { running with live := (running.live.putLot { stowed with
      state := .slung, place := none, crane := some 1, resting := some .ashore, dest := some d }).setAttached 1 (some 101) }
    Taken 4 readLotId .deck (msg 4 9 b) 101 (asked .deck 4 b slung)
      ∧ (go slung).live = running.live ∧ (go slung).version = 1
      ∧ (go (ashore .ashore)).live.lots = [planned] ∧ (go (ashore .ashore)).version = 1
      ∧ ((go (ashore (.aboard ⟨5, ⟨60000, 0, 0⟩⟩))).live.findLot 101).map (·.state) = some .planned
      ∧ (go (ashore (.aboard ⟨5, ⟨60000, 0, 0⟩⟩))).version = 0 := by
  unfold Taken
  decide +kernel

theorem test_force_land :
    let b := be 2 101
    let s := lifted (.aboard ⟨5, ⟨60000, 0, 5000⟩⟩) 2100
    let live := putChannel 0 { Channel.blank with cfg := chan .hook 1 0 3000, state := .live } s
    Taken 5 readLotId .deck (msg 5 9 b) 101 (asked .deck 5 b s) ∧ hookIsLive s.bank.channels 1 = false
      ∧ ((after (exec (.forceLand 5 .deck) (asked .deck 5 b s))).live.findLot 101).map (·.state) = some .slung
      ∧ (after (exec (.forceLand 5 .deck) (asked .deck 5 b s))).tracker = [⟨2100, none⟩]
      ∧ hookIsLive live.bank.channels 1 = true
      ∧ (after (exec (.forceLand 5 .deck) (asked .deck 5 b live))).live = live.live := by
  unfold Taken
  decide +kernel

/-! ## The ring -/

/-- A ring of `n` BALLAST steps of a link, numbered from 1. -/
def ringOf (l : Link) (n : Nat) : Ring :=
  { Ring.reset with
    entries := (List.range n).map (fun k => ⟨k + 1, l, .ballast 0 5, .pending, false⟩), nextId := n + 1 }

/-- A BALLAST step as STEP-APPEND gives it. -/
def ballastStep : List Byte := [1, 0] ++ be 3 800000

theorem test_step_append :
    let go (l : Link) (s : State) : State := after (exec (.stepAppend 5 l) (asked l 7 ballastStep s))
    Taken 7 readStepWork .ballast (msg 7 9 ballastStep) (.ballast 0 800000) (asked .ballast 7 ballastStep running)
      ∧ (go .ballast { running with ring := ringOf .ballast 126 }).ring.entries.length = 127
      ∧ (go .ballast { running with ring := ringOf .ballast 127 }).ring.entries.length = 127
      ∧ (go .planning { running with ring := ringOf .planning 118 }).ring.entries.length = 119
      ∧ (go .planning { running with ring := ringOf .planning 119 }).ring.entries.length = 119
      ∧ (go .planning { running with ring := { Ring.reset with nextId := 65535 } }).ring.nextId = 1 := by
  unfold Taken
  decide +kernel

theorem test_lot_step_append :
    let d : Dest := .aboard ⟨5, ⟨60000, 0, 5000⟩⟩
    let b := [0] ++ be 2 7 ++ destBytes d ++ [1, 1] ++ beS 3 (-100000) ++ beS 3 100000
    Taken 7 readStepWork .planning (msg 7 9 b) (.lot 7 d (some ⟨1, -100000, 100000⟩)) (asked .planning 7 b running)
      ∧ stepRight .planning (.lot 7 d (some ⟨1, -100000, 100000⟩)) = true
      ∧ (after (exec (.stepAppend 5 .planning) (asked .planning 7 b running))).ring.entries.length = 1 := by
  unfold Taken
  decide +kernel

/-- The bytes of a LOT step of the planning link by a crane. -/
def lotStep (id : Nat) (d : Dest) (c : StepCrane) : List Byte :=
  [0] ++ be 2 id ++ destBytes d ++ [1] ++ be 1 c.crane ++ beS 3 c.l ++ beS 3 c.t

/-- A refusal of R154 for each of its causes, each request good in form and with the right. -/
theorem test_step_append_refused :
    let d : Dest := .aboard ⟨5, ⟨60000, 0, 5000⟩⟩
    let full := { running with ring := ringOf .planning 119 }
    let lot (id : Nat) (d : Dest) (c : StepCrane) (s : State) (code : Code) : Prop :=
      Taken 7 readStepWork .planning (msg 7 9 (lotStep id d c)) (.lot id d (some c))
          (asked .planning 7 (lotStep id d c) s)
        ∧ stepCheck .planning (.lot id d (some c)) s = some code
    lot 7 d ⟨1, 0, 100000⟩ full .full ∧ lot 7 d ⟨1, 0, 100000⟩ { full with device := .config } .refusedState
      ∧ lot 8 d ⟨1, 0, 0⟩ full .unknownItem ∧ lot 7 d ⟨2, 0, 0⟩ full .unknownItem
      ∧ lot 7 (.aboard ⟨47, ⟨60000, 0, 5000⟩⟩) ⟨1, 0, 0⟩ full .unknownItem
      ∧ lot 7 d ⟨1, -100001, 0⟩ full .refusedRange ∧ lot 7 d ⟨1, 0, 100001⟩ full .refusedRange
      ∧ lot 7 (.aboard ⟨5, ⟨41999, 0, 5000⟩⟩) ⟨1, 0, 0⟩ full .refusedRange
      ∧ stepCheck .ballast (.ballast 1 0) full = some .unknownItem
      ∧ stepCheck .ballast (.ballast 0 8000000) full = some .refusedRange := by
  unfold Taken
  decide +kernel

theorem test_step_withdraw :
    let s := { running with ring := ringOf .planning 3 }
    let go (l : Link) (id : Nat) : State := after (exec (.stepWithdraw 5 l) (asked l 8 (be 2 id) s))
    Taken 8 (readNat 2) .planning (msg 8 9 (be 2 1)) 1 (asked .planning 8 (be 2 1) s)
      ∧ (s.ring.find 1).map (·.status) = some .pending
      ∧ (go .planning 1).ring.entries.map (·.id) = [2, 3] ∧ (go .planning 1).ring.version = 2
      ∧ (go .planning 2).ring.entries.map (·.status) = [.pending, .withdrawn, .pending]
      ∧ (go .ballast 1).ring = s.ring ∧ (go .planning 4).ring = s.ring := by
  unfold Taken
  decide +kernel

theorem test_step_done :
    let s := { running with ring := ringOf .planning 2 }
    let s2 := { s with ring := s.ring.mark (fun e => e.id == 2) Step.withdraw }
    let go (s : State) (id : Nat) : State :=
      after (exec (.stepDone 5 .ballast) (asked .ballast 9 (be 2 id ++ [1]) s))
    Taken 9 readStepDone .ballast (msg 9 9 (be 2 2 ++ [1])) (2, true) (asked .ballast 9 (be 2 2 ++ [1]) s)
      ∧ (go s 2).ring.entries.map (·.deviation) = [false, true] ∧ (go s 3).ring = s.ring
      ∧ (go s2 2).ring = s2.ring ∧ (go s2 1).ring.entries = [] := by
  unfold Taken
  decide +kernel

theorem test_seq_set :
    let b := [1, 32, 1, 16]
    let go (s : State) (b : List Byte) : State := after (exec (.seqSet 5 .planning) (asked .planning 10 b s))
    Taken 10 readSeqSet .planning (msg 10 9 b) (some 32, some 16) (asked .planning 10 b running)
      ∧ ((go running b).ring.guard, (go running b).ring.depth, (go running b).ring.version) = (32, 16, 1)
      ∧ (go running [1, 33, 0, 0]).ring = Ring.reset ∧ (go running [0, 0, 1, 0]).ring = Ring.reset
      ∧ (go { running with ring := ringOf .planning 1 } [1, 0, 0, 0]).ring.guard = 8
      ∧ (go { running with ring := ringOf .planning 1 } [1, 8, 1, 1]).ring.depth = 1 := by
  unfold Taken
  decide +kernel

theorem test_heads_leave :
    let r := (ringOf .planning 4).mark (fun e => e.id == 2) Step.withdraw
    let r' := r.mark (fun e => e.id == 1) Step.withdraw
    r.entries.length = 4 ∧ r'.entries.map (·.id) = [3, 4] ∧ r'.readIdx = 2 ∧ r'.version = 4
      ∧ ({ r with readIdx := 127 }.mark (fun e => e.id == 1) Step.withdraw).readIdx = 1 := by decide +kernel

/-! ## Sample channels -/

/-- A channel of the running part, changed. -/
def withChannel (k : Nat) (f : Channel → Channel) (s : State) : State :=
  { s with bank := { s.bank with channels := s.bank.channels.modify k f } }

/-- A sample frame. -/
def frame (ch : Byte) (v : Int) : RxUnit :=
  rx (ch :: beS 3 v ++ [crc8 (ch :: beS 3 v)])

/-- CHANNEL-SET of channel 3 as the sounding gauge of tank 0. -/
def gauge : List Byte :=
  [3, 1, 3, 0, 32] ++ beS 3 0 ++ beS 3 4100 ++ be 2 20 ++ [255] ++ [0, 0, 0, 0] ++ [1] ++ beS 3 100 ++ beS 3 5 ++ [15]

/-- The configuration that `gauge` gives. -/
def gaugeCfg : ChannelCfg :=
  { binding := some ⟨.sounding, 0⟩, enable := false, al := 32, min := 0, max := 4100, stale := 20, rail := 255
    high := none, low := some 100, band := 5, mask := ⟨true, true, true, true⟩ }

theorem test_channel_set :
    Taken 13 readChannelSet .planning (msg 13 9 gauge) (3, gaugeCfg) (asked .planning 13 gauge running)
      ∧ gaugeCfg.inRange = true
      ∧ ((after (exec (.channelSet 5 .planning) (asked .planning 13 gauge running))).bank.channels[3]?.map (·.cfg))
          = some gaugeCfg
      ∧ ((after (exec (.channelSet 5 .planning) (asked .planning 13 gauge
          (withChannel 3 (fun c => { c with state := .stale }) running)))).bank.channels[3]?.map (·.cfg.al)) = some 4 := by
  unfold Taken
  decide +kernel

/-- The refusals of CHANNEL-SET in their order, each check met by a state that passes those before it. -/
theorem test_channel_set_refused :
    let code (k : Nat) (c : ChannelCfg) (s : State) : Option Code := codeOf (channelSetAct .planning (k, c) s)
    let gauged := { running.live with tanks := [⟨.gauged, 500000, 1025⟩] }
    let other (b : Option Binding) : ChannelCfg := { gaugeCfg with binding := b }
    code 3 gaugeCfg { running with device := .config } = some .refusedState ∧ code 24 gaugeCfg running = some .unknownItem
      ∧ code 3 (other (some ⟨.hook, 2⟩)) running = some .unknownItem
      ∧ code 3 (other (some ⟨.hook, 1⟩)) running = some .refusedState
      ∧ code 3 (other none) (withChannel 3 (fun c => { c with cfg := gaugeCfg }) { running with live := gauged })
          = some .refusedState
      ∧ code 3 (other (some ⟨.hook, 1⟩)) (withChannel 0 (fun c => { c with cfg := unbound }) slung) = some .refusedState
      ∧ code 0 (other none) slung = some .refusedState
      ∧ code 3 { gaugeCfg with al := 33 } running = some .refusedRange
      ∧ code 3 { gaugeCfg with stale := 19 } running = some .refusedRange
      ∧ code 3 { gaugeCfg with high := some 100 } running = some .refusedRange
      ∧ codeOf (channelEnableAct .planning 24 running) = some .unknownItem
      ∧ codeOf (channelDisableAct .planning 24 running) = some .unknownItem
      ∧ codeOf (channelDisableAct .planning 0 { running with device := .config }) = some .refusedState := by decide +kernel

theorem test_channel_enable :
    let go (k : Byte) (s : State) : State := after (exec (.channelEnable 5 .planning) (asked .planning 14 [k] s))
    Taken 14 (readNat 1) .planning (msg 14 9 [0]) 0 (asked .planning 14 [0] running)
      ∧ ((go 0 running).bank.channels[0]?.map (·.state)) = some .filling
      ∧ ((go 0 running).bank.channels[0]?.map (·.timer)) = some (some 1005)
      ∧ (go 3 running).bank = running.bank
      ∧ (go 0 (withChannel 0 (fun c => { c with state := .rail }) running)).bank
          = (withChannel 0 (fun c => { c with state := .rail }) running).bank := by
  unfold Taken
  decide +kernel

theorem test_channel_disable :
    let s := withChannel 0 (fun c => { c with state := .live, watch := .high, cfg := { c.cfg with mask := ⟨false, true, false, false⟩ } })
      { running with published := true }
    let go (s : State) : State := after (exec (.channelDisable 5 .planning) (asked .planning 15 [0] s))
    Taken 15 (readNat 1) .planning (msg 15 9 [0]) 0 (asked .planning 15 [0] s)
      ∧ ((go s).bank.channels[0]?.map (·.watch)) = some .clear ∧ (go s).holds.b.asserted = false
      ∧ (go (withChannel 0 (fun c => { c with watch := .clear }) s)).holds.b.asserted = true
      ∧ (go running).bank = running.bank := by
  unfold Taken
  decide +kernel

/-- A watch that was HIGH is told of as it becomes CLEAR, and the line of its mask is released. -/
theorem test_channel_disable_told :
    let s := recomputeAll (withChannel 0 (fun c => { c with
      state := .live, watch := .high, cfg := { c.cfg with mask := ⟨false, true, false, false⟩ } }) judged)
    let s' := (channelDisableAct .planning 0 (heeding .deck s)).1
    s.holds.b.asserted = true ∧ s'.holds.b.asserted = false ∧ s'.holds.a = s.holds.a
      ∧ s'.lius.deck.slots.channel = some (.channel ⟨0, some ⟨.hook, 1⟩, false, false, false, true, .disabled, 0, true,
          .clear⟩) := by decide +kernel

theorem test_frames_to_no_channel :
    exec (.sampleFrame 5 (frame 0 9)) starting = .next starting ∧ frameOf (rx [0, 0, 0, 9, 0]) = none
      ∧ (after (exec (.sampleFrame 5 (rx [0, 0, 0, 9, 0])) running)).bank.errors = 1
      ∧ (after (exec (.sampleFrame 5 (frame 24 9)) running)).bank.errors = 1
      ∧ (after (exec (.sampleFrame 5 (rx [])) { running with bank := { running.bank with errors := 65535 } })).bank.errors
          = 65535
      ∧ (after (exec (.sampleFrame 5 (frame 0 9)) running)).bank = running.bank := by
  refine ⟨rfl, ?_⟩
  decide +kernel

theorem test_samples_fill_a_block :
    let s := withChannel 0 (fun c => { c with state := .filling, cfg := { c.cfg with al := 4 } }) running
    let go (n : Nat) (v : Int) : State := run ((List.range n).map fun k => .sampleFrame k (frame 0 v)) s
    frameOf (frame 0 7) = some (0, 7) ∧ frameOf (frame 0 (-7)) = some (0, -7)
      ∧ ((go 3 7).bank.channels[0]?.map (fun c => (c.state, c.sum, c.count))) = some (.filling, 21, 3)
      ∧ ((go 4 7).bank.channels[0]?.map (fun c => (c.state, c.value, c.count, c.held))) = some (.live, 7, 0, false)
      ∧ ((go 2 9000).bank.channels[0]?.map (fun c => (c.state, c.railRun))) = some (.filling, 2)
      ∧ ((go 3 9000).bank.channels[0]?.map (fun c => (c.state, c.railRun, c.count))) = some (.rail, 0, 0) := by
  decide +kernel

/-- The example of chapter 4: four samples of a HOOK channel with AL 4 give their mean. -/
theorem test_block_mean :
    let s := withChannel 0 (fun c => { c with state := .filling, cfg := { c.cfg with al := 4 } }) running
    ((run [.sampleFrame 1 (frame 0 10), .sampleFrame 2 (frame 0 11), .sampleFrame 3 (frame 0 11),
        .sampleFrame 4 (frame 0 10)] s).bank.channels[0]?.map (·.value)) = some 11 := by decide +kernel

theorem test_rail_and_recovery_samples :
    let s (st : ChanState) (al : Nat) : State :=
      withChannel 0 (fun c => { c with state := st, cfg := { c.cfg with al := al } }) running
    let go (s : State) (v : Int) : Option (ChanState × Int × Nat × Nat) :=
      (after (exec (.sampleFrame 5 (frame 0 v)) s)).bank.channels[0]?.map fun c => (c.state, c.value, c.count, c.railRun)
    [go (s .rail 4) 3000, go (s .rail 4) 0, go (s .rail 4) 7, go (s .rail 1) 7, go (s .stale 4) 7, go (s .stale 1) 7,
        go (s .stale 4) 3000]
      = [some (.rail, 0, 0, 0), some (.rail, 0, 0, 0), some (.filling, 0, 1, 0), some (.live, 7, 0, 0),
         some (.filling, 0, 1, 0), some (.live, 7, 0, 0), some (.filling, 0, 1, 1)] := by decide +kernel

/-- A block output of a HOOK channel lifts the lot, and one that moves the watch moves the line of its mask. -/
theorem test_output_handed_over :
    let s := withChannel 0 (fun c => { c with
      state := .filling, cfg := { c.cfg with high := some 1800, mask := ⟨false, true, false, false⟩ } })
      { slung with hull := some ship }
    let s' := after (exec (.sampleFrame 5 (frame 0 1810)) s)
    (s'.bank.channels[0]?.map fun c => (c.state, c.watch)) = some (.live, .high)
      ∧ ((s'.live.findLot 101).map (·.state)) = some .lifted ∧ (s'.holdWatches .b) = [0] := by decide +kernel

theorem test_stale_timer :
    let s := withChannel 0 (fun c => { c with state := .live, timer := some 1005 }) running
    ((after (exec (.staleTimerExpiry 1005 0) s)).bank.channels[0]?.map (fun c => (c.state, c.held, c.timer)))
        = some (.stale, true, none)
      ∧ after (exec (.staleTimerExpiry 1004 0) s) = s ∧ after (exec (.staleTimerExpiry 9 0) running) = running := by
  decide +kernel

theorem test_watch_table :
    let c := { ChannelCfg.blank with high := some 100, low := some 10, band := 5 }
    watchNext c .clear 100 = .high ∧ watchNext c .clear 10 = .low ∧ watchNext c .clear 99 = .clear
      ∧ watchNext c .high 96 = .high ∧ watchNext c .high 95 = .clear ∧ watchNext c .high 10 = .low
      ∧ watchNext c .low 14 = .low ∧ watchNext c .low 15 = .clear ∧ watchNext c .low 100 = .high
      ∧ watchNext ChannelCfg.blank .clear 5 = .clear := by decide +kernel

/-! ## Hold lines -/

/-- A latched line A with no kind assigned to it, in RUN after a verdict. -/
def latchedA : State :=
  { judged with
    hull := some { ship with s7 := { ship.s7 with masks := [] } }
    holds := { judged.holds with a := ⟨true, true, none, none⟩ } }

/-- Channel 0 with a HIGH watch that holds line A. -/
def watched (s : State) : State :=
  withChannel 0 (fun c => { c with watch := .high, cfg := { c.cfg with mask := ⟨true, false, false, false⟩ } }) s

theorem test_hold_ack :
    let go (s : State) : State := after (exec (.holdAck 50 .deck) (asked .deck 17 [0] s))
    Taken 17 (readEnum allLines) .deck (msg 17 9 [0]) .a (asked .deck 17 [0] latchedA)
      ∧ (latchedA.causesOf .a).latches = false ∧ (go latchedA).holds.a = ⟨false, false, none, none⟩
      ∧ (go { latchedA with published := false }).holds.a = ⟨false, true, none, none⟩
      ∧ (go running).holds.a = running.holds.a
      ∧ ((watched latchedA).causesOf .a).watches = [0] ∧ (go (watched latchedA)).holds.a = latchedA.holds.a := by
  unfold Taken
  decide +kernel

theorem test_timed_hold :
    let b (n : Nat) : List Byte := [1] ++ be 2 n
    let go (n : Nat) (s : State) : State := after (exec (.timedHold 50 .deck) (asked .deck 18 (b n) s))
    Taken 18 readTimedHold .deck (msg 18 9 (b 600)) (.b, 600) (asked .deck 18 (b 600) judged)
      ∧ (go 600 judged).holds.b.deckTimer = some 600050 ∧ (go 600 judged).holds.b.asserted = true
      ∧ (go 601 judged).holds = judged.holds ∧ (go 0 judged).holds = judged.holds
      ∧ (go 0 { go 1 judged with lius := judged.lius }).holds.b.deckTimer = none := by
  unfold Taken
  decide +kernel

/-- Line B held by the deck's timer until 900 ms. -/
def held : State := recomputeAll { judged with holds := { judged.holds with b := ⟨false, true, some 900, none⟩ } }

theorem test_timed_hold_expiry :
    held.holds.b.deckTimer = some 900 ∧ held.holds.b.asserted = true
      ∧ (after (exec (.timedHoldExpiry 900 .deck .b) held)).holds.b = ⟨false, false, none, none⟩
      ∧ after (exec (.timedHoldExpiry 899 .deck .b) held) = held := by decide +kernel

theorem test_link_reset_raises_hold :
    (after (exec (.linkReset 60 .deck) held)).lius.deck.slots.hold.isSome = true
      ∧ (after (exec (.linkReset 60 .deck) held)).lius.deck.summary = Summary.zero := by decide +kernel

theorem test_line_output :
    held.holds.b.conducts = false
      ∧ (after (exec (.timedHoldExpiry 900 .deck .b) held)).holds.b.conducts = true
      ∧ (after (exec (.powerOn 900 ⟨0, false⟩) held)).holds.b.conducts = false := by decide +kernel

theorem test_held_stands : held.linesStand := by
  refine ⟨fun h => ?_, ?_⟩
  · unfold State.lineStands
    cases h <;> decide +kernel
  · unfold State.watchesRest
    decide +kernel

/-- A TIMED-HOLD of 0 s releases a line that its timer alone held, and not one that its mark holds. -/
theorem test_timed_hold_stopped :
    let s := asked .deck 18 [1, 0, 0] held
    let marked := { held with holds := { held.holds with a := ⟨true, true, some 900, none⟩ } }
    let s' := after (exec (.timedHold 50 .deck) s)
    s.linesStand ∧ Taken 18 readTimedHold .deck (msg 18 9 [1, 0, 0]) (.b, 0) s
      ∧ s'.holds.b = ⟨false, false, none, none⟩
      ∧ (timedHoldAct .deck (.a, 0) marked).1.holds.a = ⟨true, true, none, none⟩ := by
  refine ⟨⟨fun h => ?_, ?_⟩, ?_⟩
  · unfold State.lineStands
    cases h <;> decide +kernel
  · unfold State.watchesRest
    decide +kernel
  · unfold Taken
    decide +kernel

theorem test_line_recomputed :
    (recompute .c { judged with published := false }).holds.c.asserted = true
      ∧ (recompute .b judged).lius = judged.lius := by decide +kernel

/-! ## Live requests and configuration -/

/-- A live evaluation under way. -/
def computing : State := run [.grant 30] { running with sched := { running.sched with livePending := true } }

theorem test_evaluate_now :
    let go (s : State) : State := after (exec (.evaluateNow 50 .deck) (asked .deck 21 [] s))
    Taken 21 noFields .deck (msg 21 9 []) () (asked .deck 21 [] running) ∧ computing.liveComputing = true
      ∧ (go running).sched.causes = 2 ∧ (go { running with device := .config }).sched.causes = 0
      ∧ (go { computing with serial := 65534 }).sched.livePending = true
      ∧ { computing with serial := 65534 }.expectedSerial = 1 := by
  unfold Taken
  decide +kernel

theorem test_periodic_timer :
    let s := { running with sched := { running.sched with periodic := some 530 } }
    (after (exec (.periodicTimerExpiry 530) s)).sched = { Sched.reset with livePending := true, causes := 1 }
      ∧ after (exec (.periodicTimerExpiry 529) s) = s
      ∧ (after (exec (.periodicTimerExpiry 530) { s with device := .config })).sched = Sched.reset := by decide +kernel

/-- The part in CONFIG with an unchanged working copy. -/
def configuring : State := { running with device := .config, working := some ship }

theorem test_enter_config :
    let go (s : State) : State := after (exec (.enterConfig 50 .planning) (asked .planning 24 [] s))
    Taken 24 noFields .planning (msg 24 9 []) () (asked .planning 24 [] running) ∧ running.live.anyInHand = false
      ∧ (go running).device = .config ∧ (go running).working = some ship ∧ (go running).holds.a.asserted = true
      ∧ (go slung).device = .run ∧ (go saving).device = .run ∧ (go configuring).working = some ship
      ∧ (go computing).device = .run ∧ (go computing).sched.heldEnter = true
      ∧ (go computing).lius.planning.owed = [⟨true, 9, 24⟩] := by
  unfold Taken
  decide +kernel

/-- An ENTER-CONFIG held behind a live evaluation. -/
def holding : State := after (exec (.enterConfig 50 .planning) (asked .planning 24 [] computing))

theorem test_enter_config_held :
    after (exec (.heldEnterConfig 60) holding) = holding ∧ after (exec (.heldEnterConfig 60) running) = running
      ∧ (run [.liveCompletion 60, .heldEnterConfig 60] holding).device = .config
      ∧ (run [.liveCompletion 60, .heldEnterConfig 60] { holding with live := slung.live }).device = .run
      ∧ (run [.liveCompletion 60, .heldEnterConfig 60] { holding with
          store := { holding.store with job := some .freeze } }).device = .run
      ∧ (run [.liveCompletion 60, .heldEnterConfig 60] holding).lius.planning.owed = [] := by decide +kernel

/-- SETTINGS of 100 ms, guard 32 and depth 16. -/
def settings : List Byte := [7, 3, 0, 0] ++ be 2 100 ++ [32, 16]

theorem test_hull_write :
    let go (b : List Byte) (s : State) : State := after (exec (.hullWrite 50 .planning) (asked .planning 25 b s))
    Taken 25 readHullItem .planning (msg 25 9 settings) (.settings 100 32 16) (asked .planning 25 settings configuring)
      ∧ ((go settings configuring).working.map (fun w => (w.s7.period, w.s7.guard, w.s7.depth))) = some (100, 32, 16)
      ∧ (go ([7, 3, 0, 0] ++ be 2 99 ++ [32, 16]) configuring).working = some ship
      ∧ (go ([6, 3, 10, 0] ++ beS 4 0 ++ beS 4 7) configuring).working.map (·.s6.bands.getLastD ⟨0, 0⟩) = some ⟨0, 7⟩
      ∧ (go ([1, 1, 2, 0] ++ List.replicate 22 1) configuring).working = some ship
      ∧ HullItem.inRange (.station 0 ⟨-1, 0, 0⟩) = false ∧ HullItem.inRange (.station 0 ⟨0, 0, 0⟩) = true
      ∧ (go settings { configuring with store := { configuring.store with job := some .freeze } }).working = some ship
      ∧ (go settings { configuring with store := { configuring.store with
          lockSections := List.replicate 8 true } }).working = some ship
      ∧ (go settings running).working = none := by
  unfold Taken
  decide +kernel

/-- CONFIG with another evaluation period in the working copy. -/
def edited : State := { configuring with working := some { ship with s7 := { ship.s7 with period := 1000 } } }

theorem test_leave_config :
    let go (s : State) : State := after (exec (.leaveConfig 50 .planning) (asked .planning 26 [] s))
    Taken 26 noFields .planning (msg 26 9 []) () (asked .planning 26 [] configuring) ∧ configuring.toWrite ship = []
      ∧ (go configuring).device = .run ∧ (go configuring).working = none ∧ (go configuring).sched.causes = 1
      ∧ (go edited).store.job = some (.leaveConfig [7]) ∧ (go edited).device = .config
      ∧ (go { configuring with working := some { ship with s3 := [] } }).device = .config
      ∧ (go running).device = .run
      ∧ (go { edited with device := .hullFault, hull := none }).store.job.isSome = true
      ∧ (go { edited with device := .hullFault, hull := none, working := some { ship with s3 := [] } }).store.job
          = none := by
  unfold Taken
  decide +kernel

/-- A LEAVE-CONFIG write of section 7. -/
def writing : State := { edited with store := { edited.store with job := some (.leaveConfig [7]) } }

theorem test_leave_config_write_end :
    let s := after (exec (.leaveConfigWriteEnd 60 none) writing)
    let f := after (exec (.leaveConfigWriteEnd 60 (some 7)) writing)
    let h := after (exec (.leaveConfigWriteEnd 60 none) { writing with device := .hullFault })
    (s.device, s.version, s.hull.map (·.s7.period), s.store.sections.s7.map (·.period))
        = (.run, 1, some 1000, some 1000)
      ∧ s.store.lastJob = some ⟨.leaveConfig, some (.sec 7), .done⟩
      ∧ (f.device, f.store.sections.s7, f.store.writeError, f.store.job) = (.config, none, true, none)
      ∧ (h.device, h.store.restart, h.store.job) = (.hullFault, some ⟨1060, false⟩, none)
      ∧ (after (exec (.leaveConfigWriteEnd 60 none) { writing with owner := .recalled })).owner = .empty := by
  decide +kernel

/-- The end of a LEAVE-CONFIG write answers and tells of the job; a waiting ADOPT it cancels is told last. -/
theorem test_leave_config_told :
    let awaited (s : State) : State :=
      modifyLiu .planning (fun u => { u with owed := [⟨false, 9, 26⟩], inBreak := true, selection := 127#7 }) s
    let ends (f : Option Nat) (s : State) : Liu := (after (exec (.leaveConfigWriteEnd 60 f) (awaited s))).lius.planning
    (ends none writing).ready = [⟨26, 9, .done, false, sectionSet [7], false⟩]
      ∧ (ends none writing).slots.archive
          = some (.archive ⟨.leaveConfig, some (.sec 7), .done, none, false, .empty, 1⟩)
      ∧ (ends none { writing with owner := .recalled, store := { writing.store with waitingAdopt := true } }).slots.archive
          = some (.archive ⟨.adopt, none, .refusedState, none, false, .empty, 1⟩)
      ∧ ((ends (some 7) writing).ready.map (·.code), (ends (some 7) writing).owed) = ([.hullInvalid], [])
      ∧ (ends none { writing with device := .hullFault }).ready.map (·.restart) = [true] := by decide +kernel

theorem test_leave_config_busy :
    let go (s : State) : Nat :=
      (after (exec (.leaveConfig 50 .planning) (asked .planning 26 [] s))).lius.planning.summary.refused
    go writing = 1 ∧ go { configuring with store := { configuring.store with restart := some ⟨99, false⟩ } } = 1 := by
  decide +kernel

theorem test_reset_in_a_leave_config :
    let s := { edited with store := { edited.store with job := some (.leaveConfig [0, 7]) } }
    let sections (c : WriteCut) : StoredHull := (after (exec (.powerOn 60 c) s)).store.sections
    (sections ⟨0, false⟩) = s.store.sections ∧ ((sections ⟨0, true⟩).s0, (sections ⟨0, true⟩).s7) = (none, some ship.s7)
      ∧ ((sections ⟨1, true⟩).s0, (sections ⟨1, true⟩).s7) = (some ship.s0, none)
      ∧ ((sections ⟨2, true⟩).s7.map (·.period)) = some 1000 := by decide +kernel

theorem test_reset_in_other_jobs :
    let kept (j : Job) : Bool :=
      let s := { running with store := { running.store with job := some j } }
      let st := (after (exec (.resetLine 60 ⟨0, true⟩) s)).store
      st.sections == s.store.sections && st.slots == s.store.slots && st.lockSlots == s.store.lockSlots
    (kept (.recall 4) && kept (.selfCheck 4 none) && kept (.lock (.slot 4)) && kept .freeze
      && kept (.identityWrite ⟨[65], List.replicate 8 48, [66], 2024, 2, 29⟩)) = true := by decide +kernel

/-! ## Archive, marks, identity -/

/-- An image with one stowed lot. -/
def image : Image := ⟨[stowed], List.replicate 16 ConstItem.absent, [⟨.stated, 500000, 1025⟩], .harbour, 7, 3⟩

/-- The reference of two stations. -/
def ref2 : Reference := ⟨42000, 60000, 0, 8000, 900, 0, [⟨100, 50⟩, ⟨100, 50⟩]⟩

/-- Slot 4 holds an image with a reference, slot 5 one without, slot 6 is bad. -/
def archived : State :=
  { running with store := { running.store with
      slots := ((running.store.slots.set 4 (.good image (some ref2))).set 5 (.good image none)).set 6 .bad
      directory := ((running.store.directory.set 4 (.valid (some 2) 1 7 3)).set 5 (.valid none 1 7 3)).set 6 .invalid } }

theorem test_save :
    let go (s : State) : State := after (exec (.save 50 .planning) (asked .planning 27 [15] s))
    Taken 27 readSlot .planning (msg 27 9 [15]) 15 (asked .planning 27 [15] running)
      ∧ (go running).store.job = some (.save 15 0 0) ∧ (go running).trial = running.live
      ∧ (go saving).store.job = some (.save 4 7 3) ∧ (go recalled).store.job = none
      ∧ (go { running with store := { running.store with lockSlots := List.replicate 16 true } }).store.job = none
      ∧ readWhole readSlot [16] = none := by
  unfold Taken
  decide +kernel

theorem test_save_end :
    let s := { saving with trial := running.live }
    (after (exec (.saveEnd 60 true) s)).store.slots.getD 4 .bad = .good image none
      ∧ (after (exec (.saveEnd 60 true) s)).owner = .empty
      ∧ (after (exec (.saveEnd 60 false) s)).store.slots.getD 4 .empty = .bad
      ∧ (after (exec (.saveEnd 60 false) s)).store.writeError = true := by decide +kernel

/-- The refusals of SAVE in their order. -/
theorem test_save_refused :
    let code (s : State) : Option Code := codeOf (saveAct .planning 15 s)
    let locks (s : State) : State := { s with store := { s.store with lockSlots := List.replicate 16 true } }
    code (locks { saving with device := .hullFault }) = some .refusedState ∧ code (locks saving) = some .busy
      ∧ code (locks recalled) = some .locked ∧ code recalled = some .refusedState ∧ code running = none := by
  decide +kernel

/-- The end of a SAVE gives the owed answer, marked as it then stands, and an ARCHIVE notice. -/
theorem test_save_end_told :
    let s := modifyLiu .planning (fun u => { u with inBreak := true })
      { reserved with trial := running.live }
    let u (ok : Bool) : Liu := (after (exec (.saveEnd 60 ok) (heeding .planning s))).lius.planning
    (u true).ready = [⟨27, 9, .done, true, [0, 1, 0, 0, 0, 7, 0, 3], false⟩]
      ∧ (u false).ready = [⟨27, 9, .slotInvalid, true, [], false⟩]
      ∧ (u true).owed = [⟨true, 8, 24⟩]
      ∧ (u true).slots.archive = some (.archive ⟨.save, some (.slot 4), .done, none, false, .empty, 0⟩)
      ∧ (u false).slots.archive = some (.archive ⟨.save, some (.slot 4), .slotInvalid, none, true, .empty, 0⟩) := by
  decide +kernel

theorem test_recall :
    let go (n : Byte) : State := after (exec (.recall 50 .planning) (asked .planning 28 [n] archived))
    let ends (ok : Bool) (n : Byte) : State := after (exec (.recallReadEnd 60 ok) (go n))
    Taken 28 readSlot .planning (msg 28 9 [4]) 4 (asked .planning 28 [4] archived)
      ∧ (go 4).store.job = some (.recall 4) ∧ (go 4).owner = .archive
      ∧ image.fitsHull archived.spaces archived.tanks = true
      ∧ (ends true 4).owner = .recalled ∧ (ends true 4).trial.lots = [stowed]
      ∧ (ends true 0).store.lastJob = some ⟨.recall, some (.slot 0), .unknownItem⟩
      ∧ (ends false 4).store.slots.getD 4 .empty = .bad
      ∧ (ends true 6).store.lastJob = some ⟨.recall, some (.slot 6), .slotInvalid⟩ := by
  unfold Taken
  decide +kernel

theorem test_recall_refused_and_unfit :
    let go (s : State) : State := after (exec (.recall 50 .planning) (asked .planning 28 [4] s))
    let unfit := { go archived with hull := some { ship with s3 := [] } }
    let s := after (exec (.recallReadEnd 60 true) unfit)
    (go { archived with device := .hullFault }).store.job = none ∧ (go saving).store.job = saving.store.job
      ∧ (go { archived with owner := .recalled }).store.job = none
      ∧ image.fitsHull unfit.spaces unfit.tanks = false
      ∧ s.store.lastJob = some ⟨.recall, some (.slot 4), .slotInvalid⟩
      ∧ (s.store.slots = archived.store.slots ∧ s.owner = .empty) := by decide +kernel

theorem test_self_check :
    let go (n : Byte) : State := after (exec (.selfCheck 50 .planning) (asked .planning 29 [n] archived))
    let s := run [.selfCheckReadEnd 60 true, .grant 61, .selfCheckCompletion 62] (go 4)
    Taken 29 readSlot .planning (msg 29 9 [4]) 4 (asked .planning 29 [4] archived)
      ∧ (after (exec (.selfCheckReadEnd 60 true) (go 4))).sched.selfCheckWaiting = true
      ∧ (after (exec (.selfCheckReadEnd 60 true) (go 5))).store.lastJob
          = some ⟨.selfCheck, some (.slot 5), .refusedState⟩
      ∧ (s.owner, s.store.job, s.unit) = (.empty, none, none)
      ∧ s.store.lastJob = some ⟨.selfCheck, some (.slot 4), .done⟩ := by
  unfold Taken
  decide +kernel

/-- The refusals of SELF-CHECK, and the reads that end it. -/
theorem test_self_check_refused :
    let go (n : Byte) (s : State) : State := after (exec (.selfCheck 50 .planning) (asked .planning 29 [n] s))
    let last (ok : Bool) (n : Byte) (s : State) : Option Code :=
      (after (exec (.selfCheckReadEnd 60 ok) (go n s))).store.lastJob.map (·.code)
    let other := { archived with store := { archived.store with
      slots := archived.store.slots.set 4 (.good image (some { ref2 with stations := [] })) } }
    codeOf (selfCheckAct .planning 4 { saving with device := .hullFault }) = some .refusedState
      ∧ codeOf (selfCheckAct .planning 4 saving) = some .busy
      ∧ (go 4 { archived with owner := .recalled, store := { archived.store with waitingAdopt := true } }).store.waitingAdopt
          = false
      ∧ [last true 0 archived, last true 6 archived, last false 4 archived, last true 5 archived, last true 4 other]
          = [some .unknownItem, some .slotInvalid, some .slotInvalid, some .refusedState, some .refusedState] := by
  decide +kernel

/-- A self-check that fails answers with the first quantity out and both values, one that passes with PASS. -/
theorem test_self_check_verdict :
    let snap : Snapshot := ⟨.trial, none, running.live, ship, [CraneTerm.zero], [], none⟩
    let r := evaluate snap
    let same : Reference := ⟨r.delta, r.lcg, r.tcg, r.kgc, r.gm, r.trim, r.strength.map fun x => ⟨x.sf, x.bm⟩⟩
    let s (ref : Reference) : State := { reserved with
      owner := .archive, unit := some (Computing.granted .selfCheck snap)
      store := { running.store with job := some (.selfCheck 4 (some ref)) } }
    let ends (ref : Reference) : State :=
      after (exec (.selfCheckCompletion 60) (modifyLiu .planning (fun u => { u with inBreak := true }) (s ref)))
    let answer (ref : Reference) : List (Code × List Byte) :=
      (ends ref).lius.planning.ready.map fun a => (a.code, a.body.take 12)
    answer same = [(.done, List.replicate 12 0)]
      ∧ answer { same with lcg := r.lcg + 6 }
          = [(.done, [1, 1] ++ be 1 Quantity.lcg.num ++ [0, 0] ++ beS 4 r.lcg ++ (beS 4 (r.lcg + 6)).take 3)]
      ∧ (ends same).store.job = none := by decide +kernel

theorem test_self_check_tolerances :
    let r := evaluate { source := .trial, ident := none, area := running.live, hull := ship, cranes := [CraneTerm.zero]
                        soundings := [], heel := none }
    let same : Reference := ⟨r.delta + 2, r.lcg - 5, r.tcg, r.kgc + 5, r.gm, r.trim, r.strength.map fun x => ⟨x.sf + 120, x.bm - 120⟩⟩
    firstOut (comparisons lims r same) = none ∧ (firstOut (comparisons lims r { same with delta := r.delta + 3 })).isSome = true
      ∧ (firstOut (comparisons lims r { same with stations := r.strength.map fun x => ⟨x.sf + 121, x.bm⟩ })).map (·.quantity)
          = some .sf := by decide +kernel

/-- REFERENCE-WRITE of slot 5. -/
def refBytes : List Byte :=
  [0, 5] ++ beS 4 42000 ++ beS 4 60000 ++ beS 4 0 ++ beS 4 8000 ++ beS 4 900 ++ beS 2 0 ++ [2]
    ++ beS 4 100 ++ beS 4 50 ++ beS 4 100 ++ beS 4 50

theorem test_reference_write :
    let s := { archived with device := .config, working := some ship }
    let g := after (exec (.referenceWrite 50 .planning) (asked .planning 30 refBytes s))
    Taken 30 readReference .planning (msg 30 9 refBytes) (5, some ref2) (asked .planning 30 refBytes s)
      ∧ g.store.job = some (.referenceWrite 5 (some ref2)) ∧ g.store.directory.getD 5 .empty = .invalid
      ∧ (after (exec (.referenceWriteEnd 60 true) g)).store.slots.getD 5 .bad = .good image (some ref2)
      ∧ (after (exec (.referenceWriteEnd 60 false) g)).store.slots.getD 5 .empty = .bad
      ∧ (after (exec (.referenceWrite 50 .planning) (asked .planning 30 refBytes archived))).store = archived.store := by
  unfold Taken
  decide +kernel

/-- The refusals of REFERENCE-WRITE in their order. -/
theorem test_reference_write_refused :
    let s := { archived with device := .config, working := some ship }
    let code (n : Nat) (s : State) : Option Code := codeOf (referenceWriteAct .planning (n, some { ref2 with delta := 0 }) s)
    let busy := { s with store := { s.store with job := some .freeze } }
    let locks (s : State) : State := { s with store := { s.store with lockSlots := List.replicate 16 true } }
    code 4 (locks saving) = some .refusedState ∧ code 4 (locks busy) = some .busy ∧ code 0 (locks s) = some .locked
      ∧ code 0 s = some .unknownItem ∧ code 6 s = some .slotInvalid ∧ code 4 s = some .refusedRange := by decide +kernel

/-- Outside RUN and CONFIG no permanent write begins, and while a job runs none does. -/
theorem test_permanent_writes_refused :
    let i : Identity := ⟨[65], List.replicate 8 48, [66], 2024, 2, 29⟩
    let codes (s : State) : List (Option Code) :=
      [codeOf (lockAct .planning (.slot 15) s), codeOf (freezeAct .planning () s), codeOf (identityWriteAct .planning i s)]
    codes { saving with device := .hullFault } = [some .refusedState, some .refusedState, some .refusedState]
      ∧ codes saving = [some .busy, some .busy, some .busy] ∧ codes running = [none, none, none]
      ∧ codeOf (identityWriteAct .planning { i with month := 13 } running) = some .refusedRange := by decide +kernel

theorem test_lock :
    let go (b : List Byte) (s : State) : State := after (exec (.lock 50 .planning) (asked .planning 31 b s))
    let frozen := { running with store := { running.store with frozen := true } }
    Taken 31 readTarget .planning (msg 31 9 [1, 15]) (.slot 15) (asked .planning 31 [1, 15] running)
      ∧ (go [1, 15] running).store.job = some (.lock (.slot 15)) ∧ (go [0, 7] running).store.job = some (.lock (.sec 7))
      ∧ readWhole readTarget [1, 16] = none ∧ readWhole readTarget [2, 0] = none ∧ (go [0, 7] frozen).store.job = none ∧ (go [0, 7] edited).store.job = none
      ∧ (after (exec (.lockEnd 60 true) (go [1, 15] running))).store.lockSlots.getD 15 false = true
      ∧ (after (exec (.lockEnd 60 true) (go [0, 7] running))).store.lockSections.getD 7 false = true
      ∧ (after (exec (.lockEnd 60 false) (go [0, 7] running))).store.writeError = true := by
  unfold Taken
  decide +kernel

/-- A section that does not exist is no matter of form: it is UNKNOWN-ITEM after the other checks (log 42). -/
theorem test_lock_of_no_section :
    let code (s : State) : Code := match (lockAct .planning (.sec 8) s).2 with
      | .answer c _ => c
      | _ => .staged
    Taken 31 readTarget .planning (msg 31 9 [0, 8]) (.sec 8) (asked .planning 31 [0, 8] running)
      ∧ code { running with store := saving.store } = .busy
      ∧ (code running, code { running with device := .hullFault }) = (.unknownItem, .refusedState) := by
  unfold Taken
  decide +kernel

theorem test_freeze :
    let g := after (exec (.freeze 50 .planning) (asked .planning 32 [] running))
    Taken 32 noFields .planning (msg 32 9 []) () (asked .planning 32 [] running) ∧ g.store.job = some .freeze
      ∧ (after (exec (.freezeEnd 60 true) g)).store.frozen = true
      ∧ (after (exec (.freezeEnd 60 false) g)).store.frozen = false := by
  unfold Taken
  decide +kernel

/-- IDENTITY-WRITE of a ship on 29 February 2024. -/
def identityBytes : List Byte :=
  [1] ++ List.replicate 32 65 ++ List.replicate 8 48 ++ [1] ++ List.replicate 24 66 ++ be 2 2024 ++ [2, 29]

theorem test_identity_write :
    let i : Identity := ⟨[65], List.replicate 8 48, [66], 2024, 2, 29⟩
    let g := after (exec (.identityWrite 50 .planning) (asked .planning 33 identityBytes running))
    Taken 33 readIdentityFields .planning (msg 33 9 identityBytes) i (asked .planning 33 identityBytes running)
      ∧ i.inRange = true ∧ { i with year := 2023 }.inRange = false
      ∧ (after (exec (.identityWriteEnd 60 true) g)).store.identity = some i
      ∧ (after (exec (.identityWriteEnd 60 false) g)).store.identity = none
      ∧ (after (exec (.identityWrite 50 .planning) (asked .planning 33 identityBytes { running with
          store := { running.store with identity := some i } }))).store.job = none := by
  unfold Taken
  decide +kernel

theorem test_release_trial :
    let go (s : State) : State := after (exec (.releaseTrial 50 .planning) (asked .planning 34 [] s))
    Taken 34 noFields .planning (msg 34 9 []) () (asked .planning 34 [] recalled)
      ∧ (go recalled).owner = .empty ∧ (go recalled).trial = Area.empty ∧ (go recalled).store.waitingAdopt = false
      ∧ (go recalled).lius.planning.slots.archive.isSome = true ∧ (go saving).owner = .archive
      ∧ (after (exec (.releaseTrial 50 .deck) (asked .deck 34 [] recalled))).owner = .recalled := by
  unfold Taken
  decide +kernel

theorem test_adopt :
    let s := { recalled with store := running.store }
    let g := after (exec (.adopt 50 .planning) (asked .planning 35 [] s))
    Taken 35 noFields .planning (msg 35 9 []) () (asked .planning 35 [] s)
      ∧ (g.store.waitingAdopt, g.sched.causes) = (true, 32)
      ∧ (after (exec (.adopt 50 .planning) (asked .planning 35 [] recalled))).sched.causes = 0
      ∧ (after (exec (.adopt 50 .planning) (asked .planning 35 [] running))).store.waitingAdopt = false
      ∧ (applyAdopt recalled).live.lots = recalled.trial.lots ∧ (applyAdopt recalled).live.mode = .sea
      ∧ (applyAdopt { recalled with trial := { recalled.trial with tanks := [⟨.gauged, 9, 1000⟩] } }).live.tanks
          = [⟨.stated, 9, 1000⟩]
      ∧ (applyAdopt recalled).version = 1 ∧ (applyAdopt { recalled with live := slung.live }).live = slung.live
      ∧ (applyAdopt { recalled with ring := ringOf .planning 1 }).live = recalled.live
      ∧ (applyAdopt recalled).lius.planning.slots.archive = some (.archive ⟨.adopt, none, .done, none, false, .empty, 1⟩)
      ∧ (applyAdopt recalled).lius.deck.slots.archive = none := by
  unfold Taken
  decide +kernel

/-! ## The scheduler -/

theorem test_grants :
    let s := { archived with sched := { archived.sched with selfCheckWaiting := true }, trial := archived.live }
    after (exec (.grant 30) computing) = computing ∧ computing.liveComputing = true
      ∧ computing.sched.periodic = some 530 ∧ computing.sched.livePending = false
      ∧ ((after (exec (.grant 30) s)).unit.map (·.work)) = some .selfCheck
      ∧ (after (exec (.grant 30) { running with hull := none })).unit = none
      ∧ (after (exec (.grant 30) running)).unit = none := by decide +kernel

/-- A grant tries the ready sets in list order over what a waiting ADOPT leaves: the second set finds the lot that the
first one entered. -/
theorem test_grant_takes_ready_sets :
    let due := { recalled with
      ready := [⟨.planning, 1, [.lotDrop 7]⟩, ⟨.planning, 2, [.lotEnter 9 500 1000 none none]⟩, ⟨.deck, 3, [.lotDrop 9]⟩]
      sched := { recalled.sched with livePending := true } }
    let s := after (exec (.grant 30) due)
    due.unit = none ∧ due.sched.heldEnter = false ∧ s.ready = [] ∧ s.store.waitingAdopt = false ∧ s.version = 3
      ∧ (s.live.lots.map (·.id), s.live.mode) = ([7], .sea) ∧ (s.unit.map (·.snap.area)) = some s.live
      ∧ (s.sets.planning.outcomes.map (·.code), s.sets.deck.outcomes.map (·.code))
          = ([.done, .refusedState], [.done]) := by decide +kernel

/-- RUN with one planned LOT step by crane 1. -/
def planning : State :=
  { running with ring := { Ring.reset with
      entries := [⟨1, .planning, .lot 7 (.aboard ⟨5, ⟨60000, 0, 5000⟩⟩) (some ⟨1, 1500, 16000⟩), .pending, false⟩]
      nextId := 2, version := 1 } }

theorem test_look_ahead :
    let s1 := after (exec (.grant 30) planning)
    let s2 := after (exec (.stageCompletion 31) s1)
    let s3 := after (exec (.grant 32) s2)
    let s4 := after (exec (.stageCompletion 33) s3)
    planning.lookWanted = true ∧ planning.fixStages.length = 2
      ∧ (s1.owner, s1.unit.map (·.work), s1.trial.attachedTo 1) = (.lookahead, some (.stage 1), some 7)
      ∧ (s2.unit, s2.sched.run.map (·.records.length)) = (none, some 1)
      ∧ (s3.unit.map (·.work), s3.trial.attachedTo 1) = (some (.stage 2), none)
      ∧ (s4.owner, s4.look.outcome, s4.look.records.map (·.kind)) = (.empty, .complete, [.inHand, .stowed])
      ∧ s4.lookCurrent = true ∧ s4.lius.deck.slots.sequence = none
      ∧ (s4.lius.planning.outbound.isSome || s4.lius.planning.slots.sequence.isSome) = true := by decide +kernel

/-- A LIVE that moved between two stages starts the run again; a walk without a stage is COMPLETE at once. -/
theorem test_run_restarts_or_has_no_stage :
    let s2 := run [.grant 30, .stageCompletion 31] planning
    let again := after (exec (.grant 32) { s2 with version := 5 })
    let none' := { planning with ring := { planning.ring with
      entries := [⟨1, .planning, .lot 99 .ashore none, .pending, false⟩] } }
    let s := after (exec (.grant 30) none')
    (again.unit.map (·.work)) = some (.stage 1)
      ∧ (again.sched.run.map fun r => (r.base.version, r.next, r.records)) = some (5, 2, [])
      ∧ none'.lookWanted = true ∧ none'.fixStages = []
      ∧ (s.look.outcome, s.look.records, s.owner, s.unit) = (.complete, [], .empty, none)
      ∧ (after (exec (.grant 32) { s2 with ring := { none'.ring with version := 9 } })).look.outcome = .complete := by
  decide +kernel

theorem test_stage_of_an_abandoned_run :
    let s1 := after (exec (.grant 30) planning)
    let s2 := after (exec (.enterConfig 31 .planning) (asked .planning 24 [] s1))
    (s2.sched.run, s2.look.outcome, s2.owner) = (none, .abandoned, .empty) ∧ s2.unit.isSome = true
      ∧ (after (exec (.stageCompletion 32) s2)).unit = none := by decide +kernel

/-- An abandonment tells of the result as it stood before the run; with no run it does nothing. -/
theorem test_run_abandoned :
    let s := after (exec (.grant 30) planning)
    s.sched.run.isSome = true ∧ (abandonLook s).sched.run = none
      ∧ (abandonLook (heeding .planning s)).lius.planning.slots.sequence = some (.sequence ⟨.abandoned, none, 0, .ok, none, false, 1, 1⟩)
      ∧ abandonLook planning = planning := by decide +kernel

/-- A live snapshot freezes net load, reach and heel, each held where its channel is not LIVE. -/
theorem test_frozen_values :
    let s := withChannel 0 (fun c => { c with state := .live, value := 1300 })
      (withChannel 1 (fun c => { c with state := .stale, value := 2000 }) running)
    let sn := s.liveSnapshot ship
    sn.cranes = [⟨⟨1290, false, some 0⟩, ⟨2000, true, some 1⟩, ⟨0, true, some 2⟩⟩]
      ∧ (sn.soundings, sn.heel) = ([none], none)
      ∧ ({ s with live := { s.live with tanks := [⟨.gauged, 0, 1025⟩] } }.liveSnapshot ship).soundings
          = [some ⟨0, false, none⟩] := by decide +kernel

/-- The snapshot a first live grant takes. -/
def computed : Snapshot := (computing.unit.map (·.snap)).getD (running.liveSnapshot ship)

theorem test_live_completion :
    (judged.serial, judged.published, judged.unit) = (1, true, none)
      ∧ judged.lius.ballast.mark = true ∧ (judged.verdict.map (·.entries)) = some judged.crit
      ∧ (run [.liveCompletion 70] { computing with serial := 65535, lius := judged.lius }).serial = 1
      ∧ (run [.liveCompletion 70] { computing with lius := judged.lius }).lius.deck.summary.overruns = 1
      ∧ (publish ship (evaluate computed) computing).lius.deck.slots.verdict.isSome = true := by
  decide +kernel

/-- A second publication of the same figures raises no VERDICT notice. -/
theorem test_publication_without_news :
    let s := { computing with
      verdict := judged.verdict, published := true, crit := judged.crit, holds := judged.holds }
    let s' := after (exec (.liveCompletion 70) s)
    s.unit.map (·.work) = some .live ∧ s'.serial = 1 ∧ s'.lius.deck.slots.verdict = none
      ∧ s'.lius.deck.outbound = none := by decide +kernel

/-! ## Arithmetic, criteria, encodings -/

theorem test_rounding_examples :
    roundDiv 5 2 = 3 ∧ roundDiv (-5) 2 = -3 ∧ roundDiv (-133) 2 = -67 ∧ roundDiv 1 3 = 0 ∧ roundDiv 7 (-2) = -4 := by
  decide +kernel

/-- A fresh value of a channel. -/
def fresh (v : Int) (k : Nat) : Frozen := { value := v, held := false, channel := some k }

/-- The snapshot of the worked case of chapter 5. -/
def workedCase : Snapshot :=
  { source := .live, ident := some ⟨0, 2⟩, area := running.live, hull := ship
    cranes := [⟨fresh 1200 0, fresh 2000 1, fresh 14000 2⟩], soundings := [none], heel := none }

/-- Between two points, at a point, and outside the column. -/
theorem test_interpolation :
    let at' (key : Int) : Int := interpolate (bracket key [10, 20, 40]) [5, 8, -2]
    [at' 9, at' 10, at' 15, at' 20, at' 25, at' 40, at' 41] = [5, 5, 7, 8, 5, -2, -2] := by decide +kernel

/-- A crane term that would leave the 48-bit range stops the sum at its end. -/
theorem test_moment_bound :
    let sum (start : Int) (ts : List Int) : Int := (addCranes ⟨start, false⟩ ts).value
    sum 140737488355326 [1] = 140737488355327 ∧ sum 140737488355326 [2, -9] = 140737488355327
      ∧ sum (-140737488355327) [-1, 9] = -140737488355327 ∧ sum 5 [1, -9] = -3 := by decide +kernel

/-- A span aft of a station counts whole, one across it in part, one forward of it not at all; a point on it does not. -/
theorem test_weight_aft :
    let both (x : Int) (i : Item) : Int × Int := (weightAft x i, momentAft x i)
    both 100 ⟨7, ⟨99, 0, 0⟩, 0⟩ = (7, 7) ∧ both 100 ⟨7, ⟨100, 0, 0⟩, 0⟩ = (0, 0)
      ∧ both 100 ⟨8, ⟨90, 0, 0⟩, 10⟩ = (8, 80) ∧ both 100 ⟨8, ⟨110, 0, 0⟩, 10⟩ = (0, 0)
      ∧ both 100 ⟨8, ⟨100, 0, 0⟩, 10⟩ = (4, 20) := by decide +kernel

/-- The totals, hydrostatics, stability, trim and draughts of the worked case. -/
theorem test_worked_case :
    let r := evaluate workedCase
    (r.delta, r.lcg, r.tcg, r.kg, r.fsm, r.kgc) = (48325, 58839, 197, 7940, 17086750, 8294)
      ∧ (r.t, r.km, r.lcb, r.lcf, r.mct) = (4366, 9733, 61067, 58367, 80660)
      ∧ (r.gm, r.heel, r.negGm, r.trim, r.tAft, r.tFwd) = (1439, 1369, false, 1335, 5015, 3680)
      ∧ r.release.map (·.heel) = some (-1528) ∧ r.degraded = false := by decide +kernel

/-- The shear force and bending moment of the worked case's station. -/
theorem test_worked_strength :
    ((evaluate workedCase).strength.map fun x => (x.sf, x.bm)).head? = some (4904, 9408) := by decide +kernel

/-- The margins and states of the worked case (6.7); a second station, made up here, stands beside the table's. -/
theorem test_worked_criteria :
    let v := running.verdictOf ship (evaluate workedCase)
    v.entries.map (fun e => (e.kind, e.state)) =
        [(.gm, .ok), (.heel, .over), (.release, .ok), (.trim, .ok), (.draught, .ok), (.table, .ok), (.shear, .ok),
         (.shear, .ok), (.bending, .ok), (.bending, .near), (.space, .ok), (.crane, .near), (.agreement, .off)]
      ∧ v.entries.map (·.margin) = [1289, -494, 222, 665, 1985, 11675, 7096, 4659, 5592, 10, 1000, 0, 0]
      ∧ v.level = .over := by decide +kernel

/-- The lines after the worked case's publication (6.7). -/
theorem test_worked_lines :
    let s := publish ship (evaluate workedCase) running
    (s.holds.a.asserted, s.holds.a.latched, s.holds.b.asserted, s.holds.b.latched, s.holds.c.asserted)
      = (true, true, true, false, false) := by decide +kernel

/-- The interpolation examples of R90. -/
theorem test_sounding_examples :
    let r : TankRec := ship.s4.headD TankRec.zero
    tankLookup r ⟨.gauged, 0, 1025⟩ 2600 = (500000, 1500, false)
      ∧ tankLookup r ⟨.gauged, 0, 1025⟩ 4300 = (800000, 2100, true)
      ∧ tankLookup r ⟨.gauged, 0, 1025⟩ 150 = (0, 400, true)
      ∧ slack 800000 16000 = false ∧ slack 800000 16001 = true ∧ slack 800000 783999 = true
      ∧ slack 800000 784000 = false := by decide +kernel

/-- The heel examples of R96. -/
theorem test_heel_examples :
    heelRule 197 1439 = (1369, false) ∧ heelRule 300 200 = (10000, false) ∧ heelRule (-50) (-20) = (-10000, true)
      ∧ heelRule 0 (-20) = (0, true) := by decide +kernel

/-- The table of R113: the HEEL criterion met by successive verdicts. -/
theorem test_heel_states :
    let b : Band := ⟨100, 50⟩
    nextState b .ok false 115 = .ok ∧ nextState b .ok false 69 = .near ∧ nextState b .near false (-36) = .over
      ∧ nextState b .over false 25 = .over ∧ nextState b .over false 55 = .near ∧ nextState b .near false 115 = .ok
      ∧ nextState b .ok false 0 = .near ∧ nextState b .over false 50 = .near ∧ nextState b .ok true 500 = .over := by
  decide +kernel

theorem test_levels :
    let v (cs : List CritState) : Verdict :=
      ⟨1, evaluate workedCase, cs.map fun c => { CritEntry.fresh .gm 0 with state := c }⟩
    (v []).level = .ok ∧ (v [.off, .ok]).level = .ok ∧ (v [.ok, .near]).level = .near
      ∧ (v [.near, .over, .ok]).level = .over := by decide +kernel

theorem test_no_slack_tank :
    let sn := { workedCase with area := { running.live with tanks := [⟨.stated, 0, 1025⟩] } }
    (sn.tanks.map fun k => slack k.2.1.capacity k.2.2.volume) = [false] ∧ (evaluate sn).fsm = 0 := by decide +kernel

theorem test_check_values :
    crc16 [0x31, 0x32, 0x33, 0x34, 0x35, 0x36, 0x37, 0x38, 0x39] = 0x29B1#16
      ∧ crc8 [0x31, 0x32, 0x33, 0x34, 0x35, 0x36, 0x37, 0x38, 0x39] = 0xF4#8 := by decide +kernel

theorem test_fields_read_back :
    readWhole (readNat 2) (be 2 65535) = some 65535 ∧ readWhole (readInt 2) (beS 2 (-32768)) = some (-32768)
      ∧ readWhole (readInt 3) (beS 3 8388607) = some 8388607
      ∧ segmentOf (rx (segmentUnit (List.replicate 32 5) 1 true)) = some ⟨true, true, []⟩
      ∧ segmentIsLast (List.replicate 32 5) 0 = false := by decide +kernel

/-! ## What steps keep -/

theorem test_reset_stands : State.reset.linesStand := by
  refine ⟨fun h => ?_, ?_⟩
  · unfold State.lineStands
    cases h <;> decide +kernel
  · unfold State.watchesRest
    decide +kernel

/-- A running part in which a step is due. -/
def due : State := { planning with pending := [.grant 30] }

theorem test_due_steps : (step due) = .next (after (step due)) ∧ (after (step due)).owner = .lookahead := by
  exact ⟨rfl, by decide +kernel⟩

theorem test_due_trial_owned : due.trialOwned := by
  unfold State.trialOwned
  decide +kernel

theorem test_due_sums_held : due.sumsHeld := by
  intro c unit
  have none : due.unit = none := rfl
  rw [none] at unit
  cases unit

/-- A COMPUTING Unit holds the sums of its snapshot, its mass among them. -/
theorem test_computing_sums_held : computing.sumsHeld ∧ computing.unit.map (·.acc) = some computed.accumulators
    ∧ 0 < computed.accumulators.mass := by
  have held : computing.unit = some ⟨.live, computed, computed.accumulators⟩ := by decide +kernel
  refine ⟨?_, by rw [held]; rfl, by decide +kernel⟩
  intro c unit
  rw [held] at unit
  cases unit
  rfl

theorem test_due_ring_bounded : due.ringBounded := by
  refine ⟨by decide +kernel, by decide +kernel, by decide +kernel, by decide +kernel, ?_⟩
  intro ns w job
  have none : due.store.job = none := rfl
  rw [none] at job
  cases job

theorem test_due_links_bounded : due.linksBounded := by
  intro l
  cases l <;>
  · refine ⟨by decide +kernel, ⟨by decide +kernel, by decide +kernel, by decide +kernel⟩, by decide +kernel,
      by decide +kernel, by decide +kernel, by decide +kernel, by decide +kernel, by decide +kernel, by decide +kernel,
      by decide +kernel, fun k n => ?_⟩
    cases k <;> exact fun x => (nomatch (show none = some n from x))

theorem test_due_sets_bounded : due.setsBounded := by
  refine ⟨fun l => ?_, by decide +kernel, by decide +kernel⟩
  cases l <;>
  exact ⟨fun o x => (nomatch (show none = some o from x)), fun o x => (nomatch (show none = some o from x)),
    fun a b x => (nomatch (show none = some a from x)), by decide +kernel⟩

theorem test_due_lots_stand : due.lotsStand := by
  unfold State.lotsStand lotsDistinct
  decide +kernel

theorem test_due_jobs_lawful : due.jobsLawful := by
  refine ⟨fun frozen => absurd frozen (by decide +kernel), fun written => absurd written (by decide +kernel)⟩

theorem test_saving_has_a_lawful_job : saving.jobsLawful ∧ saving.trialOwned := by
  refine ⟨⟨fun frozen => absurd frozen (by decide +kernel), fun written => absurd written (by decide +kernel)⟩, ?_⟩
  unfold State.trialOwned
  decide +kernel

theorem test_recalled_trial_owned : recalled.trialOwned := by
  unfold State.trialOwned
  decide +kernel

/-- The guard of a LEAVE-CONFIG that runs agrees with the ring's. -/
theorem test_writing_ring_bounded : writing.ringBounded := by
  refine ⟨by decide +kernel, by decide +kernel, by decide +kernel, by decide +kernel, ?_⟩
  intro ns w job device working has
  exact .inr rfl

end Sys2Proof.Tests
end

/-! PROOF. How a property is shown of every step, and what R3, R4, R84 and R187 speak of as a view of the state: the two
properties of the view, and the moves of it that keep both. -/

namespace Sys2Proof.Machine

/-! ## What every command keeps

The shape of every proof about all steps: a property of what a command leaves, one case per command, and for a request
the four things that can become of it. -/

/-- If a command has a next state, it has the property. -/
def NextHas (inv : State → Prop) (o : Host.Outcome State Fault Refusal) : Prop := ∀ s', o = .next s' → inv s'

theorem nextHas_next {inv : State → Prop} {s : State} (h : inv s) : NextHas inv (.next s) := by
  rintro _ ⟨⟩
  exact h

/-- A property that does not speak of the queue and that every command keeps is kept by every step. -/
theorem keptByStep_of_exec {inv : State → Prop} (queue : ∀ s rest, inv s → inv { s with pending := rest })
    (commands : ∀ c s, inv s → NextHas inv (exec c s)) : KeptByStep inv := by
  intro s s' good run
  unfold step at run
  split at run
  · exact nextHas_next good s' run
  next c rest _ => exact commands c _ (queue s rest good) s' run

/-- What holds of the state where a request is not due, of the state handed to the owning block and of what the block
leaves, and is not lost in answering, holds after the request (R199). -/
theorem request_has {α : Type} {kind : Nat} {form : Reader α} {right : Link → α → Bool}
    {act : Link → α → State → State × Reply} {t : Nat} {l : Link} {s : State} {inv : State → Prop}
    (idle : inv s) (taken : inv (handed t l s)) (acts : ∀ a, inv (act l a (handed t l s)).1)
    (answers : ∀ tag r s', inv s' → inv (settle (respond l kind tag r s'))) :
    inv (request kind form right act t l s) := by
  unfold request
  split
  · exact idle
  · apply answers
    split
    · exact taken
    · split
      · exact taken
      · split
        · exact acts _
        · exact taken

/-! ## The view of a state that R3, R4, R84 and R187 speak of -/

/-- TRIAL with its owner, whether a run is in progress, the store job, the waiting ADOPT and the Unit. -/
structure TrialView where
  owner : Owner
  trial : Area
  running : Bool
  job : Option Job
  waiting : Bool
  unit : Option Computing

def State.trialView (s : State) : TrialView :=
  { owner := s.owner, trial := s.trial, running := s.sched.run.isSome, job := s.store.job
    waiting := s.store.waitingAdopt, unit := s.unit }

/-- Whether a job holds TRIAL as ARCHIVE (R3). -/
def Job.usesTrial : Job → Bool
  | .save _ _ _ | .recall _ | .selfCheck _ _ => true
  | .referenceWrite _ _ | .lock _ | .freeze | .identityWrite _ | .leaveConfig _ => false

theorem Store.usesTrial_eq (st : Store) : st.usesTrial = st.job.any Job.usesTrial := by
  unfold Store.usesTrial
  cases st.job with
  | none => rfl
  | some j => cases j <;> rfl

/-- TRIAL has one owner (R3, R187), in the terms of the view. -/
structure TrialView.Owned (v : TrialView) : Prop where
  empty : v.owner = .empty → v.trial = Area.empty
  running : v.running = true ↔ v.owner = .lookahead
  archive : v.job.any Job.usesTrial = true ↔ v.owner = .archive
  waiting : v.waiting = true → v.owner = .recalled

/-- The Unit holds the sums of its snapshot (R84), in the terms of the view. -/
def TrialView.Summed (v : TrialView) : Prop := ∀ c, v.unit = some c → c.acc = c.snap.accumulators

theorem trialOwned_iff (s : State) : s.trialOwned ↔ s.trialView.Owned := by
  unfold State.trialOwned
  rw [Store.usesTrial_eq, Bool.eq_iff_iff (b := s.owner == .lookahead), Bool.eq_iff_iff (b := s.owner == .archive),
    beq_iff_eq, beq_iff_eq]
  exact ⟨fun ⟨empty, running, archive, waiting⟩ => ⟨empty, running, archive, waiting⟩,
    fun ⟨empty, running, archive, waiting⟩ => ⟨empty, running, archive, waiting⟩⟩

theorem sumsHeld_iff (s : State) : s.sumsHeld ↔ s.trialView.Summed := Iff.rfl

/-! ## Moves of the view that keep both properties -/

/-- Going from one view to another loses neither property. -/
structure TrialView.Keeps (v v' : TrialView) : Prop where
  owned : v.Owned → v'.Owned
  summed : v.Summed → v'.Summed

namespace TrialView

variable {v v' v'' : TrialView} {a : Area} {j j' : Job}

@[simp] theorem Keeps.refl (v : TrialView) : v.Keeps v := ⟨id, id⟩

theorem Keeps.of_eq (h : v' = v) : v.Keeps v' := h ▸ .refl v

theorem Keeps.trans (h : v.Keeps v') (h' : v'.Keeps v'') : v.Keeps v'' := ⟨h'.owned ∘ h.owned, h'.summed ∘ h.summed⟩

/-- The view after a reset. -/
def reset : TrialView :=
  { owner := .empty, trial := Area.empty, running := false, job := none, waiting := false, unit := none }

theorem keeps_reset (v : TrialView) : v.Keeps reset where
  owned _ := ⟨fun _ => rfl, by simp [reset], by simp [reset], by simp [reset]⟩
  summed _ := fun _ h => nomatch h

/-- The Unit takes a grant, with the sums of its snapshot (R84, log 37). -/
theorem keeps_granted (v : TrialView) (work : Work) (sn : Snapshot) :
    v.Keeps { v with unit := some (Computing.granted work sn) } where
  owned := fun ⟨empty, running, archive, waiting⟩ => ⟨empty, running, archive, waiting⟩
  summed _ := by
    rintro _ ⟨⟩
    rfl

/-- The Unit becomes IDLE. -/
theorem keeps_idle (v : TrialView) : v.Keeps { v with unit := none } where
  owned := fun ⟨empty, running, archive, waiting⟩ => ⟨empty, running, archive, waiting⟩
  summed _ := fun _ h => nomatch h

/-- A job that has nothing to do with TRIAL begins. -/
theorem keeps_start (idle : v.job = none) (quiet : j.usesTrial = false) : v.Keeps { v with job := some j } where
  owned := fun ⟨empty, running, archive, waiting⟩ => ⟨empty, running, by simpa [idle, quiet] using archive, waiting⟩
  summed := id

/-- A job that has nothing to do with TRIAL ends. -/
theorem keeps_end (busy : v.job = some j) (quiet : j.usesTrial = false) : v.Keeps { v with job := none } where
  owned := fun ⟨empty, running, archive, waiting⟩ => ⟨empty, running, by simpa [busy, quiet] using archive, waiting⟩
  summed := id

/-- A job takes TRIAL as ARCHIVE: the run is abandoned, and no ADOPT is waiting once it has begun. -/
theorem keeps_take {w : Bool} (uses : j.usesTrial = true) (free : w = true → v.waiting = true ∧ v.owner ≠ .recalled) :
    v.Keeps { v with owner := .archive, trial := a, running := false, job := some j, waiting := w } where
  owned h := ⟨nofun, by simp, by simp [uses], fun wait => absurd (h.waiting (free wait).1) (free wait).2⟩
  summed := id

/-- A job that holds TRIAL goes on with other contents of it. -/
theorem keeps_fill (busy : v.job = some j) (uses : j.usesTrial = true) (uses' : j'.usesTrial = true) :
    v.Keeps { v with owner := .archive, trial := a, job := some j' } where
  owned h := by
    have archive : v.owner = .archive := h.archive.mp (by simp [busy, uses])
    refine ⟨nofun, ?_, by simp [uses'], fun wait => ?_⟩
    · simpa [archive] using h.running
    · simpa [archive] using h.waiting wait
  summed := id

/-- A job that holds TRIAL ends and leaves it EMPTY. -/
theorem keeps_giveUp (busy : v.job = some j) (uses : j.usesTrial = true) :
    v.Keeps { v with owner := .empty, trial := Area.empty, job := none } where
  owned h := by
    have archive : v.owner = .archive := h.archive.mp (by simp [busy, uses])
    refine ⟨fun _ => rfl, ?_, by simp, fun wait => ?_⟩
    · simpa [archive] using h.running
    · simpa [archive] using h.waiting wait
  summed := id

/-- A job that holds TRIAL ends and leaves it RECALLED. -/
theorem keeps_recalled (busy : v.job = some j) (uses : j.usesTrial = true) :
    v.Keeps { v with owner := .recalled, trial := a, job := none } where
  owned h := by
    have archive : v.owner = .archive := h.archive.mp (by simp [busy, uses])
    exact ⟨nofun, by simpa [archive] using h.running, by simp, fun _ => rfl⟩
  summed := id

/-- A RECALLED TRIAL becomes EMPTY, and no ADOPT is left waiting. -/
theorem keeps_release (recalled : v.owner = .recalled) :
    v.Keeps { v with owner := .empty, trial := Area.empty, waiting := false } where
  owned h := ⟨fun _ => rfl, by simpa [recalled] using h.running, by simpa [recalled] using h.archive, nofun⟩
  summed := id

/-- A waiting ADOPT is over. -/
theorem keeps_cancel (v : TrialView) : v.Keeps { v with waiting := false } where
  owned := fun ⟨empty, running, archive, _⟩ => ⟨empty, running, archive, nofun⟩
  summed := id

/-- An ADOPT begins to wait. -/
theorem keeps_adopt (recalled : v.owner = .recalled) : v.Keeps { v with waiting := true } where
  owned := fun ⟨empty, running, archive, _⟩ => ⟨empty, running, archive, fun _ => recalled⟩
  summed := id

/-- Whether a run in progress holds TRIAL or one may take it (R3, R163). -/
def OpenToRuns (v : TrialView) : Prop := v.running = true ∨ v.owner = .lookahead ∨ v.owner = .empty

theorem Owned.not_archive (h : v.Owned) (free : v.OpenToRuns) : v.owner ≠ .archive ∧ v.owner ≠ .recalled := by
  rcases free with run | look | empty
  · simp [h.running.mp run]
  · simp [look]
  · simp [empty]

/-- A run begins or begins again: TRIAL is LOOKAHEAD. -/
theorem keeps_run (free : v.OpenToRuns) :
    v.Keeps { v with owner := .lookahead, trial := a, running := true } where
  owned h := by
    obtain ⟨archive, recalled⟩ := h.not_archive free
    exact ⟨nofun, by simp, by simpa [archive] using h.archive, fun wait => absurd (h.waiting wait) recalled⟩
  summed := id

/-- A run ends, and TRIAL is EMPTY. -/
theorem keeps_runEnd (free : v.OpenToRuns) :
    v.Keeps { v with owner := .empty, trial := Area.empty, running := false } where
  owned h := by
    obtain ⟨archive, recalled⟩ := h.not_archive free
    exact ⟨fun _ => rfl, by simp, by simpa [archive] using h.archive, fun wait => absurd (h.waiting wait) recalled⟩
  summed := id

/-- A run in progress goes on to another stage of TRIAL. -/
theorem keeps_stage (run : v.running = true) : v.Keeps { v with trial := a, running := true } where
  owned h := by
    have look : v.owner = .lookahead := h.running.mp run
    exact ⟨fun empty => by simp [look] at empty, by simp [look], h.archive, h.waiting⟩
  summed := id

/-- With TRIAL held by no run there is none to abandon. -/
theorem keeps_noRun (other : v.owner ≠ .lookahead) : v.Keeps { v with running := false } where
  owned := fun ⟨empty, _, archive, waiting⟩ => ⟨empty, by simpa using other, archive, waiting⟩
  summed := id

end TrialView

end Sys2Proof.Machine

/-! PROOF. Which operations, and which owning blocks of requests, leave the view of TRIAL, the runs, the jobs and the
Unit as it is. -/

namespace Sys2Proof.Machine

/-! ## What leaves the view as it is

One lemma per operation that touches none of the view's fields, for `simp` and `rw` to see through it. -/

@[simp] theorem atTime_trialView (t : Nat) (s : State) : (atTime t s).trialView = s.trialView := rfl
@[simp] theorem modifyLiu_trialView (l : Link) (f : Liu → Liu) (s : State) :
    (modifyLiu l f s).trialView = s.trialView := rfl
@[simp] theorem handed_trialView (t : Nat) (l : Link) (s : State) : (handed t l s).trialView = s.trialView := rfl
@[simp] theorem settle_trialView (s : State) : (settle s).trialView = s.trialView := rfl
@[simp] theorem bumpVersion_trialView (s : State) : (bumpVersion s).trialView = s.trialView := rfl
@[simp] theorem putChannel_trialView (ch : Nat) (c : Channel) (s : State) :
    (putChannel ch c s).trialView = s.trialView := rfl
@[simp] theorem putSlot_trialView (n : Nat) (v : Slot) (s : State) : (putSlot n v s).trialView = s.trialView := rfl
@[simp] theorem putEntry_trialView (n : Nat) (e : DirEntry) (s : State) : (putEntry n e s).trialView = s.trialView := rfl
@[simp] theorem readSlotContent_trialView (n : Nat) (good : Bool) (s : State) :
    (readSlotContent n good s).trialView = s.trialView := rfl
@[simp] theorem answerOwed_trialView (enter : Bool) (code : Code) (body : List Byte) (restart : Bool) (s : State) :
    (answerOwed enter code body restart s).trialView = s.trialView := rfl
@[simp] theorem awaitRestart_trialView (s : State) : (awaitRestart s).trialView = s.trialView := rfl

@[simp] theorem markWriteError_trialView (failed : Bool) (s : State) :
    (markWriteError failed s).trialView = s.trialView := by
  cases failed <;> rfl

@[simp] theorem setLock_trialView (q : Target) (s : State) : (setLock q s).trialView = s.trialView := by
  cases q <;> rfl

@[simp] theorem markDelivered_trialView (o : Outbound) (r : ReplyKind) (s : State) :
    (markDelivered o r s).trialView = s.trialView := by
  unfold markDelivered
  split <;> rfl

@[simp] theorem respond_trialView (l : Link) (kind tag : Nat) (r : Reply) (s : State) :
    (respond l kind tag r s).trialView = s.trialView := by
  rw [respond_only]
  rfl

@[simp] theorem raiseNotice_trialView (forced : Link → Bool) (n : Notice) (s : State) :
    (raiseNotice forced n s).trialView = s.trialView := by
  rw [raiseNotice_only]
  rfl

@[simp] theorem archiveNotice_trialView (k : JobKind) (q : Option Target) (c : Code) (x : Option (Option Quantity))
    (s : State) : (archiveNotice k q c x s).trialView = s.trialView := raiseNotice_trialView _ _ _

@[simp] theorem raiseLive_trialView (c : Cause) (s : State) : (raiseLive c s).trialView = s.trialView := by
  unfold raiseLive
  split <;> rfl

@[simp] theorem suspendRun_trialView (s : State) : (suspendRun s).trialView = s.trialView := by
  simp [State.trialView, suspendRun]

@[simp] theorem recompute_trialView (h : Line) (s : State) : (recompute h s).trialView = s.trialView := by
  rw [recompute_only]
  rfl

@[simp] theorem recomputeLines_trialView (hs : List Line) (s : State) :
    (recomputeLines hs s).trialView = s.trialView := by
  rw [recomputeLines_only]
  rfl

@[simp] theorem recomputeAll_trialView (s : State) : (recomputeAll s).trialView = s.trialView :=
  recomputeLines_trialView _ _

@[simp] theorem recomputeMask_trialView (m : LineSet) (s : State) : (recomputeMask m s).trialView = s.trialView :=
  recomputeLines_trialView _ _

@[simp] theorem setHoldTimer_trialView (l : Link) (h : Line) (timer : Option Nat) (s : State) :
    (setHoldTimer l h timer s).trialView = s.trialView := by
  unfold setHoldTimer
  rw [recompute_trialView]
  rfl

/-! ### Movements and channels -/

@[simp] theorem lotNotice_trialView (e : LotEvent) (x : Lot) (freed : Bool) (crane : Nat) (peak : Option Int) (s : State) :
    (lotNotice e x freed crane peak s).trialView = s.trialView := raiseNotice_trialView _ _ _

@[simp] theorem liftOff_trialView (x : Lot) (crane : Nat) (net : Int) (s : State) :
    (liftOff x crane net s).trialView = s.trialView := by
  unfold liftOff
  rw [lotNotice_trialView, raiseLive_trialView]
  rfl

@[simp] theorem land_trialView (e : LotEvent) (x : Lot) (crane : Nat) (peak : Option Int) (s : State) :
    (land e x crane peak s).1.trialView = s.trialView := by
  unfold land
  rw [lotNotice_trialView, raiseLive_trialView]
  rfl

@[simp] theorem hookWhileLifted_trialView (x : Lot) (crane : Nat) (rec : CraneRec) (peak net : Int) (s : State) :
    (hookWhileLifted x crane rec peak net s).trialView = s.trialView := by
  unfold hookWhileLifted
  extract_lets peak' s1
  split
  · rw [land_trialView]
    rfl
  · rfl

@[simp] theorem hookOutput_trialView (crane : Nat) (v : Int) (s : State) :
    (hookOutput crane v s).trialView = s.trialView := by
  unfold hookOutput
  split
  · rfl
  · dsimp only
    split
    · rfl
    · split
      · split
        · rw [liftOff_trialView]
          rfl
        · rfl
      · rw [hookWhileLifted_trialView]
        rfl
      · rfl

@[simp] theorem channelNotice_trialView (k : Nat) (c : Channel) (e : ChanEvents) (s : State) :
    (channelNotice k c e s).trialView = s.trialView := by
  rw [channelNotice_only]
  rfl

@[simp] theorem disableChannel_trialView (k : Nat) (c : Channel) (s : State) :
    (disableChannel k c s).trialView = s.trialView := by
  rw [disableChannel_only]
  rfl

@[simp] theorem disableAll_trialView (s : State) : (disableAll s).trialView = s.trialView := by
  unfold disableAll
  generalize numbered 0 s.bank.channels = cs
  induction cs generalizing s with
  | nil => rfl
  | cons c cs ih => rw [List.foldl_cons, ih, disableChannel_trialView]

@[simp] theorem handOn_trialView (c : Channel) (changed : Bool) (s : State) :
    (handOn c changed s).trialView = s.trialView := by
  have lines : (if changed then recomputeMask c.cfg.mask s else s).trialView = s.trialView := by
    split
    · exact recomputeMask_trialView _ _
    · rfl
  unfold handOn
  dsimp only
  split
  · rw [hookOutput_trialView, lines]
  · exact lines

@[simp] theorem takeSample_trialView (k : Nat) (c : Channel) (v : Int) (s : State) :
    (takeSample k c v s).trialView = s.trialView := by
  unfold takeSample
  dsimp only
  split <;> simp

@[simp] theorem takeFrame_trialView (u : RxUnit) (s : State) : (takeFrame u s).trialView = s.trialView := by
  unfold takeFrame
  split
  · rfl
  · split
    · rfl
    · split
      · rfl
      · exact takeSample_trialView _ _ _ _

/-! ### Change sets, publication, the entry to RUN -/

@[simp] theorem applyReady_trialView (s : State) : (applyReady s).trialView = s.trialView := by
  rw [applyReady_only]
  rfl

@[simp] theorem publish_trialView (h : Hull) (r : Result) (s : State) : (publish h r s).trialView = s.trialView := by
  rw [publish_only]
  rfl

@[simp] theorem entryCauses_trialView (s : State) : (entryCauses s).trialView = s.trialView := by
  unfold entryCauses
  dsimp only
  split_ifs <;> simp

@[simp] theorem enterRun_trialView (h : Hull) (s : State) : (enterRun h s).trialView = s.trialView := by
  unfold enterRun
  rw [recomputeAll_trialView, entryCauses_trialView]
  rfl

@[simp] theorem takeSections_trialView (h : Hull) (ns : List Nat) (s : State) :
    (takeSections h ns s).trialView = s.trialView := rfl

/-- The end of start-up leaves TRIAL, the runs, the jobs and the Unit as the reset left them (R19). -/
@[simp] theorem endStart_trialView (s : State) : (endStart s).trialView = s.trialView := by
  unfold endStart
  split
  · unfold startRunning
    rw [enterRun_trialView]
    rfl
  · unfold startFaulted
    rw [recomputeAll_trialView]
    rfl

@[simp] theorem dropTimers_trialView (l : Link) (s : State) : (dropTimers l s).trialView = s.trialView := by
  unfold dropTimers
  rw [recomputeLines_trialView]
  rfl

/-! ### Owning blocks of requests -/

@[simp] theorem closeSet_trialView (l : Link) (q : SetMessage) (s : State) :
    (closeSet l q s).1.trialView = s.trialView := by
  unfold closeSet
  extract_lets sets held edits
  split
  · rfl
  · rw [raiseLive_trialView]
    rfl

@[simp] theorem holdSet_trialView (l : Link) (q : SetMessage) (s : State) :
    (holdSet l q s).1.trialView = s.trialView := by
  unfold holdSet
  dsimp only
  split
  · split <;> rfl
  · split <;> rfl

@[simp] theorem changeSetAct_trialView (l : Link) (q : SetMessage) (s : State) :
    (changeSetAct l q s).1.trialView = s.trialView := by
  unfold changeSetAct
  split
  · rfl
  · split
    · exact closeSet_trialView _ _ _
    · exact holdSet_trialView _ _ _

@[simp] theorem attachAct_trialView (l : Link) (q : AttachFields) (s : State) :
    (attachAct l q s).1.trialView = s.trialView := by
  unfold attachAct
  split
  · rfl
  · rw [lotNotice_trialView]
    rfl

@[simp] theorem detach_trialView (x : Lot) (s : State) : (detach x s).1.trialView = s.trialView := by
  unfold detach
  dsimp only
  split <;>
  · rw [lotNotice_trialView]
    rfl

@[simp] theorem detachAct_trialView (l : Link) (id : Nat) (s : State) :
    (detachAct l id s).1.trialView = s.trialView := by
  unfold detachAct
  split
  · rfl
  · split
    · rfl
    · split
      · rfl
      · exact detach_trialView _ _

@[simp] theorem forceLandAct_trialView (l : Link) (id : Nat) (s : State) :
    (forceLandAct l id s).1.trialView = s.trialView := by
  unfold forceLandAct
  split
  · rfl
  · split
    · rfl
    · dsimp only
      split
      · rfl
      · split
        · rfl
        · exact land_trialView _ _ _ _ _

@[simp] theorem stepAppendAct_trialView (l : Link) (w : StepWork) (s : State) :
    (stepAppendAct l w s).1.trialView = s.trialView := by
  unfold stepAppendAct
  split <;> rfl

@[simp] theorem stepWithdrawAct_trialView (l : Link) (id : Nat) (s : State) :
    (stepWithdrawAct l id s).1.trialView = s.trialView := by
  unfold stepWithdrawAct
  split
  · rfl
  · split
    · rfl
    · split_ifs <;> rfl

@[simp] theorem stepDoneAct_trialView (l : Link) (q : Nat × Bool) (s : State) :
    (stepDoneAct l q s).1.trialView = s.trialView := by
  unfold stepDoneAct
  split
  · rfl
  · split
    · rfl
    · split <;> rfl

@[simp] theorem seqSetAct_trialView (l : Link) (q : Option Nat × Option Nat) (s : State) :
    (seqSetAct l q s).1.trialView = s.trialView := by
  unfold seqSetAct
  dsimp only
  split_ifs <;> rfl

@[simp] theorem readSequenceAct_trialView (l : Link) (q : SequenceForm) (s : State) :
    (readSequenceAct l q s).1.trialView = s.trialView := by
  unfold readSequenceAct
  split
  · rfl
  · split <;> rfl

@[simp] theorem channelSetAct_trialView (l : Link) (q : Nat × ChannelCfg) (s : State) :
    (channelSetAct l q s).1.trialView = s.trialView := by
  unfold channelSetAct
  split <;> rfl

@[simp] theorem channelEnableAct_trialView (l : Link) (ch : Nat) (s : State) :
    (channelEnableAct l ch s).1.trialView = s.trialView := by
  unfold channelEnableAct
  split
  · rfl
  · split
    · rfl
    · split_ifs <;> rfl

@[simp] theorem channelDisableAct_trialView (l : Link) (ch : Nat) (s : State) :
    (channelDisableAct l ch s).1.trialView = s.trialView := by
  unfold channelDisableAct
  split
  · rfl
  · split
    · rfl
    · dsimp only
      split
      · rfl
      · split <;> simp

@[simp] theorem readChannelsAct_trialView (l : Link) (q : Nat × Nat) (s : State) :
    (readChannelsAct l q s).1.trialView = s.trialView := by
  unfold readChannelsAct
  split <;> rfl

@[simp] theorem holdAckAct_trialView (l : Link) (h : Line) (s : State) :
    (holdAckAct l h s).1.trialView = s.trialView := by
  unfold holdAckAct
  split
  · rfl
  · split
    · rfl
    · rw [recompute_trialView]
      rfl

@[simp] theorem timedHoldAct_trialView (l : Link) (q : Line × Nat) (s : State) :
    (timedHoldAct l q s).1.trialView = s.trialView := by
  unfold timedHoldAct
  dsimp only
  split_ifs <;> simp

@[simp] theorem readVerdictAct_trialView (l : Link) (q : VerdictPart) (s : State) :
    (readVerdictAct l q s).1.trialView = s.trialView := by
  unfold readVerdictAct
  split
  · rfl
  · split <;> rfl

@[simp] theorem evaluateNowAct_trialView (l : Link) (q : Unit) (s : State) :
    (evaluateNowAct l q s).1.trialView = s.trialView := by
  unfold evaluateNowAct
  split
  · rfl
  · exact raiseLive_trialView _ _

@[simp] theorem readConditionAct_trialView (l : Link) (q : Bool × ConditionPart) (s : State) :
    (readConditionAct l q s).1.trialView = s.trialView := by
  unfold readConditionAct
  split
  · rfl
  · split <;> rfl

@[simp] theorem hullWriteAct_trialView (l : Link) (it : HullItem) (s : State) :
    (hullWriteAct l it s).1.trialView = s.trialView := by
  unfold hullWriteAct
  split
  · rfl
  · split
    · rfl
    · split
      · rfl
      · split
        · rfl
        · split
          · rfl
          · split <;> rfl

@[simp] theorem readHullAct_trialView (l : Link) (q : ItemAddr × Bool) (s : State) :
    (readHullAct l q s).1.trialView = s.trialView := by
  unfold readHullAct
  split
  · rfl
  · split <;> rfl

end Sys2Proof.Machine

/-! PROOF. Which operations move the view of TRIAL, the runs, the jobs and the Unit, and that each block's moves keep
both properties of it. -/

namespace Sys2Proof.Machine

open TrialView

/-! ## What moves the view -/

@[simp] theorem setTrial_trialView (o : Owner) (a : Area) (s : State) :
    (setTrial o a s).trialView = { s.trialView with owner := o, trial := a } := rfl

@[simp] theorem emptyTrial_trialView (s : State) :
    (emptyTrial s).trialView = { s.trialView with owner := .empty, trial := Area.empty } := rfl

@[simp] theorem startJob_trialView (j : Job) (s : State) :
    (startJob j s).trialView = { s.trialView with job := some j } := rfl

@[simp] theorem endJobWith_trialView (restart : Bool) (k : JobKind) (q : Option Target) (c : Code)
    (x : Option (Option Quantity)) (body : List Byte) (s : State) :
    (endJobWith restart k q c x body s).trialView = { s.trialView with job := none } := by
  unfold endJobWith
  rw [archiveNotice_trialView]
  rfl

@[simp] theorem endJob_trialView (k : JobKind) (q : Option Target) (c : Code) (x : Option (Option Quantity))
    (body : List Byte) (s : State) : (endJob k q c x body s).trialView = { s.trialView with job := none } :=
  endJobWith_trialView _ _ _ _ _ _ _

@[simp] theorem abandonLook_trialView (s : State) :
    (abandonLook s).trialView = { s.trialView with running := false } := by
  unfold abandonLook
  split
  next none => simp [State.trialView, none]
  · rw [raiseNotice_trialView]
    rfl

@[simp] theorem cancelAdopt_trialView (s : State) :
    (cancelAdopt s).trialView = { s.trialView with waiting := false } := by
  unfold cancelAdopt
  split
  · rw [archiveNotice_trialView]
    rfl
  next no => simp [State.trialView, no]

@[simp] theorem completeRun_trialView (b : BaseInfo) (rs : List StageRecord) (s : State) :
    (completeRun b rs s).trialView =
      { s.trialView with owner := .empty, trial := Area.empty, running := false } := by
  rw [completeRun_only]
  rfl

/-- A stage granted: TRIAL with the stage's changes, a run in progress, and its snapshot in the Unit (R141). -/
theorem grantStage_trialView (h : Hull) (r : Run) (k : Nat) (st : Stage) (s : State) :
    (grantStage h r k st s).trialView =
      { s.trialView with
        trial := st.apply s.trial, running := true
        unit := some (Computing.granted (.stage k) (st.snapshot (st.apply s.trial) h r.soundings)) } := rfl

/-! ## Requests that move the view -/

theorem saveAct_keepsTrial (l : Link) (n : Nat) (s : State) : s.trialView.Keeps (saveAct l n s).1.trialView := by
  unfold saveAct
  split_ifs with serves busy locked recalled
  · exact .refl _
  · exact .refl _
  · exact .refl _
  · exact .refl _
  · simpa using keeps_take (v := s.trialView) rfl fun waiting => ⟨waiting, recalled⟩

theorem recallAct_keepsTrial (l : Link) (n : Nat) (s : State) : s.trialView.Keeps (recallAct l n s).1.trialView := by
  unfold recallAct
  split_ifs with serves busy recalled
  · exact .refl _
  · exact .refl _
  · exact .refl _
  · simpa using keeps_take (v := s.trialView) rfl fun waiting => ⟨waiting, recalled⟩

theorem selfCheckAct_keepsTrial (l : Link) (n : Nat) (s : State) :
    s.trialView.Keeps (selfCheckAct l n s).1.trialView := by
  unfold selfCheckAct
  split_ifs with serves busy
  · exact .refl _
  · exact .refl _
  · simpa using keeps_take (v := s.trialView) (w := false) rfl nofun

/-- With no job running, one that has nothing to do with TRIAL may begin. -/
theorem startJob_keepsTrial {j : Job} {s : State} (idle : ¬ s.store.job.isSome = true) (quiet : j.usesTrial = false) :
    s.trialView.Keeps (startJob j s).trialView :=
  keeps_start (Option.not_isSome_iff_eq_none.mp idle) quiet

theorem referenceWriteAct_keepsTrial (l : Link) (q : Nat × Option Reference) (s : State) :
    s.trialView.Keeps (referenceWriteAct l q s).1.trialView := by
  unfold referenceWriteAct
  split
  · exact .refl _
  · split
    · exact .refl _
    next idle =>
      split
      · exact .refl _
      · split
        · exact .refl _
        · exact .refl _
        · split
          · exact .refl _
          · exact startJob_keepsTrial idle rfl

theorem lockAct_keepsTrial (l : Link) (q : Target) (s : State) : s.trialView.Keeps (lockAct l q s).1.trialView := by
  unfold lockAct
  split_ifs with serves locked frozen busy blocked mark
  · exact .refl _
  · exact .refl _
  · exact .refl _
  · exact .refl _
  · exact .refl _
  · exact .refl _
  · exact startJob_keepsTrial busy rfl

theorem freezeAct_keepsTrial (l : Link) (q : Unit) (s : State) : s.trialView.Keeps (freezeAct l q s).1.trialView := by
  unfold freezeAct
  split_ifs with serves frozen busy
  · exact .refl _
  · exact .refl _
  · exact .refl _
  · exact startJob_keepsTrial busy rfl

theorem identityWriteAct_keepsTrial (l : Link) (i : Identity) (s : State) :
    s.trialView.Keeps (identityWriteAct l i s).1.trialView := by
  unfold identityWriteAct
  split_ifs with serves written busy range
  · exact .refl _
  · exact .refl _
  · exact .refl _
  · exact .refl _
  · exact startJob_keepsTrial busy rfl

theorem releaseRecalled_keepsTrial (s : State) : s.trialView.Keeps (releaseRecalled s).trialView := by
  unfold releaseRecalled
  split
  next recalled => simpa using keeps_release (v := s.trialView) recalled
  · exact .refl _

theorem adoptAct_keepsTrial (l : Link) (q : Unit) (s : State) : s.trialView.Keeps (adoptAct l q s).1.trialView := by
  unfold adoptAct
  split_ifs with serves recalled ring waiting
  · exact .refl _
  · exact .refl _
  · exact .refl _
  · exact .refl _
  · rw [raiseLive_trialView]
    exact keeps_adopt (not_not.mp recalled)

theorem leaveConfigAct_keepsTrial (l : Link) (q : Unit) (s : State) :
    s.trialView.Keeps (leaveConfigAct l q s).1.trialView := by
  unfold leaveConfigAct
  split
  · exact .refl _
  · split_ifs with run busy config
    · exact .refl _
    · exact .refl _
    all_goals have idle : ¬ s.store.job.isSome = true := fun job => busy (by simp [State.storeBusy, job])
    · unfold leaveFromConfig
      dsimp only
      split
      · exact .refl _
      · split
        · simp
        · exact startJob_keepsTrial idle rfl
    · unfold leaveFromFault
      split
      · exact .refl _
      · exact startJob_keepsTrial idle rfl

theorem dropLook_keepsTrial (s : State) : s.trialView.Keeps (dropLook s).trialView := by
  unfold dropLook
  split
  next look => simpa using keeps_runEnd (v := s.trialView) (.inr (.inl look))
  next other => simpa using keeps_noRun (v := s.trialView) other

theorem enterConfig_keepsTrial (s : State) : s.trialView.Keeps (enterConfig s).trialView := by
  unfold enterConfig
  rw [recomputeAll_trialView, disableAll_trialView]
  exact dropLook_keepsTrial s

theorem enterConfigAct_keepsTrial (l : Link) (q : Unit) (s : State) :
    s.trialView.Keeps (enterConfigAct l q s).1.trialView := by
  unfold enterConfigAct
  split
  · exact .refl _
  · split
    · exact .of_eq rfl
    · dsimp only
      exact enterConfig_keepsTrial s

theorem resolveEnter_keepsTrial (s : State) : s.trialView.Keeps (resolveEnter s).trialView := by
  unfold resolveEnter
  extract_lets sched s1
  have view : s1.trialView = s.trialView := rfl
  split <;> rw [answerOwed_trialView, ← view]
  · exact .refl _
  · exact enterConfig_keepsTrial s1

/-! ## Grants and completions -/

theorem applyAdopt_keepsTrial (s : State) : s.trialView.Keeps (applyAdopt s).trialView := by
  unfold applyAdopt
  split
  · exact .refl _
  next waits =>
    have waiting : s.trialView.waiting = true := by
      unfold State.trialView
      simpa using waits
    dsimp only
    split
    · rw [archiveNotice_trialView]
      exact keeps_cancel _
    · rw [archiveNotice_trialView]
      exact {
        owned h := (keeps_release (h.waiting waiting)).owned h
        summed := id }

theorem grantLive_keepsTrial (h : Hull) (s : State) : s.trialView.Keeps (grantLive h s).trialView := by
  have before : s.trialView.Keeps (applyReady (applyAdopt (suspendRun s))).trialView := by
    rw [applyReady_trialView]
    simpa only [suspendRun_trialView] using applyAdopt_keepsTrial (suspendRun s)
  exact before.trans (keeps_granted _ _ _)

theorem grantSelfCheck_keepsTrial (h : Hull) (s : State) : s.trialView.Keeps (grantSelfCheck h s).trialView := by
  have before : s.trialView.Keeps (suspendRun s).trialView := by simp
  exact before.trans (keeps_granted _ _ _)

theorem startRun_keepsTrial (h : Hull) {s : State} (free : s.trialView.OpenToRuns) :
    s.trialView.Keeps (startRun h s).trialView := by
  unfold startRun
  dsimp only
  split
  · simpa using keeps_runEnd free
  · rw [grantStage_trialView, setTrial_trialView]
    exact (keeps_run free).trans (keeps_granted _ _ _)

theorem continueRun_keepsTrial (h : Hull) (r : Run) {s : State} (run : s.sched.run = some r) :
    s.trialView.Keeps (continueRun h r s).trialView := by
  have running : s.trialView.running = true := by simp [State.trialView, run]
  unfold continueRun
  split
  · split
    · rw [grantStage_trialView]
      exact (keeps_stage running).trans (keeps_granted _ _ _)
    · exact .refl _
  · exact startRun_keepsTrial h (.inl running)

theorem grantChoice_keepsTrial (h : Hull) (s : State) : s.trialView.Keeps (grantChoice h s).trialView := by
  unfold grantChoice
  split
  · exact grantLive_keepsTrial h s
  · split
    · exact grantSelfCheck_keepsTrial h s
    · split
      next r run => exact continueRun_keepsTrial h r run
      · split
        next wanted =>
          have empty : s.owner = .empty := by
            simp only [State.lookWanted, Bool.and_eq_true, beq_iff_eq] at wanted
            exact wanted.2
          exact startRun_keepsTrial h (.inr (.inr empty))
        · exact .refl _

theorem stageDone_keepsTrial (k : Nat) (h : Hull) (e : Result) (s : State) :
    s.trialView.Keeps (stageDone k h e s).trialView := by
  unfold stageDone
  split
  · exact .refl _
  next r run =>
    have running : s.trialView.running = true := by simp [State.trialView, run]
    split
    · exact .refl _
    · unfold finishStage
      dsimp only
      split
      · simpa using keeps_runEnd (v := s.trialView) (.inl running)
      · exact .of_eq (by simp [State.trialView, run])

theorem endSelfCheck_keepsTrial (h : Hull) (r : Result) (s : State) :
    s.trialView.Keeps (endSelfCheck h r s).trialView := by
  unfold endSelfCheck
  split
  next job => simpa using keeps_giveUp (v := s.trialView) job rfl
  · exact .refl _

/-! ## The ends of store jobs -/

theorem leaveWritten_keepsTrial (w : Hull) {ns : List Nat} {s : State} (job : s.store.job = some (.leaveConfig ns)) :
    s.trialView.Keeps (leaveWritten w ns s).trialView := by
  unfold leaveWritten
  extract_lets st s1 s2
  have view : s1.trialView = s.trialView := rfl
  have released : s.trialView.Keeps { s2.trialView with waiting := false } := by
    unfold s2
    split
    next recalled => simpa [view] using keeps_release (v := s.trialView) recalled
    · exact keeps_cancel _
  have jobs : s2.trialView.job = some (.leaveConfig ns) := by
    unfold s2
    split <;> exact job
  rw [enterRun_trialView, cancelAdopt_trialView, endJob_trialView]
  exact released.trans (keeps_end jobs rfl)

theorem repairWritten_keepsTrial (w : Hull) {ns : List Nat} {s : State} (job : s.store.job = some (.leaveConfig ns)) :
    s.trialView.Keeps (repairWritten w ns s).trialView := by
  unfold repairWritten
  rw [awaitRestart_trialView, endJobWith_trialView]
  exact keeps_end job rfl

theorem leaveFailed_keepsTrial (w : Hull) {ns : List Nat} (n : Nat) {s : State}
    (job : s.store.job = some (.leaveConfig ns)) : s.trialView.Keeps (leaveFailed w ns n s).trialView := by
  unfold leaveFailed
  rw [endJob_trialView, markWriteError_trialView]
  exact keeps_end job rfl

end Sys2Proof.Machine

/-! PROOF. Every command keeps TRIAL with one owner and the Unit with the sums of its snapshot (R3, R4, R84, R187). -/

namespace Sys2Proof.Machine

open TrialView

/-! ## Every command -/

/-- That a command loses neither property of the state it is given. -/
def CommandKeepsTrial (o : Host.Outcome State Fault Refusal) (s : State) : Prop :=
  NextHas (fun s' => s.trialView.Keeps s'.trialView) o

theorem commandKeepsTrial_next {s s' : State} (h : s.trialView.Keeps s'.trialView) : CommandKeepsTrial (.next s') s :=
  nextHas_next (inv := fun s' => s.trialView.Keeps s'.trialView) h

/-- A request keeps both properties where its owning block does. -/
theorem request_keepsTrial {α : Type} {kind : Nat} {form : Reader α} {right : Link → α → Bool}
    {act : Link → α → State → State × Reply} {t : Nat} {l : Link} {s : State}
    (acts : ∀ a (s : State), s.trialView.Keeps (act l a s).1.trialView) :
    CommandKeepsTrial (.next (request kind form right act t l s)) s :=
  commandKeepsTrial_next (request_has (inv := fun s' => s.trialView.Keeps s'.trialView) (.refl _) (.refl _)
    (fun a => acts a (handed t l s)) (fun tag r s' kept => by simpa using kept))

/-- A request whose owning block leaves the view as it is. -/
theorem request_keepsTrial_of_view {α : Type} {kind : Nat} {form : Reader α} {right : Link → α → Bool}
    {act : Link → α → State → State × Reply} {t : Nat} {l : Link} {s : State}
    (acts : ∀ a (s : State), (act l a s).1.trialView = s.trialView) :
    CommandKeepsTrial (.next (request kind form right act t l s)) s :=
  request_keepsTrial fun a s => .of_eq (acts a s)

/-! ### Resets and start-up -/

/-- Every reset leaves TRIAL EMPTY, no run, no job, no waiting ADOPT and the Unit IDLE (R173). -/
theorem resetWith_trialView (store : Store) (s : State) : (resetWith store s).trialView = TrialView.reset := rfl

theorem resetWith_keepsTrial (store : Store) (s s' : State) : s.trialView.Keeps (resetWith store s').trialView := by
  rw [resetWith_trialView]
  exact keeps_reset s.trialView

theorem restart_keepsTrial (t : Nat) (s : State) : CommandKeepsTrial (execRestart t s) s := by
  apply commandKeepsTrial_next
  split
  · exact resetWith_keepsTrial _ _ _
  · exact .refl _

theorem startUpEnd_keepsTrial (t : Nat) (badSections : BitVec 8) (badSlots : BitVec 16) (s : State) :
    CommandKeepsTrial (execStartUpEnd t badSections badSlots s) s := by
  apply commandKeepsTrial_next
  split
  · rw [settle_trialView, endStart_trialView]
    exact .refl s.trialView
  · exact .refl _

theorem linkReset_keepsTrial (t : Nat) (l : Link) (s : State) : CommandKeepsTrial (execLinkReset t l s) s := by
  apply commandKeepsTrial_next
  split
  · exact .refl _
  · rw [settle_trialView]
    unfold resetLink
    extract_lets discards s1
    have view : s1.trialView = s.trialView := dropTimers_trialView _ _
    rw [← view]
    split
    · exact releaseRecalled_keepsTrial { s1 with
        sched := { s1.sched with heldEnter := false }
        store := { s1.store with restart := s1.store.restart.map (fun w => { w with due := w.due || discards }) } }
    · exact .refl _

/-! ### Links, samples and timers -/

theorem segmentArrival_keepsTrial (t : Nat) (l : Link) (u : RxUnit) (s : State) :
    CommandKeepsTrial (execSegmentArrival t l u s) s := by
  apply commandKeepsTrial_next
  split <;> simp

theorem replyUnit_keepsTrial (t : Nat) (l : Link) (u : RxUnit) (s : State) : CommandKeepsTrial (execReplyUnit t l u s) s := by
  apply commandKeepsTrial_next
  split <;> simp

theorem resendTimerExpiry_keepsTrial (t : Nat) (l : Link) (s : State) : CommandKeepsTrial (execResendTimerExpiry t l s) s := by
  apply commandKeepsTrial_next
  split <;> simp

theorem linkBreakEnd_keepsTrial (t : Nat) (l : Link) (s : State) : CommandKeepsTrial (execLinkBreakEnd t l s) s := by
  apply commandKeepsTrial_next
  split <;> simp

theorem sampleFrame_keepsTrial (t : Nat) (u : RxUnit) (s : State) : CommandKeepsTrial (execSampleFrame t u s) s := by
  apply commandKeepsTrial_next
  split <;> simp

theorem staleTimerExpiry_keepsTrial (t ch : Nat) (s : State) : CommandKeepsTrial (execStaleTimerExpiry t ch s) s := by
  apply commandKeepsTrial_next
  split
  · exact .refl _
  · split <;> simp

theorem periodicTimerExpiry_keepsTrial (t : Nat) (s : State) : CommandKeepsTrial (execPeriodicTimerExpiry t s) s := by
  apply commandKeepsTrial_next
  split
  · rw [settle_trialView, raiseLive_trialView]
    exact .refl s.trialView
  · exact .refl _

theorem timedHoldExpiry_keepsTrial (t : Nat) (l : Link) (h : Line) (s : State) :
    CommandKeepsTrial (execTimedHoldExpiry t l h s) s := by
  apply commandKeepsTrial_next
  split <;> simp

/-! ### The Scheduler and the Unit -/

theorem grant_keepsTrial (t : Nat) (s : State) : CommandKeepsTrial (execGrant t s) s := by
  apply commandKeepsTrial_next
  split
  · exact .refl _
  next h _ =>
    split
    · exact grantChoice_keepsTrial h (atTime t s)
    · exact .refl _

theorem liveCompletion_keepsTrial (t : Nat) (s : State) : CommandKeepsTrial (execLiveCompletion t s) s := by
  apply commandKeepsTrial_next
  split
  · rw [settle_trialView, publish_trialView]
    exact keeps_idle s.trialView
  · exact .refl _

theorem stageCompletion_keepsTrial (t : Nat) (s : State) : CommandKeepsTrial (execStageCompletion t s) s := by
  apply commandKeepsTrial_next
  split
  · exact (keeps_idle s.trialView).trans (stageDone_keepsTrial _ _ _ { atTime t s with unit := none })
  · exact .refl _

theorem selfCheckCompletion_keepsTrial (t : Nat) (s : State) : CommandKeepsTrial (execSelfCheckCompletion t s) s := by
  apply commandKeepsTrial_next
  split
  · exact (keeps_idle s.trialView).trans (endSelfCheck_keepsTrial _ _ { atTime t s with unit := none })
  · exact .refl _

theorem heldEnterConfig_keepsTrial (t : Nat) (s : State) : CommandKeepsTrial (execHeldEnterConfig t s) s := by
  apply commandKeepsTrial_next
  split
  · exact resolveEnter_keepsTrial (atTime t s)
  · exact .refl _

/-! ### The ends of store jobs -/

theorem saveEnd_keepsTrial (t : Nat) (verified : Bool) (s : State) : CommandKeepsTrial (execSaveEnd t verified s) s := by
  apply commandKeepsTrial_next
  split
  next job => simpa using keeps_giveUp (v := s.trialView) job rfl
  · exact .refl _

theorem recallReadEnd_keepsTrial (t : Nat) (good : Bool) (s : State) : CommandKeepsTrial (execRecallReadEnd t good s) s := by
  apply commandKeepsTrial_next
  split
  next n job =>
    rw [settle_trialView]
    split
    · simpa using keeps_giveUp (v := s.trialView) job rfl
    · simpa using keeps_recalled (v := s.trialView) job rfl
  · exact .refl _

theorem selfCheckReadEnd_keepsTrial (t : Nat) (good : Bool) (s : State) :
    CommandKeepsTrial (execSelfCheckReadEnd t good s) s := by
  apply commandKeepsTrial_next
  split
  next n job =>
    extract_lets s1 fail
    have fails (c : Code) : s.trialView.Keeps (fail c).trialView := by
      simpa [fail, s1] using keeps_giveUp (v := s.trialView) job rfl
    split
    · exact fails _
    · exact fails _
    · split
      · exact fails _
      · exact keeps_fill job rfl rfl
  · exact .refl _

theorem referenceWriteEnd_keepsTrial (t : Nat) (verified : Bool) (s : State) :
    CommandKeepsTrial (execReferenceWriteEnd t verified s) s := by
  apply commandKeepsTrial_next
  split
  next job => simpa using keeps_end (v := s.trialView) job rfl
  · exact .refl _

theorem lockEnd_keepsTrial (t : Nat) (verified : Bool) (s : State) : CommandKeepsTrial (execLockEnd t verified s) s := by
  apply commandKeepsTrial_next
  split
  next job => cases verified <;> simpa using keeps_end (v := s.trialView) job rfl
  · exact .refl _

theorem freezeEnd_keepsTrial (t : Nat) (verified : Bool) (s : State) : CommandKeepsTrial (execFreezeEnd t verified s) s := by
  apply commandKeepsTrial_next
  split
  next job =>
    rw [settle_trialView, endJob_trialView]
    cases verified <;> exact keeps_end (v := s.trialView) job rfl
  · exact .refl _

theorem identityWriteEnd_keepsTrial (t : Nat) (verified : Bool) (s : State) :
    CommandKeepsTrial (execIdentityWriteEnd t verified s) s := by
  apply commandKeepsTrial_next
  split
  next job =>
    rw [settle_trialView, endJob_trialView]
    cases verified <;> exact keeps_end (v := s.trialView) job rfl
  · exact .refl _

theorem leaveConfigWriteEnd_keepsTrial (t : Nat) (failed : Option Nat) (s : State) :
    CommandKeepsTrial (execLeaveConfigWriteEnd t failed s) s := by
  apply commandKeepsTrial_next
  split
  next w job _ =>
    cases failed with
    | none =>
      rw [settle_trialView]
      split
      · exact leaveWritten_keepsTrial w (s := atTime t s) job
      · exact repairWritten_keepsTrial w (s := atTime t s) job
    | some n =>
      dsimp only
      split
      · exact leaveFailed_keepsTrial w n (s := atTime t s) job
      · exact .refl _
  · exact .refl _

/-! ### All of them -/

theorem exec_keepsTrial (c : Instr) (s : State) : CommandKeepsTrial (exec c s) s := by
  match c with
  | .powerOn t cut => exact commandKeepsTrial_next (resetWith_keepsTrial _ _ _)
  | .resetLine t cut => exact commandKeepsTrial_next (resetWith_keepsTrial _ _ _)
  | .startUpEnd t badSections badSlots => exact startUpEnd_keepsTrial _ _ _ _
  | .restart t => exact restart_keepsTrial _ _
  | .segmentArrival t l u => exact segmentArrival_keepsTrial _ _ _ _
  | .replyUnit t l u => exact replyUnit_keepsTrial _ _ _ _
  | .resendTimerExpiry t l => exact resendTimerExpiry_keepsTrial _ _ _
  | .linkReset t l => exact linkReset_keepsTrial _ _ _
  | .unknownRequestKind t l => exact request_keepsTrial_of_view fun _ _ => rfl
  | .changeSetMessage t l => exact request_keepsTrial_of_view (changeSetAct_trialView l)
  | .readSets t l => exact request_keepsTrial_of_view fun _ _ => rfl
  | .attach t l => exact request_keepsTrial_of_view (attachAct_trialView l)
  | .detach t l => exact request_keepsTrial_of_view (detachAct_trialView l)
  | .forceLand t l => exact request_keepsTrial_of_view (forceLandAct_trialView l)
  | .readHooks t l => exact request_keepsTrial_of_view fun _ _ => rfl
  | .stepAppend t l => exact request_keepsTrial_of_view (stepAppendAct_trialView l)
  | .stepWithdraw t l => exact request_keepsTrial_of_view (stepWithdrawAct_trialView l)
  | .stepDone t l => exact request_keepsTrial_of_view (stepDoneAct_trialView l)
  | .seqSet t l => exact request_keepsTrial_of_view (seqSetAct_trialView l)
  | .readSequence t l => exact request_keepsTrial_of_view (readSequenceAct_trialView l)
  | .readLookahead t l => exact request_keepsTrial_of_view fun _ _ => rfl
  | .channelSet t l => exact request_keepsTrial_of_view (channelSetAct_trialView l)
  | .channelEnable t l => exact request_keepsTrial_of_view (channelEnableAct_trialView l)
  | .channelDisable t l => exact request_keepsTrial_of_view (channelDisableAct_trialView l)
  | .readChannels t l => exact request_keepsTrial_of_view (readChannelsAct_trialView l)
  | .holdAck t l => exact request_keepsTrial_of_view (holdAckAct_trialView l)
  | .timedHold t l => exact request_keepsTrial_of_view (timedHoldAct_trialView l)
  | .readHolds t l => exact request_keepsTrial_of_view fun _ _ => rfl
  | .readVerdict t l => exact request_keepsTrial_of_view (readVerdictAct_trialView l)
  | .evaluateNow t l => exact request_keepsTrial_of_view (evaluateNowAct_trialView l)
  | .readScheduler t l => exact request_keepsTrial_of_view fun _ _ => rfl
  | .readCondition t l => exact request_keepsTrial_of_view (readConditionAct_trialView l)
  | .enterConfig t l => exact request_keepsTrial (enterConfigAct_keepsTrial l)
  | .heldEnterConfig t => exact heldEnterConfig_keepsTrial _ _
  | .hullWrite t l => exact request_keepsTrial_of_view (hullWriteAct_trialView l)
  | .leaveConfig t l => exact request_keepsTrial (leaveConfigAct_keepsTrial l)
  | .leaveConfigWriteEnd t failed => exact leaveConfigWriteEnd_keepsTrial _ _ _
  | .save t l => exact request_keepsTrial (saveAct_keepsTrial l)
  | .saveEnd t verified => exact saveEnd_keepsTrial _ _ _
  | .recall t l => exact request_keepsTrial (recallAct_keepsTrial l)
  | .recallReadEnd t checkGood => exact recallReadEnd_keepsTrial _ _ _
  | .selfCheck t l => exact request_keepsTrial (selfCheckAct_keepsTrial l)
  | .selfCheckReadEnd t checkGood => exact selfCheckReadEnd_keepsTrial _ _ _
  | .referenceWrite t l => exact request_keepsTrial (referenceWriteAct_keepsTrial l)
  | .referenceWriteEnd t verified => exact referenceWriteEnd_keepsTrial _ _ _
  | .lock t l => exact request_keepsTrial (lockAct_keepsTrial l)
  | .lockEnd t verified => exact lockEnd_keepsTrial _ _ _
  | .freeze t l => exact request_keepsTrial (freezeAct_keepsTrial l)
  | .freezeEnd t verified => exact freezeEnd_keepsTrial _ _ _
  | .identityWrite t l => exact request_keepsTrial (identityWriteAct_keepsTrial l)
  | .identityWriteEnd t verified => exact identityWriteEnd_keepsTrial _ _ _
  | .releaseTrial t l => exact request_keepsTrial fun _ s => releaseRecalled_keepsTrial s
  | .adopt t l => exact request_keepsTrial (adoptAct_keepsTrial l)
  | .readStore t l => exact request_keepsTrial_of_view fun _ _ => rfl
  | .readArchive t l => exact request_keepsTrial_of_view fun _ _ => rfl
  | .readIdentity t l => exact request_keepsTrial_of_view fun _ _ => rfl
  | .readHull t l => exact request_keepsTrial_of_view (readHullAct_trialView l)
  | .noticeSelect t l => exact request_keepsTrial_of_view fun _ _ => rfl
  | .linkSet t l => exact request_keepsTrial_of_view fun _ _ => rfl
  | .readSummary t l => exact request_keepsTrial_of_view fun _ _ => rfl
  | .sampleFrame t u => exact sampleFrame_keepsTrial _ _ _
  | .staleTimerExpiry t ch => exact staleTimerExpiry_keepsTrial _ _ _
  | .periodicTimerExpiry t => exact periodicTimerExpiry_keepsTrial _ _
  | .timedHoldExpiry t l h => exact timedHoldExpiry_keepsTrial _ _ _ _
  | .grant t => exact grant_keepsTrial _ _
  | .liveCompletion t => exact liveCompletion_keepsTrial _ _
  | .stageCompletion t => exact stageCompletion_keepsTrial _ _
  | .selfCheckCompletion t => exact selfCheckCompletion_keepsTrial _ _
  | .linkBreakEnd t l => exact linkBreakEnd_keepsTrial _ _ _

theorem steps_keep_trialOwned : KeptByStep State.trialOwned :=
  keptByStep_of_exec (fun _ _ owned => owned) fun c s owned s' run =>
    (trialOwned_iff s').mpr ((exec_keepsTrial c s s' run).owned ((trialOwned_iff s).mp owned))

theorem steps_keep_sumsHeld : KeptByStep State.sumsHeld :=
  keptByStep_of_exec (fun _ _ held => held) fun c s held s' run =>
    (sumsHeld_iff s').mpr ((exec_keepsTrial c s s' run).summed ((sumsHeld_iff s).mp held))

/-- Settles O55: each command moves the view of TRIAL, the runs, the jobs and the Unit only in ways that lose neither
property. -/
theorem stepsKeepTrialOwnedAndSums : Obligations.StepsKeepTrialOwnedAndSums :=
  ⟨steps_keep_trialOwned, steps_keep_sumsHeld⟩

end Sys2Proof.Machine

/-! PROOF. What the reads of the condition, the hooks, the channels, the lines and the sets answer (R21, R39, R63, R82,
R132). -/

namespace Sys2Proof.Machine

/-! ## READ-CONDITION (R21) -/

/-- The area a READ-CONDITION asks for. -/
def State.askedArea (s : State) (trial : Bool) : Area := if trial = true then s.trial else s.live

@[simp] theorem askedArea_handed (t : Nat) (l : Link) (s : State) (trial : Bool) :
    (handed t l s).askedArea trial = s.askedArea trial := rfl

/-- What a part shows depends neither on the time nor on the queue the request stood in. -/
@[simp] theorem partContent_handed (t : Nat) (l : Link) (s : State) (a : Area) (p : ConditionPart) :
    partContent (handed t l s) a p = partContent s a p := by
  cases p <;> rfl

/-- The parts an area does not have: a lot it does not hold, and tanks from beyond its last (R21). -/
theorem partContent_eq_none_iff (s : State) (a : Area) (p : ConditionPart) :
    partContent s a p = none ↔
      (∃ id, p = .lot id ∧ a.findLot id = none) ∨ ∃ first n, p = .tanks first n ∧ a.tanks.length ≤ first := by
  cases p <;> simp [partContent]

section

variable {l : Link} {trial : Bool} {p : ConditionPart} {s : State}

/-- TRIAL is shown in RECALLED alone. -/
theorem readConditionAct_refusedState (asks : trial = true) (other : s.owner ≠ .recalled) :
    readConditionAct l (trial, p) s = (s, .answer .refusedState []) := by
  unfold readConditionAct
  rw [if_pos (by simp [asks, other])]
  rfl

theorem readConditionAct_unknownItem (shown : trial = true → s.owner = .recalled)
    (absent : partContent s (s.askedArea trial) p = none) :
    readConditionAct l (trial, p) s = (s, .answer .unknownItem []) := by
  unfold State.askedArea at absent
  unfold readConditionAct
  rw [if_neg (by simpa using shown)]
  simp only [absent]
  rfl

/-- A part is answered with the area and the version of LIVE, whichever area it is of. -/
theorem readConditionAct_done {bs : List Byte} (shown : trial = true → s.owner = .recalled)
    (content : partContent s (s.askedArea trial) p = some bs) :
    readConditionAct l (trial, p) s = (s, .answer .done (bs ++ flagByte trial ++ be 4 s.version.toNat)) := by
  unfold State.askedArea at content
  unfold readConditionAct
  rw [if_neg (by simpa using shown)]
  simp only [content]
  rfl

end

section

variable {t : Nat} {l : Link} {m : InMsg} {trial : Bool} {p : ConditionPart} {s : State}

theorem readCondition_refusedState (taken : Taken 23 readConditionForm l m (trial, p) s) (asks : trial = true)
    (other : s.owner ≠ .recalled) :
    exec (.readCondition t l) s = .next (answered l 23 m .refusedState [] (handed t l s)) :=
  congrArg Host.Outcome.next (request_answered taken rfl (readConditionAct_refusedState asks other))

theorem readCondition_unknownItem (taken : Taken 23 readConditionForm l m (trial, p) s)
    (shown : trial = true → s.owner = .recalled) (absent : partContent s (s.askedArea trial) p = none) :
    exec (.readCondition t l) s = .next (answered l 23 m .unknownItem [] (handed t l s)) :=
  congrArg Host.Outcome.next
    (request_answered taken rfl (readConditionAct_unknownItem shown (by simpa using absent)))

theorem readCondition_done {bs : List Byte} (taken : Taken 23 readConditionForm l m (trial, p) s)
    (shown : trial = true → s.owner = .recalled) (content : partContent s (s.askedArea trial) p = some bs) :
    exec (.readCondition t l) s =
      .next (answered l 23 m .done (bs ++ flagByte trial ++ be 4 s.version.toNat) (handed t l s)) :=
  congrArg Host.Outcome.next
    (request_answered taken rfl (readConditionAct_done (s := handed t l s) shown (by simpa using content)))

end

/-! ## The reads of the hooks, the channels, the lines and the sets -/

section

variable {t : Nat} {l : Link} {m : InMsg} {s : State}

/-- READ-HOOKS (R63). -/
theorem readHooks_done (taken : Taken 6 noFields l m () s) :
    exec (.readHooks t l) s = .next (answered l 6 m .done
      (listField ((numbered 1 s.cranes).map fun c => hookAnswer s c.1 c.2) ++ be 4 s.version.toNat) (handed t l s)) :=
  congrArg Host.Outcome.next (request_answered taken rfl rfl)

theorem readChannelsAct_done {first : Nat} (n : Nat) (held : first < 24) :
    readChannelsAct l (first, n) s = (s, .answer .done
      (listField (((s.bank.channels.drop first).take n).map (channelAnswer s.now)) ++ be 2 s.bank.errors)) := by
  unfold readChannelsAct
  exact if_neg (Nat.not_le.mpr held)

theorem readChannelsAct_unknownItem {first : Nat} (n : Nat) (beyond : 24 ≤ first) :
    readChannelsAct l (first, n) s = (s, .answer .unknownItem []) := by
  unfold readChannelsAct
  exact if_pos beyond

/-- READ-CHANNELS (R82), the times left counted from the reading of the command. -/
theorem readChannels_done {first n : Nat} (taken : Taken 16 readChannelRange l m (first, n) s) (held : first < 24) :
    exec (.readChannels t l) s = .next (answered l 16 m .done
      (listField (((s.bank.channels.drop first).take n).map (channelAnswer (max s.now t))) ++ be 2 s.bank.errors)
      (handed t l s)) :=
  congrArg Host.Outcome.next (request_answered taken rfl (readChannelsAct_done n held))

theorem readChannels_unknownItem {first n : Nat} (taken : Taken 16 readChannelRange l m (first, n) s)
    (beyond : 24 ≤ first) :
    exec (.readChannels t l) s = .next (answered l 16 m .unknownItem [] (handed t l s)) :=
  congrArg Host.Outcome.next (request_answered taken rfl (readChannelsAct_unknownItem n beyond))

theorem readHoldsAct_done : readHoldsAct l () s = (s, .answer .done
    (lineAnswer s .a ++ lineAnswer s .b ++ lineAnswer s .c ++ lineAnswer s .d ++ be 2 s.serial
      ++ be 1 s.device.num)) := by
  simp [readHoldsAct, allLines]

/-- READ-HOLDS (R132). -/
theorem readHolds_done (taken : Taken 19 noFields l m () s) :
    exec (.readHolds t l) s = .next (answered l 19 m .done
      (lineAnswer (handed t l s) .a ++ lineAnswer (handed t l s) .b ++ lineAnswer (handed t l s) .c
        ++ lineAnswer (handed t l s) .d ++ be 2 s.serial ++ be 1 s.device.num) (handed t l s)) :=
  congrArg Host.Outcome.next (request_answered taken rfl readHoldsAct_done)

/-- READ-SETS (R39): the requesting link's own open sets and outcomes. -/
theorem readSets_done (taken : Taken 2 noFields l m () s) :
    exec (.readSets t l) s = .next (answered l 2 m .done
      (optField 2 ((s.sets.get l).open1.map fun o => be 1 o.tag ++ be 1 o.edits.length)
        ++ optField 2 ((s.sets.get l).open2.map fun o => be 1 o.tag ++ be 1 o.edits.length)
        ++ listField (s.ready.map fun r => be 1 (linkNum r.link) ++ be 1 r.tag ++ be 1 r.edits.length)
        ++ listField ((s.sets.get l).outcomes.map outcomeBytes) ++ be 4 s.version.toNat) (handed t l s)) :=
  congrArg Host.Outcome.next (request_answered taken rfl rfl)

end

/-- Settles O15: each read is answered at its taking by a block that leaves the state as it was handed to it. -/
theorem readsOfTheShipAnswer : Obligations.ReadsOfTheShipAnswer := by
  unfold Obligations.ReadsOfTheShipAnswer
  intro t l s m
  refine ⟨?live, ?trial, ?refusals, ?hooks, ?channels, ?beyond, ?holds, ?sets⟩
  case live => exact fun p bs taken content => readCondition_done (trial := false) taken nofun content
  case trial => exact fun p bs taken recalled content => readCondition_done (trial := true) taken (fun _ => recalled) content
  case refusals =>
    intro trial p taken
    exact ⟨fun asks other => readCondition_refusedState taken asks other,
      fun shown absent => readCondition_unknownItem taken shown ((partContent_eq_none_iff _ _ _).mpr absent)⟩
  case hooks => exact fun taken => readHooks_done taken
  case channels => exact fun first n taken held => readChannels_done taken held
  case beyond => exact fun first n taken beyond => readChannels_unknownItem taken beyond
  case holds => exact fun taken => readHolds_done taken
  case sets => exact fun taken => readSets_done taken

end Sys2Proof.Machine

/-! PROOF. What can become of a request, case by case (R199). -/

namespace Sys2Proof.Machine

/-- A request is not due and changes nothing, or is refused with the state handed over, or is taken in good form and
with the right, and its owning block acts (R199). -/
theorem request_cases {α : Type} {kind : Nat} {form : Reader α} {right : Link → α → Bool}
    {act : Link → α → State → State × Reply} {t : Nat} (l : Link) (s : State) :
    request kind form right act t l s = s
      ∨ (∃ m code, request kind form right act t l s = answered l kind m code [] (handed t l s))
      ∨ ∃ m a, Taken kind form l m a s ∧ right l a = true ∧ request kind form right act t l s =
          settle (respond l kind m.requestTag (act l a (handed t l s)).2 (act l a (handed t l s)).1) := by
  cases due : takeable kind l s with
  | none => exact .inl (request_not_due due)
  | some m =>
    right
    by_cases broken : m.malformed = true
    · exact .inl ⟨m, _, request_malformed due (.inl broken)⟩
    · cases read : readWhole form (m.bytes.drop 3) with
      | none => exact .inl ⟨m, _, request_malformed due (.inr read)⟩
      | some a =>
        have taken : Taken kind form l m a s := ⟨due, Bool.eq_false_iff.mpr broken, read⟩
        by_cases given : right l a = true
        · exact .inr ⟨m, a, taken, given, request_handed taken given⟩
        · exact .inl ⟨m, _, request_refusedRights taken (Bool.eq_false_iff.mpr given)⟩

end Sys2Proof.Machine

/-! PROOF. What R9, R25, R28 and R38 bound as a view of the state: the Stager, and the lot ids of both areas and of
every slot; and the moves of the view that keep it within those bounds. -/

namespace Sys2Proof.Machine

/-! ## Reading a message's fields

A reader that goes on after another one: the first has taken its field, the second the rest. -/

theorem reader_bind_eq_some {α β : Type} {x : Reader α} {f : α → Reader β} {bs : List Byte} {r : β × List Byte}
    (h : (x >>= f) bs = some r) : ∃ a rest, x bs = some (a, rest) ∧ f a rest = some r := by
  obtain ⟨⟨a, rest⟩, field, goesOn⟩ := Option.bind_eq_some_iff.mp h
  exact ⟨a, rest, field, goesOn⟩

theorem require_eq_some {b : Bool} {bs rest : List Byte} (h : require b bs = some ((), rest)) : b = true := by
  unfold require at h
  split at h
  next good => exact good
  · cases h

theorem readMany_length {α : Type} {entry : Reader α} {n : Nat} {bs rest : List Byte} {xs : List α}
    (h : readMany entry n bs = some (xs, rest)) : xs.length = n := by
  induction n generalizing bs rest xs with
  | zero =>
    cases h
    rfl
  | succ n ih =>
    obtain ⟨v, bs1, -, h⟩ := reader_bind_eq_some h
    obtain ⟨vs, bs2, others, h⟩ := reader_bind_eq_some h
    cases h
    rw [List.length_cons, ih others]

/-- A change-set message holds 1 to 16 edits (R22). -/
theorem readSetMessage_edits {body : List Byte} {q : SetMessage} (read : readWhole readSetMessage body = some q) :
    1 ≤ q.edits.length ∧ q.edits.length ≤ 16 := by
  unfold readWhole at read
  split at read
  next v whole =>
    cases read
    obtain ⟨tag, bs1, -, h⟩ := reader_bind_eq_some whole
    obtain ⟨⟨⟩, bs2, -, h⟩ := reader_bind_eq_some h
    obtain ⟨final, bs3, -, h⟩ := reader_bind_eq_some h
    obtain ⟨n, bs4, -, h⟩ := reader_bind_eq_some h
    obtain ⟨⟨⟩, bs5, count, h⟩ := reader_bind_eq_some h
    obtain ⟨edits, bs6, many, h⟩ := reader_bind_eq_some h
    cases h
    rw [readMany_length many]
    simpa using require_eq_some count
  · cases read

/-! ## Lists of lot ids (R9) -/

/-- The lot ids of an area, in list order. -/
def Area.ids (a : Area) : List Nat := a.lots.map (·.id)

/-- The lot ids of the image a slot holds. -/
def Slot.ids (v : Slot) : List Nat := v.lots.map (·.id)

/-- Lot ids that R9 allows in one list. -/
def IdsStand (ids : List Nat) : Prop := ids.length ≤ 512 ∧ ids.Nodup

theorem lotsDistinct_iff (lots : List Lot) : lotsDistinct lots ↔ IdsStand (lots.map (·.id)) := by
  simp [lotsDistinct, IdsStand]

/-- Lots that leave a list leave it within R9. -/
theorem IdsStand.sublist {ids ids' : List Nat} (stand : IdsStand ids) (sub : ids'.Sublist ids) : IdsStand ids' :=
  ⟨sub.length_le.trans stand.1, stand.2.sublist sub⟩

/-- A new id joins a list that has room for it. -/
theorem IdsStand.append {ids : List Nat} {id : Nat} (stand : IdsStand ids) (room : ids.length < 512)
    (new : id ∉ ids) : IdsStand (ids ++ [id]) :=
  ⟨by simpa using room, stand.2.append (List.nodup_singleton id) (by simpa using new)⟩

theorem ids_eq_nil_iff (a : Area) : a.ids = [] ↔ a.lots = [] := List.map_eq_nil_iff

@[simp] theorem empty_ids : Area.empty.ids = [] := rfl
@[simp] theorem setAttached_ids (a : Area) (crane : Nat) (x : Option Nat) : (a.setAttached crane x).ids = a.ids := rfl
@[simp] theorem modifyTank_ids (a : Area) (tank : Nat) (f : TankState → TankState) :
    (a.modifyTank tank f).ids = a.ids := rfl
@[simp] theorem unpair_ids (a : Area) (id : Nat) : (a.unpair id).ids = a.ids := rfl

/-- A record put in place of the one with its id changes no id. -/
@[simp] theorem putLot_ids (a : Area) (x : Lot) : (a.putLot x).ids = a.ids := by
  unfold Area.ids Area.putLot
  rw [List.map_map]
  apply List.map_congr_left
  intro y _
  dsimp only [Function.comp]
  split
  next same => exact (beq_iff_eq.mp same).symm
  · rfl

theorem freeLot_ids (a : Area) (id : Nat) : (a.freeLot id).ids.Sublist a.ids := List.filter_sublist.map _

theorem findLot_eq_none_iff (a : Area) (id : Nat) : a.findLot id = none ↔ id ∉ a.ids := by
  simp [Area.findLot, Area.ids]

/-- Lots taken over one by one, some of them left out, come without new ids. -/
theorem filterMap_ids {f : Lot → Option Lot} (same : ∀ x y, f x = some y → y.id = x.id) (lots : List Lot) :
    ((lots.filterMap f).map (·.id)).Sublist (lots.map (·.id)) := by
  induction lots with
  | nil => exact .refl _
  | cons x lots ih =>
    rw [List.filterMap_cons, List.map_cons]
    split
    · exact ih.cons _
    next y taken =>
      rw [List.map_cons, same x y taken]
      exact ih.cons_cons _

theorem settleLot_id (x y : Lot) (h : settleLot x = some y) : y.id = x.id := by
  unfold settleLot at h
  split at h
  · split at h <;> cases h
    rfl
  · cases h
    rfl

theorem imaged_id (x y : Lot) (h : x.imaged = some y) : y.id = x.id := by
  unfold Lot.imaged at h
  split at h <;> cases h <;> rfl

@[simp] theorem keepStow_id (spaces : List SpaceRec) (x : Lot) : (keepStow spaces x).id = x.id := by
  unfold keepStow
  split
  · rfl
  · split
    · rfl
    · split <;> rfl

/-- A planned stow kept or removed changes no id (R20, R185). -/
theorem map_keepStow_ids (spaces : List SpaceRec) (lots : List Lot) :
    (lots.map (keepStow spaces)).map (·.id) = lots.map (·.id) := by
  simp

theorem baseArea_ids (a : Area) : (baseArea a).ids.Sublist a.ids := filterMap_ids settleLot_id a.lots

theorem imageOf_ids (a : Area) (version : Version) (serial : Nat) (ref : Option Reference) :
    (Slot.good (imageOf a version serial) ref).ids.Sublist a.ids := filterMap_ids imaged_id a.lots

theorem loadImage_ids (i : Image) (spaces : List SpaceRec) (tanks : List TankRec) (cranes : List CraneRec)
    (chs : List Channel) (allStated : Bool) (ref : Option Reference) :
    (loadImage i spaces tanks cranes chs allStated).ids = (Slot.good i ref).ids := map_keepStow_ids _ _

@[simp] theorem withRef_ids (v : Slot) (ref : Option Reference) : (v.withRef ref).ids = v.ids := by
  cases v <;> rfl

theorem stageApply_ids (a : Area) (st : Stage) : (st.apply a).ids.Sublist a.ids := by
  cases st with
  | inHand step id c d =>
    unfold Stage.apply
    dsimp only
    split <;> simp
  | stowed step id d =>
    cases d with
    | ashore => exact freeLot_ids a id
    | aboard p =>
      unfold Stage.apply
      dsimp only
      split <;> simp
  | ballast step tank v => exact .refl _

/-! ## The view -/

/-- The Stager, and the lot ids of LIVE, of TRIAL and of every slot. -/
structure CargoView where
  sets : PerLink LinkSets
  ready : List ReadySet
  live : List Nat
  trial : List Nat
  slots : List (List Nat)

def State.cargoView (s : State) : CargoView :=
  { sets := s.sets, ready := s.ready, live := s.live.ids, trial := s.trial.ids, slots := s.store.slots.map Slot.ids }

namespace CargoView

variable {v v' v'' : CargoView} {ids ids' : List Nat}

/-- The Stager within its capacities (R25, R28, R38), in the terms of the view. -/
structure SetsBounded (v : CargoView) : Prop where
  links : ∀ l, (v.sets.get l).bounded
  few : v.ready.length ≤ 8
  each : ∀ r ∈ v.ready, 1 ≤ r.edits.length ∧ r.edits.length ≤ 32

/-- That a list of ids is the one of LIVE, of TRIAL or of a slot. -/
def Holds (v : CargoView) (ids : List Nat) : Prop := ids = v.live ∨ ids = v.trial ∨ ids ∈ v.slots

/-- Every lot list within R9, in the terms of the view. -/
def LotsStand (v : CargoView) : Prop := ∀ ids, v.Holds ids → IdsStand ids

/-- That the ids come, in their order, from one list held: some may be left out, none is added. -/
def Draws (v : CargoView) (ids : List Nat) : Prop := ∃ source, v.Holds source ∧ ids.Sublist source

theorem draws_live (sub : ids.Sublist v.live) : v.Draws ids := ⟨v.live, .inl rfl, sub⟩

theorem draws_trial (sub : ids.Sublist v.trial) : v.Draws ids := ⟨v.trial, .inr (.inl rfl), sub⟩

theorem draws_slot (held : ids ∈ v.slots) : v.Draws ids := ⟨ids, .inr (.inr held), .refl _⟩

@[simp] theorem draws_nil : v.Draws [] := draws_live (List.nil_sublist _)

theorem LotsStand.of_draws (stand : v.LotsStand) (drawn : v.Draws ids) : IdsStand ids := by
  obtain ⟨source, held, sub⟩ := drawn
  exact (stand source held).sublist sub

/-! ## Moves of the view that stay within the bounds -/

/-- Going from one view to another leaves neither the Stager's capacities nor R9. -/
structure Keeps (v v' : CargoView) : Prop where
  sets : v.SetsBounded → v'.SetsBounded
  lots : v.LotsStand → v'.LotsStand

@[simp] theorem Keeps.refl (v : CargoView) : v.Keeps v := ⟨id, id⟩

theorem Keeps.of_eq (h : v' = v) : v.Keeps v' := h ▸ .refl v

theorem Keeps.trans (h : v.Keeps v') (h' : v'.Keeps v'') : v.Keeps v'' := ⟨h'.sets ∘ h.sets, h'.lots ∘ h.lots⟩

/-- Only the Stager moves. -/
theorem keeps_stager {sets : PerLink LinkSets} {ready : List ReadySet}
    (bounded : v.SetsBounded → SetsBounded { v with sets := sets, ready := ready }) :
    v.Keeps { v with sets := sets, ready := ready } := ⟨bounded, id⟩

/-- Every list held afterwards is drawn from one held before. -/
theorem lotsStand_of_draws (drawn : ∀ ids, v'.Holds ids → v.Draws ids) (stand : v.LotsStand) : v'.LotsStand :=
  fun ids held => stand.of_draws (drawn ids held)

/-- LIVE takes lots within R9. -/
theorem keeps_live_of (stands : v.LotsStand → IdsStand ids) : v.Keeps { v with live := ids } where
  sets := fun ⟨links, few, each⟩ => ⟨links, few, each⟩
  lots stand := by
    rintro _ (rfl | held)
    · exact stands stand
    · exact stand _ (.inr held)

/-- LIVE takes lots from a list held. -/
theorem keeps_live (drawn : v.Draws ids) : v.Keeps { v with live := ids } :=
  keeps_live_of fun stand => stand.of_draws drawn

/-- TRIAL takes lots from a list held. -/
theorem keeps_trial (drawn : v.Draws ids) : v.Keeps { v with trial := ids } where
  sets := fun ⟨links, few, each⟩ => ⟨links, few, each⟩
  lots := lotsStand_of_draws <| by
    rintro _ (rfl | rfl | held)
    · exact draws_live (.refl _)
    · exact drawn
    · exact draws_slot held

/-- Slots keep their lots, lose them or take them from a list held. -/
theorem keeps_slots {slots : List (List Nat)} (drawn : ∀ ids ∈ slots, v.Draws ids) :
    v.Keeps { v with slots := slots } where
  sets := fun ⟨links, few, each⟩ => ⟨links, few, each⟩
  lots := lotsStand_of_draws <| by
    rintro _ (rfl | rfl | held)
    · exact draws_live (.refl _)
    · exact draws_trial (.refl _)
    · exact drawn _ held

/-- One slot takes lots from a list held. -/
theorem keeps_slot (n : Nat) (drawn : v.Draws ids) : v.Keeps { v with slots := v.slots.set n ids } := by
  apply keeps_slots
  intro ids' held
  rcases List.mem_or_eq_of_mem_set held with held | rfl
  · exact draws_slot held
  · exact drawn

end CargoView

open CargoView

theorem setsBounded_iff (s : State) : s.setsBounded ↔ s.cargoView.SetsBounded :=
  ⟨fun ⟨links, few, each⟩ => ⟨links, few, each⟩, fun ⟨links, few, each⟩ => ⟨links, few, each⟩⟩

theorem lotsStand_iff (s : State) : s.lotsStand ↔ s.cargoView.LotsStand := by
  simp only [State.lotsStand, lotsDistinct_iff]
  constructor
  · rintro ⟨live, trial, slots⟩ ids (rfl | rfl | held)
    · exact live
    · exact trial
    · obtain ⟨v, mem, rfl⟩ := List.mem_map.mp held
      exact slots v mem
  · intro stand
    exact ⟨stand _ (.inl rfl), stand _ (.inr (.inl rfl)), fun v mem => stand _ (.inr (.inr (List.mem_map_of_mem mem)))⟩

end Sys2Proof.Machine

/-! PROOF. Which operations, and which owning blocks of requests, leave the view of the Stager and the lot lists as it
is. -/

namespace Sys2Proof.Machine

/-! ## What leaves the view as it is

One lemma per operation that touches none of the view's fields, or writes lots back under their own ids. -/

@[simp] theorem atTime_cargoView (t : Nat) (s : State) : (atTime t s).cargoView = s.cargoView := rfl
@[simp] theorem modifyLiu_cargoView (l : Link) (f : Liu → Liu) (s : State) :
    (modifyLiu l f s).cargoView = s.cargoView := rfl
@[simp] theorem handed_cargoView (t : Nat) (l : Link) (s : State) : (handed t l s).cargoView = s.cargoView := rfl
@[simp] theorem settle_cargoView (s : State) : (settle s).cargoView = s.cargoView := rfl
@[simp] theorem bumpVersion_cargoView (s : State) : (bumpVersion s).cargoView = s.cargoView := rfl
@[simp] theorem startJob_cargoView (j : Job) (s : State) : (startJob j s).cargoView = s.cargoView := rfl
@[simp] theorem putChannel_cargoView (ch : Nat) (c : Channel) (s : State) :
    (putChannel ch c s).cargoView = s.cargoView := rfl
@[simp] theorem putEntry_cargoView (n : Nat) (e : DirEntry) (s : State) : (putEntry n e s).cargoView = s.cargoView := rfl
@[simp] theorem modifyTracker_cargoView (crane : Nat) (f : Attachment → Attachment) (s : State) :
    (modifyTracker crane f s).cargoView = s.cargoView := rfl
@[simp] theorem answerOwed_cargoView (enter : Bool) (code : Code) (body : List Byte) (restart : Bool) (s : State) :
    (answerOwed enter code body restart s).cargoView = s.cargoView := rfl
@[simp] theorem awaitRestart_cargoView (s : State) : (awaitRestart s).cargoView = s.cargoView := rfl
@[simp] theorem suspendRun_cargoView (s : State) : (suspendRun s).cargoView = s.cargoView := rfl

@[simp] theorem markWriteError_cargoView (failed : Bool) (s : State) :
    (markWriteError failed s).cargoView = s.cargoView := by
  cases failed <;> rfl

@[simp] theorem setLock_cargoView (q : Target) (s : State) : (setLock q s).cargoView = s.cargoView := by
  cases q <;> rfl

@[simp] theorem markDelivered_cargoView (o : Outbound) (r : ReplyKind) (s : State) :
    (markDelivered o r s).cargoView = s.cargoView := by
  unfold markDelivered
  split <;> rfl

@[simp] theorem respond_cargoView (l : Link) (kind tag : Nat) (r : Reply) (s : State) :
    (respond l kind tag r s).cargoView = s.cargoView := by
  rw [respond_only]
  rfl

@[simp] theorem raiseNotice_cargoView (forced : Link → Bool) (n : Notice) (s : State) :
    (raiseNotice forced n s).cargoView = s.cargoView := by
  rw [raiseNotice_only]
  rfl

@[simp] theorem archiveNotice_cargoView (k : JobKind) (q : Option Target) (c : Code) (x : Option (Option Quantity))
    (s : State) : (archiveNotice k q c x s).cargoView = s.cargoView := raiseNotice_cargoView _ _ _

@[simp] theorem endJobWith_cargoView (restart : Bool) (k : JobKind) (q : Option Target) (c : Code)
    (x : Option (Option Quantity)) (body : List Byte) (s : State) :
    (endJobWith restart k q c x body s).cargoView = s.cargoView := by
  unfold endJobWith
  rw [archiveNotice_cargoView]
  rfl

@[simp] theorem endJob_cargoView (k : JobKind) (q : Option Target) (c : Code) (x : Option (Option Quantity))
    (body : List Byte) (s : State) : (endJob k q c x body s).cargoView = s.cargoView :=
  endJobWith_cargoView _ _ _ _ _ _ _

@[simp] theorem cancelAdopt_cargoView (s : State) : (cancelAdopt s).cargoView = s.cargoView := by
  unfold cancelAdopt
  split
  · rw [archiveNotice_cargoView]
    rfl
  · rfl

@[simp] theorem abandonLook_cargoView (s : State) : (abandonLook s).cargoView = s.cargoView := by
  rw [abandonLook_only]
  rfl

@[simp] theorem raiseLive_cargoView (c : Cause) (s : State) : (raiseLive c s).cargoView = s.cargoView := by
  rw [raiseLive_only]
  rfl

@[simp] theorem recompute_cargoView (h : Line) (s : State) : (recompute h s).cargoView = s.cargoView := by
  rw [recompute_only]
  rfl

@[simp] theorem recomputeLines_cargoView (hs : List Line) (s : State) :
    (recomputeLines hs s).cargoView = s.cargoView := by
  rw [recomputeLines_only]
  rfl

@[simp] theorem recomputeAll_cargoView (s : State) : (recomputeAll s).cargoView = s.cargoView :=
  recomputeLines_cargoView _ _

@[simp] theorem recomputeMask_cargoView (m : LineSet) (s : State) : (recomputeMask m s).cargoView = s.cargoView :=
  recomputeLines_cargoView _ _

@[simp] theorem setHoldTimer_cargoView (l : Link) (h : Line) (timer : Option Nat) (s : State) :
    (setHoldTimer l h timer s).cargoView = s.cargoView := by
  unfold setHoldTimer
  rw [recompute_cargoView]
  rfl

@[simp] theorem dropTimers_cargoView (l : Link) (s : State) : (dropTimers l s).cargoView = s.cargoView := by
  unfold dropTimers
  rw [recomputeLines_cargoView]
  rfl

/-! ### Movements and channels -/

/-- A LIVE whose lots have the ids they had shows the same view. -/
theorem cargoView_of_live (s : State) {a : Area} (same : a.ids = s.live.ids) :
    State.cargoView { s with live := a } = s.cargoView := by
  unfold State.cargoView
  rw [same]

@[simp] theorem putLot_cargoView (x : Lot) (s : State) :
    State.cargoView { s with live := s.live.putLot x } = s.cargoView := cargoView_of_live s (putLot_ids _ _)

@[simp] theorem lotNotice_cargoView (e : LotEvent) (x : Lot) (freed : Bool) (crane : Nat) (peak : Option Int) (s : State) :
    (lotNotice e x freed crane peak s).cargoView = s.cargoView := raiseNotice_cargoView _ _ _

@[simp] theorem liftOff_cargoView (x : Lot) (crane : Nat) (net : Int) (s : State) :
    (liftOff x crane net s).cargoView = s.cargoView := by
  simp [liftOff]

@[simp] theorem land_cargoView (e : LotEvent) (x : Lot) (crane : Nat) (peak : Option Int) (s : State) :
    (land e x crane peak s).1.cargoView = s.cargoView := by
  simp [land]

@[simp] theorem hookWhileLifted_cargoView (x : Lot) (crane : Nat) (rec : CraneRec) (peak net : Int) (s : State) :
    (hookWhileLifted x crane rec peak net s).cargoView = s.cargoView := by
  unfold hookWhileLifted
  extract_lets peak' s1
  split <;> simp [s1]

@[simp] theorem hookOutput_cargoView (crane : Nat) (v : Int) (s : State) :
    (hookOutput crane v s).cargoView = s.cargoView := by
  unfold hookOutput
  split
  · rfl
  · dsimp only
    split
    · rfl
    · split
      · split <;> simp
      · simp
      · rfl

@[simp] theorem channelNotice_cargoView (k : Nat) (c : Channel) (e : ChanEvents) (s : State) :
    (channelNotice k c e s).cargoView = s.cargoView := by
  rw [channelNotice_only]
  rfl

@[simp] theorem disableChannel_cargoView (k : Nat) (c : Channel) (s : State) :
    (disableChannel k c s).cargoView = s.cargoView := by
  rw [disableChannel_only]
  rfl

@[simp] theorem disableAll_cargoView (s : State) : (disableAll s).cargoView = s.cargoView := by
  unfold disableAll
  generalize numbered 0 s.bank.channels = cs
  induction cs generalizing s with
  | nil => rfl
  | cons c cs ih => rw [List.foldl_cons, ih, disableChannel_cargoView]

@[simp] theorem handOn_cargoView (c : Channel) (changed : Bool) (s : State) :
    (handOn c changed s).cargoView = s.cargoView := by
  have lines : (if changed then recomputeMask c.cfg.mask s else s).cargoView = s.cargoView := by
    split
    · exact recomputeMask_cargoView _ _
    · rfl
  unfold handOn
  dsimp only
  split
  · rw [hookOutput_cargoView, lines]
  · exact lines

@[simp] theorem takeSample_cargoView (k : Nat) (c : Channel) (v : Int) (s : State) :
    (takeSample k c v s).cargoView = s.cargoView := by
  unfold takeSample
  dsimp only
  split <;> simp

@[simp] theorem takeFrame_cargoView (u : RxUnit) (s : State) : (takeFrame u s).cargoView = s.cargoView := by
  unfold takeFrame
  split
  · rfl
  · split
    · rfl
    · split
      · rfl
      · exact takeSample_cargoView _ _ _ _

/-! ### Publication, the entry to RUN, new sections -/

@[simp] theorem publish_cargoView (h : Hull) (r : Result) (s : State) : (publish h r s).cargoView = s.cargoView := by
  rw [publish_only]
  rfl

@[simp] theorem entryCauses_cargoView (s : State) : (entryCauses s).cargoView = s.cargoView := by
  unfold entryCauses
  dsimp only
  split_ifs <;> simp

@[simp] theorem enterRun_cargoView (h : Hull) (s : State) : (enterRun h s).cargoView = s.cargoView := by
  unfold enterRun
  rw [recomputeAll_cargoView, entryCauses_cargoView]
  rfl

/-- New sections may take planned stows from lots, but no lot from LIVE (R20). -/
@[simp] theorem takeSections_cargoView (h : Hull) (ns : List Nat) (s : State) :
    (takeSections h ns s).cargoView = s.cargoView :=
  cargoView_of_live s (map_keepStow_ids h.s3 s.live.lots)

/-! ### Owning blocks of requests -/

@[simp] theorem attachAct_cargoView (l : Link) (q : AttachFields) (s : State) :
    (attachAct l q s).1.cargoView = s.cargoView := by
  unfold attachAct
  split
  · rfl
  · rw [lotNotice_cargoView]
    exact cargoView_of_live s (by simp)

@[simp] theorem forceLandAct_cargoView (l : Link) (id : Nat) (s : State) :
    (forceLandAct l id s).1.cargoView = s.cargoView := by
  unfold forceLandAct
  split
  · rfl
  · split
    · rfl
    · dsimp only
      split
      · rfl
      · split
        · rfl
        · exact land_cargoView _ _ _ _ _

@[simp] theorem stepAppendAct_cargoView (l : Link) (w : StepWork) (s : State) :
    (stepAppendAct l w s).1.cargoView = s.cargoView := by
  unfold stepAppendAct
  split <;> rfl

@[simp] theorem stepWithdrawAct_cargoView (l : Link) (id : Nat) (s : State) :
    (stepWithdrawAct l id s).1.cargoView = s.cargoView := by
  unfold stepWithdrawAct
  split
  · rfl
  · split
    · rfl
    · split_ifs <;> rfl

@[simp] theorem stepDoneAct_cargoView (l : Link) (q : Nat × Bool) (s : State) :
    (stepDoneAct l q s).1.cargoView = s.cargoView := by
  unfold stepDoneAct
  split
  · rfl
  · split
    · rfl
    · split <;> rfl

@[simp] theorem seqSetAct_cargoView (l : Link) (q : Option Nat × Option Nat) (s : State) :
    (seqSetAct l q s).1.cargoView = s.cargoView := by
  unfold seqSetAct
  dsimp only
  split_ifs <;> rfl

@[simp] theorem readSequenceAct_cargoView (l : Link) (q : SequenceForm) (s : State) :
    (readSequenceAct l q s).1.cargoView = s.cargoView := by
  unfold readSequenceAct
  split
  · rfl
  · split <;> rfl

@[simp] theorem channelSetAct_cargoView (l : Link) (q : Nat × ChannelCfg) (s : State) :
    (channelSetAct l q s).1.cargoView = s.cargoView := by
  unfold channelSetAct
  split <;> rfl

@[simp] theorem channelEnableAct_cargoView (l : Link) (ch : Nat) (s : State) :
    (channelEnableAct l ch s).1.cargoView = s.cargoView := by
  unfold channelEnableAct
  split
  · rfl
  · split
    · rfl
    · split_ifs <;> rfl

@[simp] theorem channelDisableAct_cargoView (l : Link) (ch : Nat) (s : State) :
    (channelDisableAct l ch s).1.cargoView = s.cargoView := by
  unfold channelDisableAct
  split
  · rfl
  · split
    · rfl
    · dsimp only
      split
      · rfl
      · split <;> simp

@[simp] theorem readChannelsAct_cargoView (l : Link) (q : Nat × Nat) (s : State) :
    (readChannelsAct l q s).1.cargoView = s.cargoView := by
  unfold readChannelsAct
  split <;> rfl

@[simp] theorem holdAckAct_cargoView (l : Link) (h : Line) (s : State) :
    (holdAckAct l h s).1.cargoView = s.cargoView := by
  unfold holdAckAct
  split
  · rfl
  · split
    · rfl
    · rw [recompute_cargoView]
      rfl

@[simp] theorem timedHoldAct_cargoView (l : Link) (q : Line × Nat) (s : State) :
    (timedHoldAct l q s).1.cargoView = s.cargoView := by
  unfold timedHoldAct
  dsimp only
  split_ifs <;> simp

@[simp] theorem readVerdictAct_cargoView (l : Link) (q : VerdictPart) (s : State) :
    (readVerdictAct l q s).1.cargoView = s.cargoView := by
  unfold readVerdictAct
  split
  · rfl
  · split <;> rfl

@[simp] theorem evaluateNowAct_cargoView (l : Link) (q : Unit) (s : State) :
    (evaluateNowAct l q s).1.cargoView = s.cargoView := by
  unfold evaluateNowAct
  split
  · rfl
  · exact raiseLive_cargoView _ _

@[simp] theorem readConditionAct_cargoView (l : Link) (q : Bool × ConditionPart) (s : State) :
    (readConditionAct l q s).1.cargoView = s.cargoView := by
  unfold readConditionAct
  split
  · rfl
  · split <;> rfl

@[simp] theorem hullWriteAct_cargoView (l : Link) (it : HullItem) (s : State) :
    (hullWriteAct l it s).1.cargoView = s.cargoView := by
  unfold hullWriteAct
  split
  · rfl
  · split
    · rfl
    · split
      · rfl
      · split
        · rfl
        · split
          · rfl
          · split <;> rfl

@[simp] theorem leaveConfigAct_cargoView (l : Link) (q : Unit) (s : State) :
    (leaveConfigAct l q s).1.cargoView = s.cargoView := by
  unfold leaveConfigAct
  split
  · rfl
  · split_ifs
    · rfl
    · rfl
    · unfold leaveFromConfig
      dsimp only
      split
      · rfl
      · split <;> simp
    · unfold leaveFromFault
      split <;> rfl

@[simp] theorem referenceWriteAct_cargoView (l : Link) (q : Nat × Option Reference) (s : State) :
    (referenceWriteAct l q s).1.cargoView = s.cargoView := by
  unfold referenceWriteAct
  split
  · rfl
  · split
    · rfl
    · split
      · rfl
      · split
        · rfl
        · rfl
        · split <;> rfl

@[simp] theorem lockAct_cargoView (l : Link) (q : Target) (s : State) : (lockAct l q s).1.cargoView = s.cargoView := by
  unfold lockAct
  split_ifs <;> rfl

@[simp] theorem freezeAct_cargoView (l : Link) (q : Unit) (s : State) : (freezeAct l q s).1.cargoView = s.cargoView := by
  unfold freezeAct
  split_ifs <;> rfl

@[simp] theorem identityWriteAct_cargoView (l : Link) (i : Identity) (s : State) :
    (identityWriteAct l i s).1.cargoView = s.cargoView := by
  unfold identityWriteAct
  split_ifs <;> rfl

@[simp] theorem adoptAct_cargoView (l : Link) (q : Unit) (s : State) : (adoptAct l q s).1.cargoView = s.cargoView := by
  unfold adoptAct
  split_ifs
  · rfl
  · rfl
  · rfl
  · rfl
  · rw [raiseLive_cargoView]
    rfl

@[simp] theorem readHullAct_cargoView (l : Link) (q : ItemAddr × Bool) (s : State) :
    (readHullAct l q s).1.cargoView = s.cargoView := by
  unfold readHullAct
  split
  · rfl
  · split <;> rfl

end Sys2Proof.Machine

/-! PROOF. What the Stager does with a change-set message: one equation for each case of R24 to R28. -/

namespace Sys2Proof.Machine

/-! ## The cases of a closing message (R27, R28) -/

section

variable {l : Link} {q : SetMessage} {s : State} {o : OpenSet}

/-- The edits of the open set of a tag, none where the tag has no open set. -/
def LinkSets.heldEdits (q : LinkSets) (tag : Nat) : List Edit := ((q.find tag).map (·.edits)).getD []

/-- The entry a closing message makes in the ready list. -/
def readyEntry (l : Link) (q : SetMessage) (s : State) : ReadySet :=
  { link := l, tag := q.tag, edits := (s.sets.get l).heldEdits q.tag ++ q.edits }

theorem closeSet_eq (l : Link) (q : SetMessage) (s : State) : closeSet l q s =
    if 32 < (readyEntry l q s).edits.length ∨ 8 ≤ s.ready.length then (s, .answer .full [])
    else
      (raiseLive .change
        { s with ready := s.ready ++ [readyEntry l q s], sets := s.sets.set l ((s.sets.get l).drop q.tag) },
       .answer .staged (be 1 q.tag ++ be 1 (readyEntry l q s).edits.length ++ 1 :: be 1 (s.ready.length + 1))) := by
  unfold closeSet
  extract_lets sets held edits
  have entry : readyEntry l q s = { link := l, tag := q.tag, edits := edits } := by
    unfold readyEntry LinkSets.heldEdits edits held sets
    cases (s.sets.get l).find q.tag <;> rfl
  rw [entry]
  rfl

/-- A live request raised changes the request alone, and that in RUN alone (R134). -/
theorem raiseLive_eq (c : Cause) (s : State) : raiseLive c s = { s with
    sched := if s.device = .run then { s.sched with livePending := true, causes := s.sched.causes ||| c.bit }
             else s.sched } := by
  unfold raiseLive
  split <;> rfl

theorem closeSet_staged (size : (readyEntry l q s).edits.length ≤ 32) (place : s.ready.length < 8) :
    closeSet l q s =
      ({ s with
          sets := s.sets.set l ((s.sets.get l).drop q.tag)
          ready := s.ready ++ [readyEntry l q s]
          sched := if s.device = .run then
              { s.sched with livePending := true, causes := s.sched.causes ||| 0b010000#6 }
            else s.sched },
       .answer .staged (be 1 q.tag ++ be 1 (readyEntry l q s).edits.length ++ 1 :: be 1 (s.ready.length + 1))) := by
  rw [closeSet_eq, if_neg (not_or.mpr ⟨not_lt.mpr size, not_le.mpr place⟩), raiseLive_eq]
  rfl

theorem closeSet_full (full : 32 < (readyEntry l q s).edits.length ∨ 8 ≤ s.ready.length) :
    closeSet l q s = (s, .answer .full []) := by
  rw [closeSet_eq, if_pos full]

/-! ## The cases of a message that leaves its set open (R25, R26) -/

theorem holdSet_continued (found : (s.sets.get l).find q.tag = some o)
    (size : o.edits.length + q.edits.length ≤ 32) : holdSet l q s =
      ({ s with sets := s.sets.set l ((s.sets.get l).put { o with edits := o.edits ++ q.edits }) },
       .answer .staged (be 1 q.tag ++ be 1 (o.edits.length + q.edits.length) ++ [0, 0])) := by
  unfold holdSet
  simp only [found, List.length_append]
  exact if_neg (not_lt.mpr size)

theorem holdSet_tooLong (found : (s.sets.get l).find q.tag = some o)
    (size : 32 < o.edits.length + q.edits.length) : holdSet l q s = (s, .answer .full []) := by
  unfold holdSet
  simp only [found, List.length_append]
  exact if_pos size

theorem holdSet_opened {sets : LinkSets} (new : (s.sets.get l).find q.tag = none)
    (opened : (s.sets.get l).openNew { tag := q.tag, edits := q.edits } = some sets) : holdSet l q s =
      ({ s with sets := s.sets.set l sets },
       .answer .staged (be 1 q.tag ++ be 1 q.edits.length ++ [0, 0])) := by
  unfold holdSet
  simp only [new, opened]
  rfl

theorem holdSet_noSlot (new : (s.sets.get l).find q.tag = none)
    (full : (s.sets.get l).openNew { tag := q.tag, edits := q.edits } = none) :
    holdSet l q s = (s, .answer .full []) := by
  unfold holdSet
  simp only [new, full]
  rfl

theorem LinkSets.openNew_first {sets : LinkSets} (o : OpenSet) (first : sets.open1 = none) :
    sets.openNew o = some { sets with open1 := some o } := by
  unfold LinkSets.openNew
  rw [first]

theorem LinkSets.openNew_second {sets : LinkSets} (o : OpenSet) (first : sets.open1.isSome = true)
    (second : sets.open2 = none) : sets.openNew o = some { sets with open2 := some o } := by
  obtain ⟨a, first⟩ := Option.isSome_iff_exists.mp first
  unfold LinkSets.openNew
  rw [first, second]

theorem LinkSets.openNew_full {sets : LinkSets} (o : OpenSet) (first : sets.open1.isSome = true)
    (second : sets.open2.isSome = true) : sets.openNew o = none := by
  obtain ⟨a, first⟩ := Option.isSome_iff_exists.mp first
  obtain ⟨b, second⟩ := Option.isSome_iff_exists.mp second
  unfold LinkSets.openNew
  rw [first, second]

end

end Sys2Proof.Machine

/-! PROOF. What the Stager's operations do to a link's open sets, and that trying, applying and reporting sets stays
within the bounds of R9, R25, R28 and R38. -/

namespace Sys2Proof.Machine

open CargoView

theorem PerLink.forall_get_set {α : Type} {p : α → Prop} {x : PerLink α} {v : α} (l : Link) (all : ∀ k, p (x.get k))
    (here : p v) (k : Link) : p ((x.set l v).get k) := by
  by_cases same : k = l
  · subst same
    rwa [PerLink.get_set]
  · rw [PerLink.get_set_other x v same]
    exact all k

/-! ## Open sets of a link (R25, R26) -/

section

variable {q q' : LinkSets} {o : OpenSet} {tag : Nat}

theorem LinkSets.find_none (h : q.find tag = none) :
    (∀ a, q.open1 = some a → a.tag ≠ tag) ∧ ∀ b, q.open2 = some b → b.tag ≠ tag := by
  unfold LinkSets.find at h
  split at h
  next a b first second =>
    split_ifs at h with isFirst isSecond
    simp [first, second, isFirst, isSecond]
  next a first second =>
    split_ifs at h with isFirst
    simp [first, second, isFirst]
  next b first second =>
    split_ifs at h with isSecond
    simp [first, second, isSecond]
  next first second => simp [first, second]

theorem LinkSets.bounded_reset : LinkSets.reset.bounded := ⟨nofun, nofun, nofun, Nat.zero_le _⟩

theorem LinkSets.bounded_drop (h : q.bounded) : (q.drop tag).bounded := by
  obtain ⟨first, second, differ, few⟩ := h
  unfold LinkSets.drop LinkSets.bounded
  simp only [Option.filter_eq_some_iff]
  exact ⟨fun o ho => first o ho.1, fun o ho => second o ho.1, fun a b ha hb => differ a b ha.1 hb.1, few⟩

/-- Replacing a set by one of the same tag changes no tag of the link. -/
theorem LinkSets.bounded_put (h : q.bounded) (size : o.bounded) : (q.put o).bounded := by
  obtain ⟨first, second, differ, few⟩ := h
  have replaced {x : OpenSet} (fits : x.bounded) : (if x.tag = o.tag then o else x).bounded := by
    split
    · exact size
    · exact fits
  have tag (x : OpenSet) : (if x.tag = o.tag then o else x).tag = x.tag := by
    split
    next same => exact same.symm
    · rfl
  unfold LinkSets.put LinkSets.bounded
  simp only [Option.map_eq_some_iff, forall_exists_index, and_imp]
  refine ⟨?_, ?_, ?_, few⟩
  · rintro _ x hx rfl
    exact replaced (first x hx)
  · rintro _ x hx rfl
    exact replaced (second x hx)
  · rintro _ _ x hx rfl y hy rfl
    rw [tag, tag]
    exact differ x y hx hy

theorem LinkSets.openNew_some (h : q.openNew o = some q') :
    (q.open1 = none ∧ q' = { q with open1 := some o })
      ∨ (q.open1.isSome = true ∧ q.open2 = none ∧ q' = { q with open2 := some o }) := by
  unfold LinkSets.openNew at h
  split at h <;> cases h
  next first => exact .inl ⟨first, rfl⟩
  next a first second => exact .inr ⟨by simp [first], second, rfl⟩

theorem LinkSets.bounded_openNew (h : q.bounded) (size : o.bounded) (new : q.find o.tag = none)
    (opened : q.openNew o = some q') : q'.bounded := by
  obtain ⟨first, second, differ, few⟩ := h
  obtain ⟨notFirst, notSecond⟩ := LinkSets.find_none new
  obtain ⟨-, rfl⟩ | ⟨-, -, rfl⟩ := LinkSets.openNew_some opened
  · refine ⟨?_, second, ?_, few⟩
    · rintro _ ⟨⟩
      exact size
    · rintro _ b ⟨⟩ hb
      exact (notSecond b hb).symm
  · refine ⟨first, ?_, ?_, few⟩
    · rintro _ ⟨⟩
      exact size
    · rintro a _ ha ⟨⟩
      exact notFirst a ha

/-- A reported set leaves its link's last four outcomes (R38). -/
theorem LinkSets.bounded_report (h : q.bounded) (o : SetOutcome) :
    LinkSets.bounded { q with outcomes := (o :: q.outcomes).take Config.maxOutcomes } := by
  obtain ⟨first, second, differ, -⟩ := h
  exact ⟨first, second, differ, List.length_take_le _ _⟩

end

/-! ## Staging (R24 to R28) -/

/-- A closing message: the set joins the ready list, its slot becomes empty (R27, R28). -/
theorem closeSet_keepsCargo (l : Link) (m : SetMessage) (s : State) (filled : 1 ≤ m.edits.length) :
    s.cargoView.Keeps (closeSet l m s).1.cargoView := by
  rw [closeSet_eq]
  split
  · exact .refl _
  next room =>
    obtain ⟨size, place⟩ := not_or.mp room
    have nonempty : 1 ≤ (readyEntry l m s).edits.length := filled.trans (by simp [readyEntry])
    rw [raiseLive_cargoView]
    refine keeps_stager fun ⟨links, few, each⟩ => ⟨?_, ?_, ?_⟩
    · exact PerLink.forall_get_set l links (LinkSets.bounded_drop (links l))
    · rw [List.length_append]
      exact not_le.mp place
    · intro r mem
      rcases List.mem_append.mp mem with mem | mem
      · exact each r mem
      · obtain rfl := List.mem_singleton.mp mem
        exact ⟨nonempty, not_lt.mp size⟩

/-- A message that opens or continues a set (R25, R26). -/
theorem holdSet_keepsCargo (l : Link) (m : SetMessage) (s : State)
    (size : 1 ≤ m.edits.length ∧ m.edits.length ≤ 16) : s.cargoView.Keeps (holdSet l m s).1.cargoView := by
  have writes {q : LinkSets} (kept : (s.sets.get l).bounded → q.bounded) :
      s.cargoView.Keeps (State.cargoView { s with sets := s.sets.set l q }) :=
    keeps_stager fun ⟨links, few, each⟩ => ⟨PerLink.forall_get_set l links (kept (links l)), few, each⟩
  cases found : (s.sets.get l).find m.tag with
  | some o =>
    rcases le_or_gt (o.edits.length + m.edits.length) 32 with room | tooLong
    · rw [holdSet_continued found room]
      refine writes fun bounded => LinkSets.bounded_put bounded ?_
      constructor <;> rw [List.length_append] <;> omega
    · rw [holdSet_tooLong found tooLong]
      exact .refl _
  | none =>
    cases opened : (s.sets.get l).openNew { tag := m.tag, edits := m.edits } with
    | some q =>
      rw [holdSet_opened found opened]
      exact writes fun bounded =>
        LinkSets.bounded_openNew bounded ⟨size.1, size.2.trans (by decide)⟩ found opened
    | none =>
      rw [holdSet_noSlot found opened]
      exact .refl _

theorem changeSetAct_keepsCargo (l : Link) (m : SetMessage) (s : State)
    (size : 1 ≤ m.edits.length ∧ m.edits.length ≤ 16) : s.cargoView.Keeps (changeSetAct l m s).1.cargoView := by
  unfold changeSetAct
  split
  · exact .refl _
  · split
    · exact closeSet_keepsCargo l m s size.1
    · exact holdSet_keepsCargo l m s size

/-- A link's sets are discarded at its reset (R41). -/
theorem dropSets_keepsCargo (l : Link) (s : State) : s.cargoView.Keeps (dropSets l s).cargoView := by
  refine keeps_stager fun ⟨links, few, each⟩ => ⟨?_, ?_, ?_⟩
  · exact PerLink.forall_get_set l links LinkSets.bounded_reset
  · exact (List.length_filter_le _ _).trans few
  · exact fun r mem => each r (List.mem_of_mem_filter mem)

/-! ## Trying edits (R30 to R35) -/

/-- What trying an edit comes to: the lots stay within R9, or the edit is refused with a code other than DONE. -/
def EditState.Tried (w : EditState) : Except Code EditState → Prop
  | .ok w' => IdsStand w.area.ids → IdsStand w'.area.ids
  | .error c => c ≠ .done

section

variable {env : EditEnv} {w : EditState}

/-- An edit that leaves the ids of the lots as they were. -/
theorem EditState.Tried.same {w' : EditState} (same : w'.area.ids = w.area.ids) : w.Tried (.ok w') :=
  fun stand => by rwa [same]

/-- An edit that frees a lot. -/
theorem EditState.Tried.free (id : Nat) (r : Ring) : w.Tried (.ok { area := w.area.freeLot id, ring := r }) :=
  fun stand => stand.sublist (freeLot_ids w.area id)

theorem EditState.Tried.stow (x : Lot) (p : Place) : w.Tried (.ok (w.stow x p)) :=
  .same (putLot_ids _ _)

theorem EditState.Tried.refused {c : Code} (other : c ≠ .done) : w.Tried (.error c) := other

theorem tryEnter_tried (id : Nat) (declared half : Int) (planned : Option Place) (tag : Option (List Byte)) :
    w.Tried (tryEnter env w id declared half planned tag) := by
  unfold tryEnter
  split_ifs with held known range full
  · exact .refused nofun
  · exact .refused nofun
  · exact .refused nofun
  · exact .refused nofun
  · intro stand
    have new : id ∉ w.area.ids := (findLot_eq_none_iff _ _).mp (Option.not_isSome_iff_eq_none.mp held)
    have room : w.area.ids.length < 512 := by
      rw [Area.ids, List.length_map]
      exact not_le.mp full
    simpa [Area.ids] using stand.append room new

theorem tryAmend_tried (id : Nat) (declared half : Option Int) (planned : Option (Option Place))
    (tag : Option (Option (List Byte))) : w.Tried (tryAmend env w id declared half planned tag) := by
  unfold tryAmend
  split
  · exact .refused nofun
  · dsimp only
    split_ifs
    · exact .refused nofun
    · exact .refused nofun
    · exact .refused nofun
    · exact .same (putLot_ids _ _)

theorem tryDrop_tried (id : Nat) : w.Tried (tryDrop w id) := by
  unfold tryDrop
  split
  · exact .refused nofun
  · split
    · exact .refused nofun
    · exact .free id _

theorem tryPlace_tried (id : Nat) (place : Option Place) : w.Tried (tryPlace env w id place) := by
  unfold tryPlace
  split
  · exact .refused nofun
  · split_ifs
    · exact .refused nofun
    · exact .refused nofun
    · split
      · exact .refused nofun
      · split
        · exact .stow _ _
        · exact .refused nofun

theorem tryRemove_tried (id : Nat) : w.Tried (tryRemove w id) := by
  unfold tryRemove
  split
  · exact .refused nofun
  · split
    · exact .refused nofun
    · exact .free id _

theorem tryShift_tried (id : Nat) (p : Place) : w.Tried (tryShift env w id p) := by
  unfold tryShift
  split
  · exact .refused nofun
  · split_ifs
    · exact .refused nofun
    · exact .refused nofun
    · exact .stow _ _
    · exact .refused nofun

theorem tryTankState_tried (tank : Nat) (v : Int) : w.Tried (tryTankState env w tank v) := by
  unfold tryTankState
  split
  · exact .refused nofun
  · split_ifs
    · exact .refused nofun
    · exact .refused nofun
    · exact .same rfl

/-- An edit of one item without lots: two checks, then the item is written. -/
theorem tried_ite {p q : Prop} [Decidable p] [Decidable q] {c c' : Code} {w' : EditState} (first : c ≠ .done)
    (second : c' ≠ .done) (same : w'.area.ids = w.area.ids) :
    w.Tried (if p then .error c else if q then .error c' else .ok w') := by
  split_ifs
  · exact first
  · exact second
  · exact .same same

theorem tryEdit_tried (e : Edit) : w.Tried (tryEdit env w e) := by
  cases e with
  | lotEnter => exact tryEnter_tried _ _ _ _ _
  | lotAmend => exact tryAmend_tried _ _ _ _ _
  | lotDrop => exact tryDrop_tried _
  | constSet => exact tried_ite nofun nofun rfl
  | modeSet => exact .same rfl
  | lotPlace => exact tryPlace_tried _ _
  | lotRemove => exact tryRemove_tried _
  | lotShift => exact tryShift_tried _ _
  | craneHeight => exact tried_ite nofun nofun rfl
  | tankState => exact tryTankState_tried _ _
  | tankDensity => exact tried_ite nofun nofun rfl
  | tankSource => exact tried_ite nofun nofun rfl

end

theorem tryEdits_idsStand {env : EditEnv} {es : List Edit} {i : Nat} {w w' : EditState}
    (run : tryEdits env i w es = .ok w') (stand : IdsStand w.area.ids) : IdsStand w'.area.ids := by
  induction es generalizing i w with
  | nil =>
    cases run
    exact stand
  | cons e es ih =>
    have tried := tryEdit_tried (env := env) (w := w) e
    unfold tryEdits at run
    cases result : tryEdit env w e with
    | error c =>
      rw [result] at run
      cases run
    | ok w1 =>
      rw [result] at run tried
      exact ih run (tried stand)

/-- A set is never refused with DONE (R29). -/
theorem tryEdits_code {env : EditEnv} {es : List Edit} {i : Nat} {w : EditState} {f : Code × SetFailure}
    (run : tryEdits env i w es = .error f) : f.1 ≠ .done := by
  induction es generalizing i w with
  | nil => cases run
  | cons e es ih =>
    have tried := tryEdit_tried (env := env) (w := w) e
    unfold tryEdits at run
    cases result : tryEdit env w e with
    | error c =>
      rw [result] at run tried
      cases run
      exact tried
    | ok w1 =>
      rw [result] at run
      exact ih run

/-! ## Applying sets (R29, R37, R38) -/

theorem reportSet_keepsCargo (l : Link) (o : SetOutcome) (s : State) :
    s.cargoView.Keeps (reportSet l o s).cargoView :=
  keeps_stager fun ⟨links, few, each⟩ =>
    ⟨PerLink.forall_get_set l links (LinkSets.bounded_report (links l) o), few, each⟩

theorem applySet_keepsCargo (r : ReadySet) (s : State) : s.cargoView.Keeps (applySet r s).cargoView := by
  unfold applySet
  split
  next w applied =>
    extract_lets s1
    have live : s.cargoView.Keeps s1.cargoView :=
      keeps_live_of fun stand => tryEdits_idsStand applied (stand _ (.inl rfl))
    exact live.trans (reportSet_keepsCargo _ _ s1)
  · exact reportSet_keepsCargo _ _ _

/-- The ready list is handed over whole (R29). -/
theorem applyReady_keepsCargo (s : State) : s.cargoView.Keeps (applyReady s).cargoView := by
  have each (rs : List ReadySet) (s : State) :
      s.cargoView.Keeps (rs.foldl (fun s r => applySet r s) s).cargoView := by
    induction rs generalizing s with
    | nil => exact .refl _
    | cons r rs ih => exact (applySet_keepsCargo r s).trans (ih _)
  have emptied : s.cargoView.Keeps (State.cargoView { s with ready := [] }) :=
    keeps_stager fun ⟨links, _, _⟩ => ⟨links, Nat.zero_le _, nofun⟩
  exact emptied.trans (each s.ready _)

end Sys2Proof.Machine

/-! PROOF. Every command keeps the Stager within its capacities and every lot list within R9 (R9, R25, R28, R38). -/

namespace Sys2Proof.Machine

open CargoView

/-! ## What moves the lot lists -/

@[simp] theorem setTrial_cargoView (o : Owner) (a : Area) (s : State) :
    (setTrial o a s).cargoView = { s.cargoView with trial := a.ids } := rfl

@[simp] theorem emptyTrial_cargoView (s : State) : (emptyTrial s).cargoView = { s.cargoView with trial := [] } := rfl

@[simp] theorem putSlot_cargoView (n : Nat) (v : Slot) (s : State) :
    (putSlot n v s).cargoView = { s.cargoView with slots := s.cargoView.slots.set n v.ids } := by
  simp [State.cargoView, putSlot, List.map_set]

@[simp] theorem completeRun_cargoView (b : BaseInfo) (rs : List StageRecord) (s : State) :
    (completeRun b rs s).cargoView = { s.cargoView with trial := [] } := by
  rw [completeRun_only]
  rfl

theorem setTrial_keepsCargo (o : Owner) {a : Area} {s : State} (drawn : s.cargoView.Draws a.ids) :
    s.cargoView.Keeps (setTrial o a s).cargoView := keeps_trial drawn

theorem emptyTrial_keepsCargo (s : State) : s.cargoView.Keeps (emptyTrial s).cargoView := keeps_trial draws_nil

theorem putSlot_keepsCargo (n : Nat) {v : Slot} {s : State} (drawn : s.cargoView.Draws v.ids) :
    s.cargoView.Keeps (putSlot n v s).cargoView := by
  rw [putSlot_cargoView]
  exact keeps_slot n drawn

/-- A slot's image is one of those held; a slot that is not there reads bad, without lots. -/
theorem slot_draws (s : State) (n : Nat) : s.cargoView.Draws (s.store.slots.getD n .bad).ids := by
  rw [List.getD_eq_getElem?_getD]
  cases here : s.store.slots[n]? with
  | none => exact draws_nil
  | some v => exact draws_slot (List.mem_map_of_mem (List.mem_of_getElem? here))

theorem readSlotContent_keepsCargo (n : Nat) (good : Bool) (s : State) :
    s.cargoView.Keeps (readSlotContent n good s).cargoView := by
  apply putSlot_keepsCargo
  cases good
  · exact draws_nil
  · exact slot_draws s n

/-- An image that fits is the one the slot holds (R185). -/
theorem judgeSlot_draws {n : Nat} {s : State} {i : Image} {ref : Option Reference}
    (fit : judgeSlot n s = .ok (i, ref)) : s.cargoView.Draws (Slot.good i ref).ids := by
  unfold judgeSlot at fit
  split at fit
  · cases fit
  · cases fit
  next good =>
    split at fit <;> cases fit
    rw [← good]
    exact slot_draws s n

/-! ## Requests that move the lot lists -/

/-- A DETACH frees the lot where it goes ashore (R56). -/
theorem detach_keepsCargo (x : Lot) (s : State) : s.cargoView.Keeps (detach x s).1.cargoView := by
  unfold detach
  extract_lets crane
  split
  · rw [lotNotice_cargoView]
    exact .of_eq (cargoView_of_live s (by simp))
  · rw [lotNotice_cargoView]
    exact keeps_live (draws_live (freeLot_ids s.live x.id))
  · rw [lotNotice_cargoView]
    exact .of_eq (cargoView_of_live s (by simp))

theorem detachAct_keepsCargo (l : Link) (id : Nat) (s : State) :
    s.cargoView.Keeps (detachAct l id s).1.cargoView := by
  unfold detachAct
  split
  · exact .refl _
  · split
    · exact .refl _
    · split
      · exact .refl _
      · exact detach_keepsCargo _ _

/-- SAVE copies LIVE into TRIAL (R184). -/
theorem saveAct_keepsCargo (l : Link) (n : Nat) (s : State) : s.cargoView.Keeps (saveAct l n s).1.cargoView := by
  unfold saveAct
  split_ifs
  · exact .refl _
  · exact .refl _
  · exact .refl _
  · exact .refl _
  · rw [putEntry_cargoView, startJob_cargoView, setTrial_cargoView, abandonLook_cargoView]
    exact keeps_trial (draws_live (.refl _))

theorem recallAct_keepsCargo (l : Link) (n : Nat) (s : State) : s.cargoView.Keeps (recallAct l n s).1.cargoView := by
  unfold recallAct
  split_ifs
  · exact .refl _
  · exact .refl _
  · exact .refl _
  · simpa using keeps_trial (v := s.cargoView) draws_nil

theorem selfCheckAct_keepsCargo (l : Link) (n : Nat) (s : State) :
    s.cargoView.Keeps (selfCheckAct l n s).1.cargoView := by
  unfold selfCheckAct
  split_ifs
  · exact .refl _
  · exact .refl _
  · simpa using keeps_trial (v := s.cargoView) draws_nil

theorem releaseRecalled_keepsCargo (s : State) : s.cargoView.Keeps (releaseRecalled s).cargoView := by
  unfold releaseRecalled
  split
  · simpa using emptyTrial_keepsCargo s
  · exact .refl _

theorem enterConfig_keepsCargo (s : State) : s.cargoView.Keeps (enterConfig s).cargoView := by
  have dropped : s.cargoView.Keeps (dropLook s).cargoView := by
    unfold dropLook
    split
    · simpa using emptyTrial_keepsCargo s
    · simp
  unfold enterConfig
  rw [recomputeAll_cargoView, disableAll_cargoView]
  exact dropped

theorem enterConfigAct_keepsCargo (l : Link) (q : Unit) (s : State) :
    s.cargoView.Keeps (enterConfigAct l q s).1.cargoView := by
  unfold enterConfigAct
  split
  · exact .refl _
  · split
    · exact .of_eq rfl
    · dsimp only
      exact enterConfig_keepsCargo s

theorem resolveEnter_keepsCargo (s : State) : s.cargoView.Keeps (resolveEnter s).cargoView := by
  unfold resolveEnter
  extract_lets sched s1
  have view : s1.cargoView = s.cargoView := rfl
  split <;> rw [answerOwed_cargoView, ← view]
  · exact .refl _
  · exact enterConfig_keepsCargo s1

/-! ## Grants and completions -/

/-- An ADOPT at the snapshot takes TRIAL's lots into LIVE (R187). -/
theorem applyAdopt_keepsCargo (s : State) : s.cargoView.Keeps (applyAdopt s).cargoView := by
  unfold applyAdopt
  split
  · exact .refl _
  · dsimp only
    split
    · rw [archiveNotice_cargoView]
      exact .refl s.cargoView
    · rw [archiveNotice_cargoView]
      exact (keeps_live (draws_trial (.refl _))).trans (emptyTrial_keepsCargo { s with
        live := adoptedArea s.live s.trial s.bank.channels })

theorem grantLive_keepsCargo (h : Hull) (s : State) : s.cargoView.Keeps (grantLive h s).cargoView :=
  (applyAdopt_keepsCargo (suspendRun s)).trans (applyReady_keepsCargo (applyAdopt (suspendRun s)))

/-- A stage granted changes TRIAL by what the stage moves (R166, R167). -/
theorem grantStage_keepsCargo (h : Hull) (r : Run) (k : Nat) (st : Stage) (s : State) :
    s.cargoView.Keeps (grantStage h r k st s).cargoView :=
  keeps_trial (draws_trial (stageApply_ids s.trial st))

theorem startRun_keepsCargo (h : Hull) (s : State) : s.cargoView.Keeps (startRun h s).cargoView := by
  unfold startRun
  extract_lets base a r
  split
  · rw [completeRun_cargoView]
    exact keeps_trial draws_nil
  next st _ _ =>
    exact (setTrial_keepsCargo .lookahead (draws_live (baseArea_ids s.live))).trans
      (grantStage_keepsCargo h r 1 st (setTrial .lookahead a s))

theorem continueRun_keepsCargo (h : Hull) (r : Run) (s : State) : s.cargoView.Keeps (continueRun h r s).cargoView := by
  unfold continueRun
  split
  · split
    · exact grantStage_keepsCargo _ _ _ _ _
    · exact .refl _
  · exact startRun_keepsCargo h s

theorem grantChoice_keepsCargo (h : Hull) (s : State) : s.cargoView.Keeps (grantChoice h s).cargoView := by
  unfold grantChoice
  split
  · exact grantLive_keepsCargo h s
  · split
    · exact .of_eq rfl
    · split
      · exact continueRun_keepsCargo h _ s
      · split
        · exact startRun_keepsCargo h s
        · exact .refl _

theorem stageDone_keepsCargo (k : Nat) (h : Hull) (e : Result) (s : State) :
    s.cargoView.Keeps (stageDone k h e s).cargoView := by
  unfold stageDone
  split
  · exact .refl _
  · split
    · exact .refl _
    · unfold finishStage
      dsimp only
      split
      · rw [completeRun_cargoView]
        exact keeps_trial draws_nil
      · exact .of_eq rfl

theorem endSelfCheck_keepsCargo (h : Hull) (r : Result) (s : State) :
    s.cargoView.Keeps (endSelfCheck h r s).cargoView := by
  unfold endSelfCheck
  split
  · rw [endJob_cargoView]
    exact emptyTrial_keepsCargo s
  · exact .refl _

/-! ## Every command -/

/-- That a command keeps the Stager and the lot lists within their bounds. -/
def CommandKeepsCargo (o : Host.Outcome State Fault Refusal) (s : State) : Prop :=
  NextHas (fun s' => s.cargoView.Keeps s'.cargoView) o

theorem commandKeepsCargo_next {s s' : State} (h : s.cargoView.Keeps s'.cargoView) : CommandKeepsCargo (.next s') s :=
  nextHas_next (inv := fun s' => s.cargoView.Keeps s'.cargoView) h

/-- A request keeps the bounds where its owning block does. -/
theorem request_keepsCargo {α : Type} {kind : Nat} {form : Reader α} {right : Link → α → Bool}
    {act : Link → α → State → State × Reply} {t : Nat} {l : Link} {s : State}
    (acts : ∀ a (s : State), s.cargoView.Keeps (act l a s).1.cargoView) :
    CommandKeepsCargo (.next (request kind form right act t l s)) s :=
  commandKeepsCargo_next (request_has (inv := fun s' => s.cargoView.Keeps s'.cargoView) (.refl _) (.refl _)
    (fun a => acts a (handed t l s)) (fun tag r s' kept => by simpa using kept))

/-- A request whose owning block leaves the view as it is. -/
theorem request_keepsCargo_of_view {α : Type} {kind : Nat} {form : Reader α} {right : Link → α → Bool}
    {act : Link → α → State → State × Reply} {t : Nat} {l : Link} {s : State}
    (acts : ∀ a (s : State), (act l a s).1.cargoView = s.cargoView) :
    CommandKeepsCargo (.next (request kind form right act t l s)) s :=
  request_keepsCargo fun a s => .of_eq (acts a s)

/-- A change-set message reaches the Stager with the 1 to 16 edits its form allows (R22, R24). -/
theorem changeSetMessage_keepsCargo (t : Nat) (l : Link) (s : State) :
    CommandKeepsCargo (execChangeSetMessage t l s) s := by
  apply commandKeepsCargo_next
  obtain same | ⟨m, code, same⟩ | ⟨m, q, taken, right, same⟩ :=
    request_cases (kind := 1) (form := readSetMessage) (right := setRight) (act := changeSetAct) (t := t) l s
  · rw [same]
    exact .refl _
  · rw [same]
    simp [answered]
  · obtain ⟨-, -, read⟩ := taken
    rw [same, settle_cargoView, respond_cargoView]
    exact changeSetAct_keepsCargo l q (handed t l s) (readSetMessage_edits read)

/-! ### Resets and start-up -/

/-- A reset leaves the Stager and both areas empty, and every slot with the lots it had or none (R173, R183). -/
theorem resetWith_keepsCargo {store : Store} {s s' : State}
    (slots : ∀ v ∈ store.slots, v ∈ s.store.slots ∨ v = .bad) : s.cargoView.Keeps (resetWith store s').cargoView where
  sets _ := ⟨fun l => by cases l <;> exact LinkSets.bounded_reset, Nat.zero_le _, nofun⟩
  lots := lotsStand_of_draws <| by
    rintro _ (rfl | rfl | held)
    · exact draws_nil
    · exact draws_nil
    · obtain ⟨v, mem, rfl⟩ := List.mem_map.mp held
      rcases slots v mem with mem | rfl
      · exact draws_slot (List.mem_map_of_mem mem)
      · exact draws_nil

theorem cutJob_slots (s : State) (cut : WriteCut) (v : Slot) (mem : v ∈ (cutJob s cut).slots) :
    v ∈ s.store.slots ∨ v = .bad := by
  unfold cutJob at mem
  split at mem
  · exact List.mem_or_eq_of_mem_set mem
  · exact List.mem_or_eq_of_mem_set mem
  · split at mem <;> exact .inl mem
  · exact .inl mem

theorem restart_keepsCargo (t : Nat) (s : State) : CommandKeepsCargo (execRestart t s) s := by
  apply commandKeepsCargo_next
  split
  · exact resetWith_keepsCargo fun v mem => .inl mem
  · exact .refl _

theorem numbered_snd_mem {α : Type} {n : Nat} {xs : List α} {x : Nat × α} (mem : x ∈ numbered n xs) : x.2 ∈ xs := by
  induction xs generalizing n with
  | nil => cases mem
  | cons y ys ih =>
    rcases List.mem_cons.mp mem with rfl | mem
    · exact List.mem_cons_self
    · exact List.mem_cons_of_mem _ (ih mem)

/-- A slot whose check failed at start-up is bad from then on (R175). -/
theorem readStoreAtStart_keepsCargo (badSections : BitVec 8) (badSlots : BitVec 16) (s : State) :
    s.cargoView.Keeps (readStoreAtStart badSections badSlots s).cargoView := by
  apply keeps_slots
  intro ids held
  obtain ⟨v, mem, rfl⟩ := List.mem_map.mp held
  obtain ⟨x, stored, rfl⟩ := List.mem_map.mp mem
  split
  · exact draws_nil
  · exact draws_slot (List.mem_map_of_mem (numbered_snd_mem stored))

/-- The end of start-up in RUN builds LIVE anew, without lots (R19); in HULL-FAULT it leaves LIVE as it is. -/
theorem endStart_cargoView (s : State) :
    (endStart s).cargoView = { s.cargoView with live := [] } ∨ (endStart s).cargoView = s.cargoView := by
  unfold endStart
  split
  · unfold startRunning
    rw [enterRun_cargoView]
    exact .inl rfl
  · unfold startFaulted
    rw [recomputeAll_cargoView]
    exact .inr rfl

theorem endStart_keepsCargo (s : State) : s.cargoView.Keeps (endStart s).cargoView := by
  rcases endStart_cargoView s with built | same
  · rw [built]
    exact keeps_live draws_nil
  · exact .of_eq same

theorem startUpEnd_keepsCargo (t : Nat) (badSections : BitVec 8) (badSlots : BitVec 16) (s : State) :
    CommandKeepsCargo (execStartUpEnd t badSections badSlots s) s := by
  apply commandKeepsCargo_next
  split
  · exact (readStoreAtStart_keepsCargo _ _ (atTime t s)).trans (endStart_keepsCargo _)
  · exact .refl _

theorem linkReset_keepsCargo (t : Nat) (l : Link) (s : State) : CommandKeepsCargo (execLinkReset t l s) s := by
  apply commandKeepsCargo_next
  split
  · exact .refl _
  · rw [settle_cargoView]
    unfold resetLink
    extract_lets discards s1
    have dropped : s.cargoView.Keeps s1.cargoView := by
      unfold s1
      rw [dropTimers_cargoView]
      exact dropSets_keepsCargo l (modifyLiu l (fun _ => Liu.reset l true) (atTime t s))
    split
    · exact dropped.trans (releaseRecalled_keepsCargo { s1 with
        sched := { s1.sched with heldEnter := false }
        store := { s1.store with restart := s1.store.restart.map (fun w => { w with due := w.due || discards }) } })
    · exact dropped

/-! ### Links, samples and timers -/

theorem segmentArrival_keepsCargo (t : Nat) (l : Link) (u : RxUnit) (s : State) :
    CommandKeepsCargo (execSegmentArrival t l u s) s := by
  apply commandKeepsCargo_next
  split <;> simp

theorem replyUnit_keepsCargo (t : Nat) (l : Link) (u : RxUnit) (s : State) : CommandKeepsCargo (execReplyUnit t l u s) s := by
  apply commandKeepsCargo_next
  split <;> simp

theorem resendTimerExpiry_keepsCargo (t : Nat) (l : Link) (s : State) : CommandKeepsCargo (execResendTimerExpiry t l s) s := by
  apply commandKeepsCargo_next
  split <;> simp

theorem linkBreakEnd_keepsCargo (t : Nat) (l : Link) (s : State) : CommandKeepsCargo (execLinkBreakEnd t l s) s := by
  apply commandKeepsCargo_next
  split <;> simp

theorem sampleFrame_keepsCargo (t : Nat) (u : RxUnit) (s : State) : CommandKeepsCargo (execSampleFrame t u s) s := by
  apply commandKeepsCargo_next
  split <;> simp

theorem staleTimerExpiry_keepsCargo (t ch : Nat) (s : State) : CommandKeepsCargo (execStaleTimerExpiry t ch s) s := by
  apply commandKeepsCargo_next
  split
  · exact .refl _
  · split <;> simp

theorem periodicTimerExpiry_keepsCargo (t : Nat) (s : State) : CommandKeepsCargo (execPeriodicTimerExpiry t s) s := by
  apply commandKeepsCargo_next
  split
  · rw [settle_cargoView, raiseLive_cargoView]
    exact .refl s.cargoView
  · exact .refl _

theorem timedHoldExpiry_keepsCargo (t : Nat) (l : Link) (h : Line) (s : State) :
    CommandKeepsCargo (execTimedHoldExpiry t l h s) s := by
  apply commandKeepsCargo_next
  split <;> simp

/-! ### The Scheduler and the Unit -/

theorem grant_keepsCargo (t : Nat) (s : State) : CommandKeepsCargo (execGrant t s) s := by
  apply commandKeepsCargo_next
  split
  · exact .refl _
  next h _ =>
    split
    · exact grantChoice_keepsCargo h (atTime t s)
    · exact .refl _

theorem liveCompletion_keepsCargo (t : Nat) (s : State) : CommandKeepsCargo (execLiveCompletion t s) s := by
  apply commandKeepsCargo_next
  split
  · rw [settle_cargoView, publish_cargoView]
    exact .refl s.cargoView
  · exact .refl _

theorem stageCompletion_keepsCargo (t : Nat) (s : State) : CommandKeepsCargo (execStageCompletion t s) s := by
  apply commandKeepsCargo_next
  split
  · exact stageDone_keepsCargo _ _ _ { atTime t s with unit := none }
  · exact .refl _

theorem selfCheckCompletion_keepsCargo (t : Nat) (s : State) : CommandKeepsCargo (execSelfCheckCompletion t s) s := by
  apply commandKeepsCargo_next
  split
  · exact endSelfCheck_keepsCargo _ _ { atTime t s with unit := none }
  · exact .refl _

theorem heldEnterConfig_keepsCargo (t : Nat) (s : State) : CommandKeepsCargo (execHeldEnterConfig t s) s := by
  apply commandKeepsCargo_next
  split
  · exact resolveEnter_keepsCargo (atTime t s)
  · exact .refl _

/-! ### The ends of store jobs -/

/-- The image written holds lots of TRIAL, which becomes EMPTY (R184). -/
theorem saveEnd_keepsCargo (t : Nat) (verified : Bool) (s : State) : CommandKeepsCargo (execSaveEnd t verified s) s := by
  apply commandKeepsCargo_next
  split
  next n version serial job =>
    extract_lets s0 image s1
    have written : s.cargoView.Keeps
        (putSlot n (if verified = true then Slot.good image none else .bad) s0).cargoView := by
      apply putSlot_keepsCargo (s := s0)
      split
      · exact draws_trial (imageOf_ids s.trial version serial none)
      · exact draws_nil
    rw [settle_cargoView, endJob_cargoView]
    refine written.trans ?_
    rw [← markWriteError_cargoView (!verified)]
    exact emptyTrial_keepsCargo _
  · exact .refl _

/-- TRIAL takes the lots of the image read, or becomes EMPTY (R185). -/
theorem recallReadEnd_keepsCargo (t : Nat) (good : Bool) (s : State) : CommandKeepsCargo (execRecallReadEnd t good s) s := by
  apply commandKeepsCargo_next
  split
  next n job =>
    extract_lets s1
    have read : s.cargoView.Keeps s1.cargoView := readSlotContent_keepsCargo n good (atTime t s)
    rw [settle_cargoView]
    split
    · rw [endJob_cargoView]
      exact read.trans (emptyTrial_keepsCargo s1)
    next fit =>
      rw [endJob_cargoView]
      refine read.trans (setTrial_keepsCargo _ ?_)
      rw [loadImage_ids]
      exact judgeSlot_draws fit
  · exact .refl _

theorem selfCheckReadEnd_keepsCargo (t : Nat) (good : Bool) (s : State) :
    CommandKeepsCargo (execSelfCheckReadEnd t good s) s := by
  apply commandKeepsCargo_next
  split
  next n job =>
    extract_lets s1 fail
    have read : s.cargoView.Keeps s1.cargoView := readSlotContent_keepsCargo n good (atTime t s)
    have fails (c : Code) : s.cargoView.Keeps (fail c).cargoView := by
      unfold fail
      rw [settle_cargoView, endJob_cargoView]
      exact read.trans (emptyTrial_keepsCargo s1)
    split
    · exact fails _
    · exact fails _
    next image ref fit =>
      split
      · exact fails _
      · have drawn : s1.cargoView.Draws
            (loadImage image s1.spaces s1.tanks s1.cranes s1.bank.channels true).ids := by
          rw [loadImage_ids]
          exact judgeSlot_draws fit
        exact read.trans (keeps_trial drawn)
  · exact .refl _

theorem referenceWriteEnd_keepsCargo (t : Nat) (verified : Bool) (s : State) :
    CommandKeepsCargo (execReferenceWriteEnd t verified s) s := by
  apply commandKeepsCargo_next
  split
  next n ref job =>
    extract_lets v
    rw [settle_cargoView, endJob_cargoView, markWriteError_cargoView]
    apply putSlot_keepsCargo (s := atTime t s)
    unfold v
    split
    · rw [withRef_ids]
      exact slot_draws s n
    · exact draws_nil
  · exact .refl _

theorem lockEnd_keepsCargo (t : Nat) (verified : Bool) (s : State) : CommandKeepsCargo (execLockEnd t verified s) s := by
  apply commandKeepsCargo_next
  split
  · cases verified <;> simp
  · exact .refl _

theorem freezeEnd_keepsCargo (t : Nat) (verified : Bool) (s : State) : CommandKeepsCargo (execFreezeEnd t verified s) s := by
  apply commandKeepsCargo_next
  split
  · rw [settle_cargoView, endJob_cargoView]
    cases verified <;> exact .refl s.cargoView
  · exact .refl _

theorem identityWriteEnd_keepsCargo (t : Nat) (verified : Bool) (s : State) :
    CommandKeepsCargo (execIdentityWriteEnd t verified s) s := by
  apply commandKeepsCargo_next
  split
  · rw [settle_cargoView, endJob_cargoView]
    cases verified <;> exact .refl s.cargoView
  · exact .refl _

/-- New sections in force leave LIVE's lots, and a RECALLED TRIAL becomes EMPTY (R180). -/
theorem leaveWritten_keepsCargo (w : Hull) (ns : List Nat) (s : State) :
    s.cargoView.Keeps (leaveWritten w ns s).cargoView := by
  unfold leaveWritten
  extract_lets st s1 s2
  have view : s1.cargoView = s.cargoView := takeSections_cargoView _ _ _
  rw [enterRun_cargoView, cancelAdopt_cargoView, endJob_cargoView, ← view]
  unfold s2
  split
  · exact emptyTrial_keepsCargo s1
  · exact .refl _

theorem leaveConfigWriteEnd_keepsCargo (t : Nat) (failed : Option Nat) (s : State) :
    CommandKeepsCargo (execLeaveConfigWriteEnd t failed s) s := by
  apply commandKeepsCargo_next
  split
  next w job _ =>
    cases failed with
    | none =>
      rw [settle_cargoView]
      split
      · exact leaveWritten_keepsCargo w _ (atTime t s)
      · unfold repairWritten
        rw [awaitRestart_cargoView, endJobWith_cargoView]
        exact .refl s.cargoView
    | some n =>
      dsimp only
      split
      · unfold leaveFailed
        rw [settle_cargoView, endJob_cargoView, markWriteError_cargoView]
        exact .refl s.cargoView
      · exact .refl _
  · exact .refl _

/-! ### All of them -/

theorem exec_keepsCargo (c : Instr) (s : State) : CommandKeepsCargo (exec c s) s := by
  match c with
  | .powerOn t cut => exact commandKeepsCargo_next (resetWith_keepsCargo (cutJob_slots s cut))
  | .resetLine t cut => exact commandKeepsCargo_next (resetWith_keepsCargo (cutJob_slots s cut))
  | .startUpEnd t badSections badSlots => exact startUpEnd_keepsCargo _ _ _ _
  | .restart t => exact restart_keepsCargo _ _
  | .segmentArrival t l u => exact segmentArrival_keepsCargo _ _ _ _
  | .replyUnit t l u => exact replyUnit_keepsCargo _ _ _ _
  | .resendTimerExpiry t l => exact resendTimerExpiry_keepsCargo _ _ _
  | .linkReset t l => exact linkReset_keepsCargo _ _ _
  | .unknownRequestKind t l => exact request_keepsCargo_of_view fun _ _ => rfl
  | .changeSetMessage t l => exact changeSetMessage_keepsCargo _ _ _
  | .readSets t l => exact request_keepsCargo_of_view fun _ _ => rfl
  | .attach t l => exact request_keepsCargo_of_view (attachAct_cargoView l)
  | .detach t l => exact request_keepsCargo (detachAct_keepsCargo l)
  | .forceLand t l => exact request_keepsCargo_of_view (forceLandAct_cargoView l)
  | .readHooks t l => exact request_keepsCargo_of_view fun _ _ => rfl
  | .stepAppend t l => exact request_keepsCargo_of_view (stepAppendAct_cargoView l)
  | .stepWithdraw t l => exact request_keepsCargo_of_view (stepWithdrawAct_cargoView l)
  | .stepDone t l => exact request_keepsCargo_of_view (stepDoneAct_cargoView l)
  | .seqSet t l => exact request_keepsCargo_of_view (seqSetAct_cargoView l)
  | .readSequence t l => exact request_keepsCargo_of_view (readSequenceAct_cargoView l)
  | .readLookahead t l => exact request_keepsCargo_of_view fun _ _ => rfl
  | .channelSet t l => exact request_keepsCargo_of_view (channelSetAct_cargoView l)
  | .channelEnable t l => exact request_keepsCargo_of_view (channelEnableAct_cargoView l)
  | .channelDisable t l => exact request_keepsCargo_of_view (channelDisableAct_cargoView l)
  | .readChannels t l => exact request_keepsCargo_of_view (readChannelsAct_cargoView l)
  | .holdAck t l => exact request_keepsCargo_of_view (holdAckAct_cargoView l)
  | .timedHold t l => exact request_keepsCargo_of_view (timedHoldAct_cargoView l)
  | .readHolds t l => exact request_keepsCargo_of_view fun _ _ => rfl
  | .readVerdict t l => exact request_keepsCargo_of_view (readVerdictAct_cargoView l)
  | .evaluateNow t l => exact request_keepsCargo_of_view (evaluateNowAct_cargoView l)
  | .readScheduler t l => exact request_keepsCargo_of_view fun _ _ => rfl
  | .readCondition t l => exact request_keepsCargo_of_view (readConditionAct_cargoView l)
  | .enterConfig t l => exact request_keepsCargo (enterConfigAct_keepsCargo l)
  | .heldEnterConfig t => exact heldEnterConfig_keepsCargo _ _
  | .hullWrite t l => exact request_keepsCargo_of_view (hullWriteAct_cargoView l)
  | .leaveConfig t l => exact request_keepsCargo_of_view (leaveConfigAct_cargoView l)
  | .leaveConfigWriteEnd t failed => exact leaveConfigWriteEnd_keepsCargo _ _ _
  | .save t l => exact request_keepsCargo (saveAct_keepsCargo l)
  | .saveEnd t verified => exact saveEnd_keepsCargo _ _ _
  | .recall t l => exact request_keepsCargo (recallAct_keepsCargo l)
  | .recallReadEnd t checkGood => exact recallReadEnd_keepsCargo _ _ _
  | .selfCheck t l => exact request_keepsCargo (selfCheckAct_keepsCargo l)
  | .selfCheckReadEnd t checkGood => exact selfCheckReadEnd_keepsCargo _ _ _
  | .referenceWrite t l => exact request_keepsCargo_of_view (referenceWriteAct_cargoView l)
  | .referenceWriteEnd t verified => exact referenceWriteEnd_keepsCargo _ _ _
  | .lock t l => exact request_keepsCargo_of_view (lockAct_cargoView l)
  | .lockEnd t verified => exact lockEnd_keepsCargo _ _ _
  | .freeze t l => exact request_keepsCargo_of_view (freezeAct_cargoView l)
  | .freezeEnd t verified => exact freezeEnd_keepsCargo _ _ _
  | .identityWrite t l => exact request_keepsCargo_of_view (identityWriteAct_cargoView l)
  | .identityWriteEnd t verified => exact identityWriteEnd_keepsCargo _ _ _
  | .releaseTrial t l => exact request_keepsCargo fun _ s => releaseRecalled_keepsCargo s
  | .adopt t l => exact request_keepsCargo_of_view (adoptAct_cargoView l)
  | .readStore t l => exact request_keepsCargo_of_view fun _ _ => rfl
  | .readArchive t l => exact request_keepsCargo_of_view fun _ _ => rfl
  | .readIdentity t l => exact request_keepsCargo_of_view fun _ _ => rfl
  | .readHull t l => exact request_keepsCargo_of_view (readHullAct_cargoView l)
  | .noticeSelect t l => exact request_keepsCargo_of_view fun _ _ => rfl
  | .linkSet t l => exact request_keepsCargo_of_view fun _ _ => rfl
  | .readSummary t l => exact request_keepsCargo_of_view fun _ _ => rfl
  | .sampleFrame t u => exact sampleFrame_keepsCargo _ _ _
  | .staleTimerExpiry t ch => exact staleTimerExpiry_keepsCargo _ _ _
  | .periodicTimerExpiry t => exact periodicTimerExpiry_keepsCargo _ _
  | .timedHoldExpiry t l h => exact timedHoldExpiry_keepsCargo _ _ _ _
  | .grant t => exact grant_keepsCargo _ _
  | .liveCompletion t => exact liveCompletion_keepsCargo _ _
  | .stageCompletion t => exact stageCompletion_keepsCargo _ _
  | .selfCheckCompletion t => exact selfCheckCompletion_keepsCargo _ _
  | .linkBreakEnd t l => exact linkBreakEnd_keepsCargo _ _ _

theorem steps_keep_setsBounded : KeptByStep State.setsBounded :=
  keptByStep_of_exec (fun _ _ bounded => bounded) fun c s bounded s' run =>
    (setsBounded_iff s').mpr ((exec_keepsCargo c s s' run).sets ((setsBounded_iff s).mp bounded))

theorem steps_keep_lotsStand : KeptByStep State.lotsStand :=
  keptByStep_of_exec (fun _ _ stand => stand) fun c s stand s' run =>
    (lotsStand_iff s').mpr ((exec_keepsCargo c s s' run).lots ((lotsStand_iff s).mp stand))

/-- Settles O58: each command moves the view of the Stager and the lot lists only in ways that stay within their
bounds. -/
theorem stepsKeepTheSetAndLotBounds : Obligations.StepsKeepTheSetAndLotBounds :=
  ⟨steps_keep_setsBounded, steps_keep_lotsStand⟩

end Sys2Proof.Machine

/-! PROOF. What power-on and the reset line leave of the Stager, and that the end of start-up brings nothing of it
back (R40). -/

namespace Sys2Proof.Machine

/-- Start-up on a LIVE without lots leaves it without lots, and the Stager as it was (R19). -/
theorem startUpEnd_cargo {t : Nat} {badSections : BitVec 8} {badSlots : BitVec 16} {s s' : State}
    (empty : s.live.lots = []) (run : exec (.startUpEnd t badSections badSlots) s = .next s') :
    s'.live.lots = [] ∧ s'.sets = s.sets ∧ s'.ready = s.ready := by
  obtain rfl : _ = s' := Host.Outcome.next.inj run
  split
  · have noIds : s.cargoView.live = [] := (ids_eq_nil_iff _).mpr empty
    rcases endStart_cargoView (readStoreAtStart badSections badSlots (atTime t s)) with built | same
    · exact ⟨(ids_eq_nil_iff _).mp (congrArg CargoView.live built), congrArg CargoView.sets built,
        congrArg CargoView.ready built⟩
    · exact ⟨(ids_eq_nil_iff _).mp ((congrArg CargoView.live same).trans noIds), congrArg CargoView.sets same,
        congrArg CargoView.ready same⟩
  · exact ⟨empty, rfl, rfl⟩

/-- Settles O3: the state after power-on or the reset line is read off, and start-up leaves its Stager as it is. -/
theorem resetEmptiesTheStager : Obligations.ResetEmptiesTheStager := by
  unfold Obligations.ResetEmptiesTheStager
  intro t cut s s' run
  obtain rfl : resetWith (cutJob s cut) (atTime t s) = s' := by
    rcases run with run | run <;> exact Host.Outcome.next.inj run
  have slots (l : Link) : ((resetWith (cutJob s cut) (atTime t s)).sets.get l) = LinkSets.reset := by
    cases l <;> rfl
  refine ⟨fun l => ⟨?_, ?_, ?_, ?_⟩, rfl, rfl, rfl, fun t' badSections badSlots s'' l run => ?_⟩
  · rw [slots]
    rfl
  · rw [slots]
    rfl
  · rw [slots]
    rfl
  · cases l <;> rfl
  · obtain ⟨noLots, sets, ready⟩ := startUpEnd_cargo rfl run
    rw [sets, slots]
    exact ⟨noLots, rfl, rfl, ready⟩

end Sys2Proof.Machine

/-! PROOF. What becomes of a change-set message: the rights of R23, the answers, and what comes to the ready list. -/

namespace Sys2Proof.Machine

/-! ## Rights (R23) -/

theorem setRight_iff (l : Link) (q : SetMessage) : setRight l q = true ↔ ∀ e ∈ q.edits, e.owner = l := by
  simp [setRight]

/-! ## What a message comes to -/

section

variable {l : Link} {q : SetMessage} {s : State}

theorem changeSetAct_hullFault (fault : s.device = .hullFault) :
    changeSetAct l q s = (s, .answer .refusedState []) := if_pos fault

theorem changeSetAct_closing (sound : s.device ≠ .hullFault) (closing : q.final = true) :
    changeSetAct l q s = closeSet l q s := by
  unfold changeSetAct
  rw [if_neg sound, if_pos closing]

theorem changeSetAct_open (sound : s.device ≠ .hullFault) (stays : q.final = false) :
    changeSetAct l q s = holdSet l q s := by
  unfold changeSetAct
  rw [if_neg sound, if_neg (by simp [stays])]

/-- The Stager answers every message it is handed at once, never REFUSED-RIGHTS, and at most one entry joins the ready
list: the message's own. -/
theorem changeSetAct_answers (l : Link) (q : SetMessage) (s : State) : ∃ s' code body,
    changeSetAct l q s = (s', .answer code body) ∧ code ≠ .refusedRights
      ∧ ∀ r ∈ s'.ready, r ∈ s.ready ∨ r = readyEntry l q s := by
  have stands (r : ReadySet) (mem : r ∈ s.ready) : r ∈ s.ready ∨ r = readyEntry l q s := .inl mem
  by_cases fault : s.device = .hullFault
  · exact ⟨_, _, _, changeSetAct_hullFault fault, nofun, stands⟩
  · cases final : q.final with
    | true =>
      rw [changeSetAct_closing fault final, closeSet_eq]
      split
      · exact ⟨_, _, _, rfl, nofun, stands⟩
      · refine ⟨_, _, _, rfl, nofun, fun r mem => ?_⟩
        rw [raiseLive_ready] at mem
        simpa using mem
    | false =>
      rw [changeSetAct_open fault final]
      cases found : (s.sets.get l).find q.tag with
      | some o =>
        rcases le_or_gt (o.edits.length + q.edits.length) 32 with size | size
        · exact ⟨_, _, _, holdSet_continued found size, nofun, stands⟩
        · exact ⟨_, _, _, holdSet_tooLong found size, nofun, stands⟩
      | none =>
        cases opened : (s.sets.get l).openNew { tag := q.tag, edits := q.edits } with
        | some sets => exact ⟨_, _, _, holdSet_opened found opened, nofun, stands⟩
        | none => exact ⟨_, _, _, holdSet_noSlot found opened, nofun, stands⟩

end

section

variable {t : Nat} {l : Link} {m : InMsg} {q : SetMessage} {s s' : State} {code : Code} {body : List Byte}

theorem changeSetMessage_refusedRights (taken : Taken 1 readSetMessage l m q s) (wrong : ∃ e ∈ q.edits, e.owner ≠ l) :
    exec (.changeSetMessage t l) s = .next (answered l 1 m .refusedRights [] (handed t l s)) := by
  have no : setRight l q = false := by
    obtain ⟨e, mem, other⟩ := wrong
    exact Bool.eq_false_iff.mpr fun right => other ((setRight_iff l q).mp right e mem)
  exact congrArg Host.Outcome.next (request_refusedRights taken no)

theorem changeSetMessage_answered (taken : Taken 1 readSetMessage l m q s) (right : ∀ e ∈ q.edits, e.owner = l)
    (does : changeSetAct l q (handed t l s) = (s', .answer code body)) :
    exec (.changeSetMessage t l) s = .next (answered l 1 m code body s') :=
  congrArg Host.Outcome.next (request_answered taken ((setRight_iff l q).mpr right) does)

theorem answered_ready (kind : Nat) : (answered l kind m code body s).ready = s.ready := by
  simp [answered]

end

/-- Settles O13: a message with an edit of another link's kind goes no further than the check of rights, and one that
passes it makes no entry but its own. -/
theorem editRightsAreHeld : Obligations.EditRightsAreHeld := by
  unfold Obligations.EditRightsAreHeld
  intro right t l s m q taken
  have right_iff (e : Edit) : right l e ↔ e.owner = l := by
    cases e <;> exact eq_comm
  simp only [right_iff]
  refine ⟨changeSetMessage_refusedRights taken, fun own => ?_, fun s' r run mem new held => ?_⟩
  · obtain ⟨s', code, body, does, other, -⟩ := changeSetAct_answers l q (handed t l s)
    exact ⟨s', code, body, other, changeSetMessage_answered taken own does⟩
  · by_cases own : ∀ e ∈ q.edits, e.owner = l
    · obtain ⟨s1, code, body, does, -, entries⟩ := changeSetAct_answers l q (handed t l s)
      rw [changeSetMessage_answered taken own does] at run
      obtain rfl := Host.Outcome.next.inj run
      rw [answered_ready] at mem
      obtain rfl : r = readyEntry l q s := (entries r mem).resolve_left new
      refine ⟨rfl, fun e mem => (List.mem_append.mp mem).elim (fun old => ?_) (own e)⟩
      cases found : (s.sets.get l).find q.tag with
      | some o => exact held o found e (by simpa [LinkSets.heldEdits, found] using old)
      | none => simp [LinkSets.heldEdits, found] at old
    · have wrong : ∃ e ∈ q.edits, e.owner ≠ l := by simpa using own
      rw [changeSetMessage_refusedRights taken wrong] at run
      obtain rfl := Host.Outcome.next.inj run
      rw [answered_ready] at mem
      exact absurd mem new

/-- Settles O19: one equation of the Stager for each clause. -/
theorem changeSetMessagesAreStaged : Obligations.ChangeSetMessagesAreStaged := by
  unfold Obligations.ChangeSetMessagesAreStaged
  refine ⟨fun t l s m q taken right stays sound => ?_, fun t l s m q taken right closing => ?_⟩
  all_goals have own : ∀ e ∈ q.edits, e.owner = l := (setRight_iff l q).mp right
  · have answers {s' code body} (does : holdSet l q (handed t l s) = (s', .answer code body)) :
        exec (.changeSetMessage t l) s = .next (answered l 1 m code body s') :=
      changeSetMessage_answered taken own ((changeSetAct_open (s := handed t l s) sound stays).trans does)
    refine ⟨fun o found => ⟨fun size => ?_, fun size => ?_⟩, fun new => ⟨fun first => ?_, fun first second => ?_,
      fun first second => ?_⟩⟩
    · exact answers (holdSet_continued found size)
    · exact answers (holdSet_tooLong found size)
    · exact answers (holdSet_opened new (LinkSets.openNew_first _ first))
    · exact answers (holdSet_opened new (LinkSets.openNew_second _ first second))
    · exact answers (holdSet_noSlot new (LinkSets.openNew_full _ first second))
  · intro held edits
    refine ⟨fun fault => ?_, fun sound size place => ?_, fun sound full => ?_⟩
    · exact changeSetMessage_answered taken own (changeSetAct_hullFault fault)
    · exact changeSetMessage_answered taken own
        ((changeSetAct_closing (s := handed t l s) sound closing).trans (closeSet_staged size place))
    · exact changeSetMessage_answered taken own
        ((changeSetAct_closing (s := handed t l s) sound closing).trans (closeSet_full full))

end Sys2Proof.Machine

/-! PROOF. What the report of a tried set leaves at its link and at the others, and that a set applies whole or is
refused whole (R29, R37, R38). -/

namespace Sys2Proof.Machine

/-- A SET-DONE written to its slot: unsent content is replaced and counted (R204). -/
theorem Liu.write_setDone (u : Liu) (o : SetOutcome) : u.write (.setDone o) = { u with
    slots := { u.slots with setDone := some (.setDone o) }
    summary := { u.summary with
      replaced := if u.slots.setDone.isSome then bump u.summary.replaced else u.summary.replaced } } := by
  have counted (b : Bool) (m : Summary) : (if b then { m with replaced := bump m.replaced } else m) =
      { m with replaced := if b then bump m.replaced else m.replaced } := by
    cases b <;> rfl
  exact congrArg (fun m => { u with slots := u.slots.set .setDone (some (.setDone o)), summary := m })
    (counted u.slots.setDone.isSome u.summary)

section

variable {l l' : Link} {o : SetOutcome} {s : State}

theorem reportSet_outcomes (l : Link) (o : SetOutcome) (s : State) :
    ((reportSet l o s).sets.get l).outcomes = (o :: (s.sets.get l).outcomes).take 4 := by
  simp [reportSet, raiseAt, Config.maxOutcomes]

theorem reportSet_other (o : SetOutcome) (s : State) (other : l' ≠ l) :
    (reportSet l o s).sets.get l' = s.sets.get l' ∧ (reportSet l o s).lius.get l' = s.lius.get l' := by
  refine ⟨PerLink.get_set_other _ _ other, ?_⟩
  unfold reportSet raiseAt
  dsimp only
  rw [modifyLiu_get_other _ _ other, modifyLiu_get_other _ _ other]

/-- A set's outcome counted: applied, or refused (R38). -/
def Summary.countSet (m : Summary) (o : SetOutcome) : Summary :=
  if o.code = .done then { m with applied := bump m.applied } else { m with refusedSets := bump m.refusedSets }

/-- SET-DONE takes its slot at the set's own link, whether the link selects it or not; unsent content is counted as
replaced (R37, R204). -/
theorem reportSet_link (l : Link) (o : SetOutcome) (s : State) :
    (reportSet l o s).lius.get l = { s.lius.get l with
      slots := { (s.lius.get l).slots with setDone := some (.setDone o) }
      summary := { (s.lius.get l).summary.countSet o with
        replaced := if (s.lius.get l).slots.setDone.isSome then bump (s.lius.get l).summary.replaced
                    else (s.lius.get l).summary.replaced } } := by
  have counted (m : Summary) : (m.countSet o).replaced = m.replaced := by
    unfold Summary.countSet
    split <;> rfl
  have report : (reportSet l o s).lius.get l =
      Liu.write { s.lius.get l with summary := (s.lius.get l).summary.countSet o } (.setDone o) := by
    unfold reportSet raiseAt
    dsimp only
    rw [modifyLiu_get, modifyLiu_get]
    rfl
  rw [report, Liu.write_setDone, counted]

end

/-! ## A set tried -/

/-- The outcome of a set that was applied, the version already advanced. -/
def appliedOutcome (r : ReadySet) (s : State) : SetOutcome :=
  { tag := r.tag, edits := r.edits.length, code := .done, failure := none, version := s.version + 1 }

/-- The outcome of a set that was refused. -/
def refusedOutcome (r : ReadySet) (f : Code × SetFailure) (s : State) : SetOutcome :=
  { tag := r.tag, edits := r.edits.length, code := f.1, failure := some f.2, version := s.version }

section

variable {r : ReadySet} {s : State} {w : EditState} {f : Code × SetFailure}

theorem applySet_applied (run : tryEdits s.editEnv 0 { area := s.live, ring := s.ring } r.edits = .ok w) :
    applySet r s = reportSet r.link (appliedOutcome r s) (bumpVersion { s with live := w.area, ring := w.ring }) := by
  unfold applySet
  rw [run]
  rfl

theorem applySet_refused (run : tryEdits s.editEnv 0 { area := s.live, ring := s.ring } r.edits = .error f) :
    applySet r s = reportSet r.link (refusedOutcome r f s) s := by
  unfold applySet
  rw [run]
  rfl

end

/-- Settles O20: a set tried is reported once, over LIVE and the ring its edits left or over the state as it was. -/
theorem setsApplyWholeOrNotAtAll : Obligations.SetsApplyWholeOrNotAtAll := by
  unfold Obligations.SetsApplyWholeOrNotAtAll
  intro up r s
  cases run : tryEdits s.editEnv 0 { area := s.live, ring := s.ring } r.edits with
  | ok w =>
    rw [applySet_applied run]
    refine ⟨appliedOutcome r s, reportSet_outcomes _ _ _, rfl, rfl, rfl, fun l other => reportSet_other _ _ other,
      ?_, nofun, rfl, rfl, rfl, rfl, rfl, rfl⟩
    rintro _ ⟨⟩
    exact ⟨rfl, rfl, rfl, rfl, rfl, reportSet_link _ _ _⟩
  | error f =>
    rw [applySet_refused run]
    refine ⟨refusedOutcome r f s, reportSet_outcomes _ _ _, rfl, rfl, rfl, fun l other => reportSet_other _ _ other,
      nofun, ?_, rfl, rfl, rfl, rfl, rfl, rfl⟩
    rintro c failure ⟨⟩
    refine ⟨rfl, rfl, rfl, rfl, rfl, (reportSet_link _ _ _).trans ?_⟩
    have notDone : (refusedOutcome r (c, failure) s).code ≠ .done := tryEdits_code run
    unfold Summary.countSet
    rw [if_neg notDone]
    rfl

end Sys2Proof.Machine

/-! PROOF. What each edit leaves of LIVE and the ring, or the code that refuses it: the checks an edit makes as
statements, then one lemma for each outcome of each edit kind (R30 to R35). -/

namespace Sys2Proof.Machine

/-! ## The checks as statements -/

theorem within_iff (lo hi v : Int) : within lo hi v = true ↔ lo ≤ v ∧ v ≤ hi := by
  simp [within]

theorem posInRange_iff (p : Pos) : p.inRange = true ↔
    -20000 ≤ p.x ∧ p.x ≤ 300000 ∧ -30000 ≤ p.y ∧ p.y ≤ 30000 ∧ 0 ≤ p.z ∧ p.z ≤ 80000 := by
  simp [Pos.inRange, xRange, yRange, zRange, within_iff, and_assoc]

theorem lotFigures_iff (declared half : Int) :
    lotFigures declared half = true ↔ 1 ≤ declared ∧ declared ≤ 20000 ∧ 0 ≤ half ∧ half ≤ 30000 := by
  simp [lotFigures, within_iff, and_assoc]

/-- A place that passes R7 names a known space. -/
theorem fits_known {spaces : List SpaceRec} {half : Int} {p : Place} (fit : fits spaces half p = true) :
    (spaceOf spaces p.space).isSome = true := by
  unfold fits at fit
  split at fit
  · cases fit
  next r known => simp [known]

section

variable {env : EditEnv} {w : EditState} {id : Nat} {lot : Lot}

theorem stowKnown_iff (env : EditEnv) (p : Option Place) :
    stowKnown env p = true ↔ ¬ ∃ q, p = some q ∧ spaceOf env.spaces q.space = none := by
  cases p <;> simp [stowKnown, Option.isSome_iff_ne_none]

theorem stowFits_iff (env : EditEnv) (half : Int) (p : Option Place) :
    stowFits env half p = true ↔ ∀ q, p = some q → fits env.spaces half q = true := by
  cases p <;> simp [stowFits]

theorem stowKnown_of_fits {half : Int} {p : Option Place} (fit : stowFits env half p = true) :
    stowKnown env p = true := by
  cases p with
  | none => rfl
  | some q => exact fits_known fit

theorem stowedSpan_iff (env : EditEnv) (lot : Lot) (half : Int) : stowedSpan env lot half = true ↔
    (lot.state = .stowed → ∀ p, lot.place = some p →
      ∃ r, spaceOf env.spaces p.space = some r ∧ r.xAft ≤ p.pos.x - half ∧ p.pos.x + half ≤ r.xFwd) := by
  unfold stowedSpan
  split
  next p stowed place =>
    cases known : spaceOf env.spaces p.space <;> simp [stowed, place, known, SpaceRec.holdsSpan]
  next other =>
    simp only [true_iff]
    exact fun stowed p place => absurd place (other p stowed)

/-! ## LOT-ENTER (R31) -/

section

variable {declared half : Int} {planned : Option Place} {tag : Option (List Byte)}

theorem tryEnter_refusedState (held : (w.area.findLot id).isSome = true) :
    tryEnter env w id declared half planned tag = .error .refusedState := if_pos held

theorem tryEnter_unknownItem (new : w.area.findLot id = none) (unknown : stowKnown env planned = false) :
    tryEnter env w id declared half planned tag = .error .unknownItem := by
  simp [tryEnter, new, unknown]

theorem tryEnter_refusedRange (new : w.area.findLot id = none) (known : stowKnown env planned = true)
    (bad : ¬ (lotFigures declared half = true ∧ stowFits env half planned = true)) :
    tryEnter env w id declared half planned tag = .error .refusedRange := by
  have bad : (lotFigures declared half && stowFits env half planned) = false := by simpa using bad
  simp [tryEnter, new, known, bad]

theorem tryEnter_full (new : w.area.findLot id = none) (figures : lotFigures declared half = true)
    (fit : stowFits env half planned = true) (full : 512 ≤ w.area.lots.length) :
    tryEnter env w id declared half planned tag = .error .full := by
  simp [tryEnter, new, stowKnown_of_fits fit, figures, fit, Config.maxLots, full]

theorem tryEnter_entered (new : w.area.findLot id = none) (figures : lotFigures declared half = true)
    (fit : stowFits env half planned = true) (room : w.area.lots.length < 512) :
    tryEnter env w id declared half planned tag = .ok { w with area := { w.area with lots := w.area.lots ++
      [{ id := id, declared := declared, measured := none, half := half, state := .planned, place := none
         planned := planned, crane := none, resting := none, dest := none, discrepancy := false, tag := tag }] } } := by
  simp [tryEnter, new, stowKnown_of_fits fit, figures, fit, Config.maxLots, not_le.mpr room]

end

/-! ## LOT-AMEND (R32) -/

section

variable {declared half : Option Int} {planned : Option (Option Place)} {tag : Option (Option (List Byte))}

/-- The range checks of a LOT-AMEND. -/
def amendFits (env : EditEnv) (lot : Lot) (declared half : Option Int) (planned : Option (Option Place)) : Bool :=
  declared.all (within 1 20000) && half.all (within 0 30000)
    && stowFits env (half.getD lot.half) (planned.getD none) && stowedSpan env lot (half.getD lot.half)

theorem amendFits_iff (env : EditEnv) (lot : Lot) (declared half : Option Int) (planned : Option (Option Place)) :
    amendFits env lot declared half planned = true ↔
      (∀ m, declared = some m → 1 ≤ m ∧ m ≤ 20000) ∧ (∀ x, half = some x → 0 ≤ x ∧ x ≤ 30000)
        ∧ (∀ q, planned.getD none = some q → fits env.spaces (half.getD lot.half) q = true)
        ∧ (lot.state = .stowed → ∀ p, lot.place = some p → ∃ r, spaceOf env.spaces p.space = some r
            ∧ r.xAft ≤ p.pos.x - half.getD lot.half ∧ p.pos.x + half.getD lot.half ≤ r.xFwd) := by
  simp only [amendFits, Bool.and_eq_true, Option.all_eq_true, within_iff, stowFits_iff, stowedSpan_iff, and_assoc]

theorem tryAmend_eq (found : w.area.findLot id = some lot) : tryAmend env w id declared half planned tag =
    if !stowKnown env (planned.getD none) then .error .unknownItem
    else if lot.state = .slung ∨ lot.state = .lifted then .error .refusedState
    else if !amendFits env lot declared half planned then .error .refusedRange
    else .ok { w with area := w.area.putLot (lot.amend declared half planned tag) } := by
  unfold tryAmend
  rw [found]
  rfl

theorem tryAmend_unknownItem (found : w.area.findLot id = some lot)
    (unknown : stowKnown env (planned.getD none) = false) :
    tryAmend env w id declared half planned tag = .error .unknownItem := by
  simp [tryAmend_eq found, unknown]

theorem tryAmend_refusedState (found : w.area.findLot id = some lot) (known : stowKnown env (planned.getD none) = true)
    (inHand : lot.state = .slung ∨ lot.state = .lifted) :
    tryAmend env w id declared half planned tag = .error .refusedState := by
  simp [tryAmend_eq found, known, inHand]

theorem tryAmend_refusedRange (found : w.area.findLot id = some lot) (known : stowKnown env (planned.getD none) = true)
    (atRest : ¬ (lot.state = .slung ∨ lot.state = .lifted)) (bad : ¬ amendFits env lot declared half planned = true) :
    tryAmend env w id declared half planned tag = .error .refusedRange := by
  simp [tryAmend_eq found, known, atRest, bad]

theorem tryAmend_amended (found : w.area.findLot id = some lot)
    (atRest : ¬ (lot.state = .slung ∨ lot.state = .lifted)) (good : amendFits env lot declared half planned = true) :
    tryAmend env w id declared half planned tag =
      .ok { w with area := w.area.putLot (lot.amend declared half planned tag) } := by
  obtain ⟨-, -, planFits, -⟩ := (amendFits_iff _ _ _ _ _).mp good
  have fit : stowFits env (half.getD lot.half) (planned.getD none) = true := (stowFits_iff _ _ _).mpr planFits
  simp [tryAmend_eq found, stowKnown_of_fits fit, atRest, good]

end

/-! ## LOT-DROP and LOT-REMOVE (R33, R34) -/

theorem tryDrop_eq (found : w.area.findLot id = some lot) : tryDrop w id =
    if lot.state ≠ .planned then .error .refusedState
    else .ok { area := w.area.freeLot id, ring := w.ring.withdrawLot id } := by
  unfold tryDrop
  rw [found]

theorem tryRemove_eq (found : w.area.findLot id = some lot) : tryRemove w id =
    if lot.state ≠ .stowed then .error .refusedState
    else .ok { area := w.area.freeLot id, ring := w.ring.completeLot id none } := by
  unfold tryRemove
  rw [found]

/-! ## LOT-PLACE and LOT-SHIFT (R34) -/

/-- A LOT-PLACE puts the lot at the place it gives, or at the planned stow. -/
theorem tryPlace_eq {place : Option Place} {p : Place} (found : w.area.findLot id = some lot)
    (target : place.or lot.planned = some p) : tryPlace env w id place =
      if !stowKnown env place then .error .unknownItem
      else if lot.state ≠ .planned then .error .refusedState
      else if fits env.spaces lot.half p then .ok (w.stow lot p) else .error .refusedRange := by
  simp only [tryPlace, found, target]

theorem tryPlace_noTarget (found : w.area.findLot id = some lot) (no : lot.state ≠ .planned ∨ lot.planned = none) :
    tryPlace env w id none = .error .refusedState := by
  rcases no with other | unplanned
  · simp [tryPlace, found, stowKnown, other]
  · simp [tryPlace, found, stowKnown, unplanned]

theorem tryShift_eq (found : w.area.findLot id = some lot) (p : Place) : tryShift env w id p =
    if !stowKnown env (some p) then .error .unknownItem
    else if lot.state ≠ .stowed then .error .refusedState
    else if fits env.spaces lot.half p then .ok (w.stow lot p) else .error .refusedRange := by
  unfold tryShift
  rw [found]

/-! ## The other items (R35) -/

theorem tryConst_refusedRange {slot : Nat} {mass : Int} {p : Pos} (known : slot ≤ 15)
    (bad : ¬ (within 0 20000 mass = true ∧ p.inRange = true)) : tryConst w slot mass p = .error .refusedRange := by
  have bad : (within 0 20000 mass && p.inRange) = false := by simpa using bad
  simp [tryConst, not_lt.mpr known, bad]

theorem tryConst_written {slot : Nat} {mass : Int} {p : Pos} (known : slot ≤ 15)
    (range : within 0 20000 mass = true) (place : p.inRange = true) : tryConst w slot mass p =
      .ok { w with area := { w.area with constants := w.area.constants.set slot ⟨mass, p⟩ } } := by
  simp [tryConst, not_lt.mpr known, range, place]

theorem tryHeight_eq {crane : Nat} (known : (nth1 env.cranes crane).isSome = true) (height : Int) :
    tryHeight env w crane height = if !within 0 80000 height then .error .refusedRange
      else .ok { w with area := { w.area with
        cranes := w.area.cranes.modify (crane - 1) (fun c => { c with height := height }) } } := by
  unfold tryHeight
  rw [if_neg (by simpa [Option.isSome_iff_ne_none] using known)]

section

variable {tank : Nat} {r : TankRec} {k : TankState}

/-- One tank written is the one item of the list that changes. -/
theorem modifyTank_eq {a : Area} (held : a.tanks[tank]? = some k) (f : TankState → TankState) :
    a.modifyTank tank f = { a with tanks := a.tanks.set tank (f k) } := by
  simp [Area.modifyTank, List.modify_eq_set_getElem?, held]

theorem tryTankState_eq (known : env.tanks[tank]? = some r) (held : w.area.tanks[tank]? = some k) (v : Int) :
    tryTankState env w tank v = if k.source = .gauged then .error .refusedState
      else if !within 0 r.capacity v then .error .refusedRange
      else .ok { w with area := { w.area with tanks := w.area.tanks.set tank { k with volume := v } } } := by
  unfold tryTankState Area.tankStated
  rw [known]
  simp only [modifyTank_eq held, held]
  cases k.source <;> rfl

theorem tryDensity_eq (known : env.tanks[tank]? = some r) (held : w.area.tanks[tank]? = some k) (d : Int) :
    tryDensity env w tank d = if !within 600 2100 d then .error .refusedRange
      else .ok { w with area := { w.area with tanks := w.area.tanks.set tank { k with density := d } } } := by
  simp [tryDensity, known, modifyTank_eq held]

theorem trySource_eq (known : env.tanks[tank]? = some r) (held : w.area.tanks[tank]? = some k) (src : TankSource) :
    trySource env w tank src =
      if src = .gauged ∧ gaugeBound env.channels tank = false then .error .refusedState
      else .ok { w with area := { w.area with tanks := w.area.tanks.set tank { k with source := src } } } := by
  simp [trySource, known, modifyTank_eq held]

end

end

/-! ## Every edit -/

/-- A lot that is not held is UNKNOWN-ITEM to every edit but LOT-ENTER (R32 to R34). -/
theorem tryLot_unknownItem {env : EditEnv} {w : EditState} {id : Nat} (new : w.area.findLot id = none) :
    (∀ d h p g, tryEdit env w (.lotAmend id d h p g) = .error .unknownItem)
      ∧ tryEdit env w (.lotDrop id) = .error .unknownItem ∧ tryEdit env w (.lotRemove id) = .error .unknownItem
      ∧ (∀ p, tryEdit env w (.lotPlace id p) = .error .unknownItem)
      ∧ ∀ p, tryEdit env w (.lotShift id p) = .error .unknownItem := by
  simp [tryEdit, tryAmend, tryDrop, tryRemove, tryPlace, tryShift, new]

/-- A tank the hull data do not hold is UNKNOWN-ITEM (R35). -/
theorem tryTank_unknownItem {env : EditEnv} {w : EditState} {tank : Nat} (no : env.tanks[tank]? = none) :
    (∀ v, tryEdit env w (.tankState tank v) = .error .unknownItem)
      ∧ (∀ d, tryEdit env w (.tankDensity tank d) = .error .unknownItem)
      ∧ ∀ src, tryEdit env w (.tankSource tank src) = .error .unknownItem := by
  simp [tryEdit, tryTankState, tryDensity, trySource, no]

/-- Settles O21: clause by clause, from the lemmas of each edit kind. -/
theorem editsActOnTheirItem : Obligations.EditsActOnTheirItem := by
  unfold Obligations.EditsActOnTheirItem
  intro env w unknown fit put
  have known_iff (p : Option Place) : stowKnown env p = true ↔ ¬ unknown p := stowKnown_iff env p
  have unknown_iff (p : Option Place) : stowKnown env p = false ↔ unknown p := by
    rw [Bool.eq_false_iff, ne_eq, known_iff, not_not]
  have fits_iff (half : Int) (p : Option Place) : stowFits env half p = true ↔ fit half p := stowFits_iff env half p
  refine ⟨?enter, fun id lot found => ⟨?amend, ?drop, ?keepDrop, ?space, ?noTarget, ?plan, ?remove, ?keepRemove⟩,
    fun id => tryLot_unknownItem, ?const, fun m => rfl, ?height, fun tank => tryTank_unknownItem, ?tank⟩
  case enter =>
    intro id declared half planned tag
    refine ⟨tryEnter_refusedState, fun new => ⟨fun un => ?_, fun known bad => ?_, fun figures fits full => ?_,
      fun figures fits room => ?_⟩⟩
    · exact tryEnter_unknownItem new ((unknown_iff _).mpr un)
    · exact tryEnter_refusedRange new ((known_iff _).mpr known) (by rwa [lotFigures_iff, fits_iff])
    · exact tryEnter_full new ((lotFigures_iff _ _).mpr figures) ((fits_iff _ _).mpr fits) full
    · exact tryEnter_entered new ((lotFigures_iff _ _).mpr figures) ((fits_iff _ _).mpr fits) room
  case amend =>
    intro declared half planned tag
    refine ⟨fun un => ?_, fun known inHand => ?_, fun known atRest bad => ?_, fun atRest good => ?_⟩
    · exact tryAmend_unknownItem found ((unknown_iff _).mpr un)
    · exact tryAmend_refusedState found ((known_iff _).mpr known) inHand
    · exact tryAmend_refusedRange found ((known_iff _).mpr known) atRest fun good => bad ((amendFits_iff ..).mp good)
    · exact tryAmend_amended found atRest ((amendFits_iff ..).mpr good)
  case drop => exact fun planned => (tryDrop_eq found).trans (if_neg (not_not.mpr planned))
  case keepDrop => exact fun other => (tryDrop_eq found).trans (if_pos other)
  case remove => exact fun stowed => (tryRemove_eq found).trans (if_neg (not_not.mpr stowed))
  case keepRemove => exact fun other => (tryRemove_eq found).trans (if_pos other)
  case noTarget => exact tryPlace_noTarget found
  case plan =>
    intro p planned target
    have place := tryPlace_eq (env := env) (place := none) found target
    exact ⟨fun fit => by simp [tryEdit, place, stowKnown, planned, fit]; rfl,
      fun bad => by simp [tryEdit, place, stowKnown, planned, bad]⟩
  case space =>
    intro p
    have place := tryPlace_eq (env := env) (place := some p) (p := p) found rfl
    have shift := tryShift_eq (env := env) found p
    refine ⟨fun un => ?_, fun known => ⟨fun other => ?_, fun other => ?_, fun bad => ⟨fun planned => ?_,
      fun stowed => ?_⟩⟩, fun fit => ⟨fun planned => ?_, fun stowed => ?_⟩⟩
    · simp [tryEdit, place, shift, stowKnown, un]
    · simp [tryEdit, place, stowKnown, known, other]
    · simp [tryEdit, shift, stowKnown, known, other]
    · simp [tryEdit, place, stowKnown, known, planned, bad]
    · simp [tryEdit, shift, stowKnown, known, stowed, bad]
    · simp [tryEdit, place, stowKnown, fits_known fit, planned, fit]
      rfl
    · simp [tryEdit, shift, stowKnown, fits_known fit, stowed, fit]
      rfl
  case const =>
    intro slot mass p
    refine ⟨fun beyond => if_pos beyond, fun known bad => ?_, fun known good => ?_⟩
    · refine tryConst_refusedRange known ?_
      rwa [within_iff, posInRange_iff, and_assoc]
    · obtain ⟨low, high, place⟩ := good
      exact tryConst_written known ((within_iff _ _ _).mpr ⟨low, high⟩) ((posInRange_iff p).mpr place)
  case height =>
    intro crane height
    refine ⟨fun no => ?_, fun known bad => ?_, fun known low high => ?_⟩
    · simp [tryEdit, tryHeight, no]
    · have bad : within 0 80000 height = false := by
        rw [Bool.eq_false_iff, ne_eq, within_iff]
        omega
      simp [tryEdit, tryHeight_eq known, bad]
    · simp [tryEdit, tryHeight_eq known, (within_iff _ _ _).mpr ⟨low, high⟩]
  case tank =>
    intro tank r k known held left
    refine ⟨fun v => ⟨fun gauged => ?_, fun stated bad => ?_, fun stated low high => ?_⟩,
      fun d => ⟨fun bad => ?_, fun low high => ?_⟩, ?_, fun bound => ?_, fun unbound => ?_⟩
    · simp [tryEdit, tryTankState_eq known held, gauged]
    · have bad : within 0 r.capacity v = false := by
        rw [Bool.eq_false_iff, ne_eq, within_iff]
        omega
      simp [tryEdit, tryTankState_eq known held, stated, bad]
    · simp [tryEdit, tryTankState_eq known held, stated, (within_iff _ _ _).mpr ⟨low, high⟩, left]
    · have bad : within 600 2100 d = false := by
        rw [Bool.eq_false_iff, ne_eq, within_iff]
        omega
      simp [tryEdit, tryDensity_eq known held, bad]
    · simp [tryEdit, tryDensity_eq known held, (within_iff _ _ _).mpr ⟨low, high⟩, left]
    · simp [tryEdit, trySource_eq known held, left]
    · simp [tryEdit, trySource_eq known held, bound, left]
    · simp [tryEdit, trySource_eq known held, unbound]

end Sys2Proof.Machine

/-! PROOF. What a crane's movements leave of a lot, the Tracker and the live request: attaching and its checks,
detaching, landing without a reading, lift-off and set-down (R43 to R62). -/

namespace Sys2Proof.Machine

/-! ## What every movement shares -/

/-- The net load of a HOOK value is never below 0 (R47). -/
theorem netLoad_eq_max (tare value : Int) : netLoad tare value = max 0 (value - tare) := by
  unfold netLoad
  split <;> omega

theorem nth1_modify {α : Type} (xs : List α) (n : Nat) (f : α → α) :
    nth1 (xs.modify (n - 1) f) n = (nth1 xs n).map f := by
  unfold nth1
  split
  · rfl
  · simp

/-- An attachment record written twice is written once with both changes. -/
theorem modifyTracker_modifyTracker (crane : Nat) (f g : Attachment → Attachment) (s : State) :
    modifyTracker crane g (modifyTracker crane f s) = modifyTracker crane (g ∘ f) s :=
  congrArg (fun k => { s with tracker := k }) (List.modify_modify_eq f g (crane - 1) s.tracker)

theorem modifyTracker_tracker_modify (crane : Nat) (f g : Attachment → Attachment) (s : State) :
    (modifyTracker crane f s).tracker.modify (crane - 1) g = s.tracker.modify (crane - 1) (g ∘ f) :=
  congrArg State.tracker (modifyTracker_modifyTracker crane f g s)

/-- In RUN a live request is raised with its cause (R134). -/
theorem raiseLive_run (c : Cause) {s : State} (run : s.device = .run) : raiseLive c s = { s with
    sched := { s.sched with livePending := true, causes := s.sched.causes ||| c.bit } } := if_pos run

/-- The answer of a movement, from the ordinal of the lot's state and the field of where it rests (R43). -/
theorem movementAnswer_eq {lot : Lot} {freed : Bool} {present rests : Byte} (n : Nat) (s : State)
    (state : (if freed then 4 else lot.state.num) = n)
    (resting : optField 1 (lot.resting.map fun r => be 1 r.num) = [present, rests]) :
    movementAnswer lot freed s =
      .answer .done (be 2 lot.id ++ [BitVec.ofNat 8 n, present, rests] ++ be 4 s.version.toNat) := by
  unfold movementAnswer verBytes
  rw [state, resting, List.append_assoc (be 2 lot.id)]
  simp [be]

/-- A SET-DOWN's notice is forced to the planning link by the discrepancy mark alone (R62). -/
theorem lotNotice_setDown (lot : Lot) (freed : Bool) (crane : Nat) (peak : Option Int) (s : State) :
    lotNotice .setDown lot freed crane peak s = raiseNotice (fun l => lot.discrepancy && decide (l = .planning))
      (.lot { event := .setDown, lot := lot, freed := freed, crane := crane, peak := peak, version := s.version }) s :=
  rfl

/-- The notice and the answer with which a movement but a SET-DOWN ends. -/
theorem movementReport_eq {e : LotEvent} {lot : Lot} {freed : Bool} {present rests : Byte} {crane : Nat} {s : State}
    (n : Nat) (other : e ≠ .setDown) (state : (if freed then 4 else lot.state.num) = n)
    (resting : optField 1 (lot.resting.map fun r => be 1 r.num) = [present, rests]) :
    (lotNotice e lot freed crane none s, movementAnswer lot freed s) =
      (raiseNotice forcedNone
        (.lot { event := e, lot := lot, freed := freed, crane := crane, peak := none, version := s.version }) s,
       .answer .done (be 2 lot.id ++ [BitVec.ofNat 8 n, present, rests] ++ be 4 s.version.toNat)) := by
  rw [lotNotice_forcedNone _ _ _ _ _ other, movementAnswer_eq n s state resting]

/-! ## ATTACH (R45, R46) -/

/-- An ATTACH that names a crane or a space not in force (R45). -/
def AttachFields.Missing (q : AttachFields) (s : State) : Prop :=
  nth1 s.cranes q.crane = none ∨ ∃ p, q.dest = .aboard p ∧ spaceOf s.spaces p.space = none

/-- A lot in a state from which ATTACH may take it to its destination (R45). -/
def AttachFields.Slings (q : AttachFields) (lot : Lot) : Prop :=
  (lot.state = .planned ∧ q.dest ≠ .ashore) ∨ lot.state = .stowed

theorem Dest.known_iff (d : Dest) (spaces : List SpaceRec) :
    d.known spaces = true ↔ ¬ ∃ p, d = .aboard p ∧ spaceOf spaces p.space = none := by
  cases d <;> simp [Dest.known, Option.isSome_iff_ne_none]

theorem Dest.fits_iff (d : Dest) (spaces : List SpaceRec) (half : Int) :
    d.fits spaces half = true ↔ ∀ p, d = .aboard p → Machine.fits spaces half p = true := by
  cases d <;> simp [Dest.fits]

/-- A destination that passes R7 names a known space. -/
theorem Dest.fits_known {d : Dest} {spaces : List SpaceRec} {half : Int} (fit : d.fits spaces half = true) :
    d.known spaces = true := by
  cases d with
  | ashore => rfl
  | aboard p => exact Machine.fits_known fit

theorem AttachFields.missing_iff (q : AttachFields) (s : State) :
    ((nth1 s.cranes q.crane).isNone || !q.dest.known s.spaces) = true ↔ q.Missing s := by
  have unknown := not_congr (q.dest.known_iff s.spaces)
  rw [not_not] at unknown
  rw [Bool.or_eq_true, Option.isNone_iff_eq_none, Bool.not_eq_true', Bool.eq_false_iff, ne_eq, unknown]
  rfl

section

variable {q : AttachFields} {s : State} {lot : Lot}

theorem attachCheck_outsideRun (outside : s.device ≠ .run) : attachCheck q s = .error .refusedState := if_pos outside

theorem attachCheck_noLot (run : s.device = .run) (new : s.live.findLot q.lot = none) :
    attachCheck q s = .error .unknownItem := by
  unfold attachCheck
  rw [if_neg (not_not.mpr run), new]

/-- The checks of R45 once the lot is found. -/
theorem attachCheck_found (run : s.device = .run) (found : s.live.findLot q.lot = some lot) : attachCheck q s =
    if (nth1 s.cranes q.crane).isNone || !q.dest.known s.spaces then .error .unknownItem
    else if lot.state = .slung ∨ lot.state = .lifted then .error .refusedState
    else if lot.state = .planned ∧ q.dest = .ashore then .error .refusedState
    else if (s.live.attachedTo q.crane).isSome then .error .busy
    else if !q.dest.fits s.spaces lot.half then .error .refusedRange
    else .ok lot := by
  unfold attachCheck
  rw [if_neg (not_not.mpr run), found]

theorem attachCheck_missing (run : s.device = .run) (missing : q.Missing s) :
    attachCheck q s = .error .unknownItem := by
  cases found : s.live.findLot q.lot with
  | none => exact attachCheck_noLot run found
  | some lot => rw [attachCheck_found run found, if_pos ((q.missing_iff s).mpr missing)]

theorem attachCheck_refusedState (run : s.device = .run) (found : s.live.findLot q.lot = some lot)
    (known : ¬ q.Missing s)
    (wrong : (lot.state = .slung ∨ lot.state = .lifted) ∨ (lot.state = .planned ∧ q.dest = .ashore)) :
    attachCheck q s = .error .refusedState := by
  rw [attachCheck_found run found, if_neg (mt (q.missing_iff s).mp known)]
  by_cases inHand : lot.state = .slung ∨ lot.state = .lifted
  · rw [if_pos inHand]
  · rw [if_neg inHand, if_pos (wrong.resolve_left inHand)]

/-- The checks of R45 that are left once the lot may be slung. -/
theorem attachCheck_slings (run : s.device = .run) (found : s.live.findLot q.lot = some lot) (known : ¬ q.Missing s)
    (slings : q.Slings lot) : attachCheck q s =
      if (s.live.attachedTo q.crane).isSome then .error .busy
      else if !q.dest.fits s.spaces lot.half then .error .refusedRange
      else .ok lot := by
  have free : ¬ (lot.state = .slung ∨ lot.state = .lifted) := by
    rcases slings with ⟨planned, -⟩ | stowed
    · simp [planned]
    · simp [stowed]
  have goes : ¬ (lot.state = .planned ∧ q.dest = .ashore) := by
    rcases slings with ⟨-, aboard⟩ | stowed
    · simp [aboard]
    · simp [stowed]
  rw [attachCheck_found run found, if_neg (mt (q.missing_iff s).mp known), if_neg free, if_neg goes]

theorem attachCheck_busy (run : s.device = .run) (found : s.live.findLot q.lot = some lot) (known : ¬ q.Missing s)
    (slings : q.Slings lot) (busy : (s.live.attachedTo q.crane).isSome = true) :
    attachCheck q s = .error .busy := by
  rw [attachCheck_slings run found known slings, if_pos busy]

theorem attachCheck_refusedRange {p : Place} (run : s.device = .run) (found : s.live.findLot q.lot = some lot)
    (known : ¬ q.Missing s) (slings : q.Slings lot) (free : s.live.attachedTo q.crane = none)
    (aboard : q.dest = .aboard p) (bad : fits s.spaces lot.half p = false) :
    attachCheck q s = .error .refusedRange := by
  rw [attachCheck_slings run found known slings]
  simp [free, aboard, Dest.fits, bad]

theorem attachCheck_passed {rec : CraneRec} (run : s.device = .run) (found : s.live.findLot q.lot = some lot)
    (crane : nth1 s.cranes q.crane = some rec) (slings : q.Slings lot) (free : s.live.attachedTo q.crane = none)
    (fit : ∀ p, q.dest = .aboard p → fits s.spaces lot.half p = true) : attachCheck q s = .ok lot := by
  have fit : q.dest.fits s.spaces lot.half = true := (q.dest.fits_iff _ _).mpr fit
  have known : ¬ q.Missing s := by
    rintro (noCrane | unknown)
    · simp [crane] at noCrane
    · exact (q.dest.known_iff _).mp (Dest.fits_known fit) unknown
  rw [attachCheck_slings run found known slings]
  simp [free, fit]

theorem attachAct_refused {c : Code} (l : Link) (no : attachCheck q s = .error c) :
    attachAct l q s = (s, .answer c []) := by
  unfold attachAct
  rw [no]
  rfl

/-- A lot that passes the checks is slung: LIVE changes, and the notice and the answer tell of it (R46). -/
theorem attachAct_slung (l : Link) (passed : attachCheck q s = .ok lot) : attachAct l q s =
    (raiseNotice forcedNone
      (.lot { event := .attach, lot := lot.toSlung q.crane q.dest, freed := false, crane := q.crane, peak := none
              version := s.version })
      { s with live := (s.live.putLot (lot.toSlung q.crane q.dest)).setAttached q.crane (some lot.id) },
     .answer .done (be 2 lot.id ++ [1, 1, if lot.state = .stowed then 1 else 0] ++ be 4 s.version.toNat)) := by
  have rests : optField 1 ((lot.toSlung q.crane q.dest).resting.map fun r => be 1 r.num) =
      [1, if lot.state = .stowed then 1 else 0] := by
    unfold Lot.toSlung
    split <;> rfl
  unfold attachAct
  rw [passed]
  exact movementReport_eq 1 nofun rfl rests

theorem attach_answered {t : Nat} {m : InMsg} {s' : State} {code : Code} {body : List Byte}
    (taken : Taken 3 readAttach .deck m q s)
    (does : attachAct .deck q (handed t .deck s) = (s', .answer code body)) :
    exec (.attach t .deck) s = .next (answered .deck 3 m code body s') :=
  congrArg Host.Outcome.next (request_answered taken rfl does)

end

/-- Settles O22: a lot that passes the checks of R45 is slung, and each outcome of the checks has its lemma. -/
theorem attachSlingsALot : Obligations.AttachSlingsALot := by
  unfold Obligations.AttachSlingsALot
  refine ⟨fun t s m q lot rec taken run found crane free ready fit => ?_, fun t s m q taken => ?_⟩
  · have passed : attachCheck q s = .ok lot := attachCheck_passed run found crane ready free fit
    have slings := attachAct_slung (s := handed t .deck s) .deck passed
    exact ⟨lot.toSlung q.crane q.dest, rfl, attach_answered taken slings⟩
  · intro refusedWith missing
    have refused {c : Code} (no : attachCheck q s = .error c) : refusedWith c :=
      attach_answered taken (attachAct_refused (s := handed t .deck s) _ no)
    refine ⟨fun outside => ?_, fun run unknown => ?_, fun lot run found known => ⟨fun wrong => ?_,
      fun slings => ⟨fun busy => ?_, fun p free aboard bad => ?_⟩⟩⟩
    · exact refused (attachCheck_outsideRun outside)
    · exact refused (unknown.elim (attachCheck_noLot run) (attachCheck_missing run))
    · exact refused (attachCheck_refusedState run found known wrong)
    · exact refused (attachCheck_busy run found known slings busy)
    · exact refused (attachCheck_refusedRange run found known slings free aboard bad)

/-! ## DETACH (R56) -/

section

variable {lot : Lot} {crane : Nat} {s : State}

/-- A lot resting aboard is STOWED where it stands. -/
theorem detach_aboard {p : Place} (hangs : lot.crane = some crane) (rests : lot.resting = some .aboard)
    (stands : lot.place = some p) : detach lot s =
      (raiseNotice forcedNone
        (.lot { event := .detach, lot := lot.toStowed p, freed := false, crane := crane, peak := none
                version := s.version + 1 })
        { s with
          live := (s.live.putLot (lot.toStowed p)).setAttached crane none
          ring := s.ring.completeLot lot.id (some p.space), version := s.version + 1 },
       .answer .done (be 2 lot.id ++ [3, 0, 0] ++ be 4 (s.version + 1).toNat)) := by
  unfold detach
  rw [rests, stands, hangs]
  exact movementReport_eq 3 nofun rfl rfl

/-- A lot that has come ashore is freed. -/
theorem detach_freed (hangs : lot.crane = some crane) (rests : lot.resting = some .ashore)
    (bound : lot.dest = some .ashore) : detach lot s =
      (raiseNotice forcedNone
        (.lot { event := .detach, lot := lot.toPlanned, freed := true, crane := crane, peak := none
                version := s.version + 1 })
        { s with
          live := (s.live.freeLot lot.id).setAttached crane none
          ring := s.ring.completeLot lot.id none, version := s.version + 1 },
       .answer .done (be 2 lot.id ++ [4, 0, 0] ++ be 4 (s.version + 1).toNat)) := by
  unfold detach
  rw [rests, bound, hangs]
  exact movementReport_eq 4 nofun rfl rfl

/-- A lot that never left the quay is PLANNED again. -/
theorem detach_planned {p : Place} (hangs : lot.crane = some crane) (rests : lot.resting = some .ashore)
    (bound : lot.dest = some (.aboard p)) : detach lot s =
      (raiseNotice forcedNone
        (.lot { event := .detach, lot := lot.toPlanned, freed := false, crane := crane, peak := none
                version := s.version })
        { s with live := (s.live.putLot lot.toPlanned).setAttached crane none },
       .answer .done (be 2 lot.id ++ [0, 0, 0] ++ be 4 s.version.toNat)) := by
  unfold detach
  rw [rests, bound, hangs]
  exact movementReport_eq 0 nofun rfl rfl

theorem detachAct_slung {id : Nat} (l : Link) (run : s.device = .run) (found : s.live.findLot id = some lot)
    (slung : lot.state = .slung) : detachAct l id s = detach lot s := by
  unfold detachAct
  rw [if_neg (not_not.mpr run), found]
  exact if_neg (not_not.mpr slung)

theorem detach_answered {t id : Nat} {m : InMsg} {s' : State} {code : Code} {body : List Byte}
    (taken : Taken 4 readLotId .deck m id s)
    (does : detachAct .deck id (handed t .deck s) = (s', .answer code body)) :
    exec (.detach t .deck) s = .next (answered .deck 4 m code body s') :=
  congrArg Host.Outcome.next (request_answered taken rfl does)

end

/-- Settles O23: by where the lot rests and where it was bound. -/
theorem detachEndsAMovement : Obligations.DetachEndsAMovement := by
  unfold Obligations.DetachEndsAMovement
  intro t s m id lot crane taken run found slung hangs stowed planned notice
  have detaches {s' : State} {body : List Byte} (does : detach lot (handed t .deck s) = (s', .answer .done body)) :
      exec (.detach t .deck) s = .next (answered .deck 4 m .done body s') :=
    detach_answered taken ((detachAct_slung (s := handed t .deck s) _ run found slung).trans does)
  refine ⟨fun p rests stands => ?_, fun rests bound => ?_, fun p rests bound => ?_⟩
  · have same : lot.toStowed p = stowed := by
      unfold Lot.toStowed stowed
      rw [stands]
    exact same ▸ detaches (detach_aboard hangs rests stands)
  · exact detaches (detach_freed hangs rests bound)
  · exact detaches (detach_planned hangs rests bound)

/-! ## Landing (R52, R54) -/

/-- A lot standing on its crane at a destination (R52). -/
def Lot.standingAt (lot : Lot) (dest : Dest) : Lot :=
  { lot with
    state := .slung
    resting := some (if dest = .ashore then .ashore else .aboard)
    place := match dest with | .ashore => none | .aboard p => some p }

theorem toLanded_eq {lot : Lot} {dest : Dest} (bound : lot.dest = some dest) : lot.toLanded = lot.standingAt dest := by
  cases dest <;> simp [Lot.toLanded, Lot.standingAt, bound]

/-- A landing in RUN: the lot stands at its destination, the peak is gone, the version is one higher and SET-DOWN is a
cause, and the notice follows. -/
theorem land_eq {lot : Lot} {dest : Dest} {s : State} (e : LotEvent) (crane : Nat) (peak : Option Int)
    (run : s.device = .run) (bound : lot.dest = some dest) : land e lot crane peak s =
      (lotNotice e (lot.standingAt dest) false crane peak { s with
        live := s.live.putLot (lot.standingAt dest)
        tracker := s.tracker.modify (crane - 1) (fun a => { a with peak := none })
        version := s.version + 1
        sched := { s.sched with livePending := true, causes := s.sched.causes ||| 0b001000#6 } },
       lot.standingAt dest) := by
  unfold land
  rw [toLanded_eq bound]
  dsimp only
  rw [raiseLive_run .setDown]
  · rfl
  · exact run

/-! ## FORCE-LAND (R54) -/

section

variable {lot : Lot} {id crane : Nat} {s : State}

/-- FORCE-LAND of a LIFTED lot turns on its crane's HOOK channel. -/
theorem forceLandAct_lifted (l : Link) (run : s.device = .run) (found : s.live.findLot id = some lot)
    (lifted : lot.state = .lifted) (hangs : lot.crane = some crane) : forceLandAct l id s =
      if hookIsLive s.bank.channels crane then (s, .answer .refusedState [])
      else ((land .forceLand lot crane none s).1,
        movementAnswer (land .forceLand lot crane none s).2 false (land .forceLand lot crane none s).1) := by
  unfold forceLandAct
  rw [if_neg (not_not.mpr run), found]
  dsimp only
  rw [if_neg (not_not.mpr lifted), hangs]
  rfl

theorem forceLandAct_landed {dest : Dest} (l : Link) (run : s.device = .run) (found : s.live.findLot id = some lot)
    (lifted : lot.state = .lifted) (hangs : lot.crane = some crane) (bound : lot.dest = some dest)
    (dead : hookIsLive s.bank.channels crane = false) : forceLandAct l id s =
      (raiseNotice forcedNone
        (.lot { event := .forceLand, lot := lot.standingAt dest, freed := false, crane := crane, peak := none
                version := s.version + 1 })
        { s with
          live := s.live.putLot (lot.standingAt dest)
          tracker := s.tracker.modify (crane - 1) (fun a => { a with peak := none })
          version := s.version + 1
          sched := { s.sched with livePending := true, causes := s.sched.causes ||| 0b001000#6 } },
       .answer .done
        (be 2 lot.id ++ [1, 1, if dest = .ashore then 0 else 1] ++ be 4 (s.version + 1).toNat)) := by
  have rests : optField 1 ((lot.standingAt dest).resting.map fun r => be 1 r.num) =
      [1, if dest = .ashore then 0 else 1] := by
    cases dest <;> simp [Lot.standingAt, optField, be, Resting.num]
  rw [forceLandAct_lifted l run found lifted hangs, if_neg (by simp [dead]), land_eq _ _ _ run bound,
    lotNotice_forcedNone (e := .forceLand) _ _ _ _ _ nofun, movementAnswer_eq 1 _ rfl rests, raiseNotice_version]
  rfl

theorem forceLand_answered {t : Nat} {m : InMsg} {s' : State} {code : Code} {body : List Byte}
    (taken : Taken 5 readLotId .deck m id s)
    (does : forceLandAct .deck id (handed t .deck s) = (s', .answer code body)) :
    exec (.forceLand t .deck) s = .next (answered .deck 5 m code body s') :=
  congrArg Host.Outcome.next (request_answered taken rfl does)

end

/-- Settles O24: by whether the crane's HOOK channel is LIVE. -/
theorem forceLandSetsDownWithoutAWeighing : Obligations.ForceLandSetsDownWithoutAWeighing := by
  unfold Obligations.ForceLandSetsDownWithoutAWeighing
  intro t s m id lot crane dest taken run found lifted hangs bound
  refine ⟨fun live => forceLand_answered taken ?_, fun dead => forceLand_answered taken ?_⟩
  · exact (forceLandAct_lifted (s := handed t .deck s) _ run found lifted hangs).trans (if_pos live)
  · exact forceLandAct_landed (s := handed t .deck s) _ run found lifted hangs bound dead

/-! ## HOOK outputs (R47, R50 to R53) -/

/-- A lot hanging free: LIFTED, with no position and no resting place (R50). -/
def Lot.hanging (lot : Lot) : Lot := { lot with state := .lifted, place := none, resting := none }

/-- The weighing takes the peak up to 20,000, and marks it where it is off by more than the tolerance (R53). -/
theorem weigh_eq (lot : Lot) (peak tolerance : Int) : lot.weigh peak tolerance = { lot with
    measured := some (min 20000 peak)
    discrepancy := decide (tolerance * lot.declared < |peak - lot.declared| * 100) } := by
  unfold Lot.weigh absDiff Config.weighedMax
  rw [← min_def_lt, Int.abs_eq_natAbs]

/-- A lift-off in RUN: the lot hangs free, the peak starts at the net load, the version is one higher and LIFT-OFF is a
cause, and the notice follows. -/
theorem liftOff_eq {s : State} (lot : Lot) (crane : Nat) (net : Int) (run : s.device = .run) :
    liftOff lot crane net s = raiseNotice forcedNone
      (.lot { event := .liftOff, lot := lot.hanging, freed := false, crane := crane, peak := none
              version := s.version + 1 })
      { s with
        live := s.live.putLot lot.hanging
        tracker := s.tracker.modify (crane - 1) (fun a => { a with peak := some net })
        version := s.version + 1
        sched := { s.sched with livePending := true, causes := s.sched.causes ||| 0b000100#6 } } := by
  unfold liftOff
  dsimp only
  rw [lotNotice_forcedNone (e := .liftOff) _ _ _ _ _ nofun, raiseLive_run .liftOff]
  · rfl
  · exact run

/-- The peak rises to a higher net load before the set-down test is made (R51, R52). -/
theorem hookWhileLifted_eq (lot : Lot) (crane : Nat) (rec : CraneRec) (old net : Int) (s : State) :
    hookWhileLifted lot crane rec old net s =
      if net ≤ percentOf (max old net) rec.setPct then
        (land .setDown (lot.weigh (max old net) rec.tolerance) crane (some (max old net))
          (modifyTracker crane (fun a => { a with peak := some (max old net) }) s)).1
      else modifyTracker crane (fun a => { a with peak := some (max old net) }) s := by
  unfold hookWhileLifted
  rw [← max_def_lt]

section

variable {crane : Nat} {value : Int} {s : State} {rec : CraneRec} {lot : Lot}

theorem hookOutput_slung (known : nth1 s.cranes crane = some rec) (on : s.live.lotOn crane = some lot)
    (slung : lot.state = .slung) : hookOutput crane value s =
      if percentOf lot.massUsed rec.liftPct ≤ netLoad rec.tare value then
        liftOff lot crane (netLoad rec.tare value)
          (modifyTracker crane (fun a => { a with lastNet := netLoad rec.tare value }) s)
      else modifyTracker crane (fun a => { a with lastNet := netLoad rec.tare value }) s := by
  have on' (f : Attachment → Attachment) : (modifyTracker crane f s).live.lotOn crane = some lot := on
  unfold hookOutput
  simp only [known, on', slung]

theorem hookOutput_lifted {att : Attachment} {old : Int} (known : nth1 s.cranes crane = some rec)
    (on : s.live.lotOn crane = some lot) (lifted : lot.state = .lifted) (tracked : nth1 s.tracker crane = some att)
    (peaked : att.peak = some old) : hookOutput crane value s =
      hookWhileLifted lot crane rec old (netLoad rec.tare value)
        (modifyTracker crane (fun a => { a with lastNet := netLoad rec.tare value }) s) := by
  have on' (f : Attachment → Attachment) : (modifyTracker crane f s).live.lotOn crane = some lot := on
  have peak : ((nth1 (modifyTracker crane (fun a => { a with lastNet := netLoad rec.tare value }) s).tracker crane).bind
      (·.peak)).getD 0 = old := by
    simp [modifyTracker, nth1_modify, tracked, peaked]
  unfold hookOutput
  simp only [known, on', lifted, peak]

end

/-- Settles O25: by the state of the lot on the crane, then by the threshold of that state. -/
theorem hookOutputsLiftAndSetDown : Obligations.HookOutputsLiftAndSetDown := by
  unfold Obligations.HookOutputsLiftAndSetDown
  refine ⟨fun crane value s rec lot known on slung run => ?_,
    fun crane value s rec lot dest att old known on lifted run bound tracked peaked => ?_⟩
  · rw [hookOutput_slung known on slung, netLoad_eq_max]
    refine ⟨fun reached => ?_, fun below => if_neg (not_le.mpr below)⟩
    refine (if_pos reached).trans ?_
    rw [liftOff_eq, modifyTracker_tracker_modify]
    · rfl
    · exact run
  · rw [hookOutput_lifted known on lifted tracked peaked, netLoad_eq_max, hookWhileLifted_eq]
    refine ⟨fun above => ?_, fun reached => ?_⟩
    · refine (if_neg (not_le.mpr above)).trans ?_
      rw [modifyTracker_modifyTracker]
      rfl
    · refine (if_pos reached).trans ?_
      rw [weigh_eq, land_eq, lotNotice_setDown, modifyTracker_modifyTracker, modifyTracker_tracker_modify]
      · rfl
      · exact run
      · exact bound

end Sys2Proof.Machine

/-! PROOF. What a channel's stale timer does when it expires, and the watch a block output leaves (R72, R74, R81). -/

namespace Sys2Proof.Machine

/-! ## Notices of a channel (R81) -/

/-- An occurrence with an event raises its CHANNEL notice at the selecting links. -/
theorem channelNotice_raised (k : Nat) (c : Channel) {e : ChanEvents} (s : State)
    (event : (e.rail || e.stale || e.live || e.watch) = true) :
    channelNotice k c e s = raiseNotice forcedNone
      (.channel { channel := k, binding := c.cfg.binding, rail := e.rail, stale := e.stale, live := e.live
                  watchEvent := e.watch, state := c.state, value := c.value, held := c.held, watch := c.watch }) s :=
  if_pos event

theorem channelNotice_silent (k : Nat) (c : Channel) {e : ChanEvents} (s : State)
    (quiet : (e.rail || e.stale || e.live || e.watch) = false) : channelNotice k c e s = s := if_neg (by simp [quiet])

/-! ## The stale timer (R72) -/

theorem expired_iff (t : Nat) (s : State) (timer : Option Nat) :
    expired t s timer = true ↔ ∃ e, timer = some e ∧ e ≤ max s.now t := by
  cases timer <;> simp [expired]

section

variable {t k : Nat} {c : Channel} {s : State}

theorem staleTimerExpiry_due (held : s.bank.channels[k]? = some c) (due : expired t s c.timer = true) :
    exec (.staleTimerExpiry t k) s = .next (settle (channelNotice k { c.dropBlock with state := .stale, timer := none }
      ⟨false, true, false, false⟩
      (putChannel k { c.dropBlock with state := .stale, timer := none } (atTime t s)))) := by
  change execStaleTimerExpiry t k s = _
  unfold execStaleTimerExpiry
  simp only [held]
  rw [if_pos due]

theorem staleTimerExpiry_not_due (held : s.bank.channels[k]? = some c) (early : ¬ expired t s c.timer = true) :
    exec (.staleTimerExpiry t k) s = .next s := by
  change execStaleTimerExpiry t k s = _
  unfold execStaleTimerExpiry
  simp only [held]
  rw [if_neg early]

end

/-! ## The watch table (R74) -/

section

variable {c : ChannelCfg} {v : Int}

theorem atHigh_iff : atHigh c v = true ↔ ∃ h, c.high = some h ∧ h ≤ v := by
  unfold atHigh
  split <;> simp_all

theorem atLow_iff : atLow c v = true ↔ ∃ w, c.low = some w ∧ v ≤ w := by
  unfold atLow
  split <;> simp_all

theorem watchNext_clear :
    watchNext c .clear v = if atHigh c v then .high else if atLow c v then .low else .clear := rfl

theorem watchNext_high_low (low : atLow c v = true) : watchNext c .high v = .low := if_pos low

theorem watchNext_high {h : Int} (above : ¬ atLow c v = true) (limit : c.high = some h) :
    watchNext c .high v = if v ≤ h - c.band then .clear else .high := by
  unfold watchNext
  simp only [limit]
  rw [if_neg above]

theorem watchNext_low_high (high : atHigh c v = true) : watchNext c .low v = .high := if_pos high

theorem watchNext_low {w : Int} (below : ¬ atHigh c v = true) (limit : c.low = some w) :
    watchNext c .low v = if w + c.band ≤ v then .clear else .low := by
  unfold watchNext
  simp only [limit]
  rw [if_neg below]

end

/-- Settles O31: by whether the timer is due, and row by row of the watch table. -/
theorem staleTimersAndWatches : Obligations.StaleTimersAndWatches := by
  unfold Obligations.StaleTimersAndWatches
  refine ⟨fun t k c s held => ⟨fun e runs due => ?_, fun idle => ?_⟩, fun c v => ?_⟩
  · rw [staleTimerExpiry_due held ((expired_iff t s c.timer).mpr ⟨e, runs, due⟩), channelNotice_raised _ _ _ rfl]
    rfl
  · refine staleTimerExpiry_not_due held fun due => ?_
    obtain ⟨e, runs, reached⟩ := (expired_iff t s c.timer).mp due
    rcases idle with stopped | ⟨e', runs', early⟩
    · simp [stopped] at runs
    · cases runs.symm.trans runs'
      omega
  · simp only [← atHigh_iff, ← atLow_iff]
    refine ⟨fun high => ?_, fun below low => ?_, fun below above => ?_, watchNext_high_low, fun h above limit back => ?_,
      fun h above limit near => ?_, watchNext_low_high, fun w below limit back => ?_, fun w below limit near => ?_⟩
    · rw [watchNext_clear, if_pos high]
    · rw [watchNext_clear, if_neg below, if_pos low]
    · rw [watchNext_clear, if_neg below, if_neg above]
    · rw [watchNext_high above limit, if_pos back]
    · rw [watchNext_high above limit, if_neg (not_le.mpr near)]
    · rw [watchNext_low below limit, if_pos back]
    · rw [watchNext_low below limit, if_neg (not_le.mpr near)]

end Sys2Proof.Machine

/-! PROOF. What becomes of a sample frame: which frames reach a channel, how a sample leaves the channel, and what a block
output hands on (R68 to R75). -/

namespace Sys2Proof.Machine

/-! ## Frames (R68) -/

section

variable {t k : Nat} {u : RxUnit} {v : Int} {c : Channel} {s : State}

theorem sampleFrame_start (start : s.device = .start) : exec (.sampleFrame t u) s = .next s := by
  change execSampleFrame t u s = _
  unfold execSampleFrame
  rw [if_pos start]

theorem sampleFrame_taken (on : s.device ≠ .start) :
    exec (.sampleFrame t u) s = .next (settle (takeFrame u (atTime t s))) := by
  change execSampleFrame t u s = _
  unfold execSampleFrame
  rw [if_neg on]

theorem takeFrame_error (bad : frameOf u = none ∨ ∃ k v, frameOf u = some (k, v) ∧ s.bank.channels[k]? = none) :
    takeFrame u s = countError s := by
  unfold takeFrame
  rcases bad with bad | ⟨k, v, good, unknown⟩
  · simp only [bad]
  · simp only [good, unknown]

theorem takeFrame_channel (good : frameOf u = some (k, v)) (held : s.bank.channels[k]? = some c) :
    takeFrame u s = if c.state = .disabled then s else takeSample k c v s := by
  unfold takeFrame
  simp only [good, held]

/-- A good frame of an enabled channel is a sample of it. -/
theorem sampleFrame_sample (on : s.device ≠ .start) (good : frameOf u = some (k, v))
    (held : s.bank.channels[k]? = some c) (enabled : c.state ≠ .disabled) :
    exec (.sampleFrame t u) s = .next (settle (takeSample k c v (atTime t s))) := by
  rw [sampleFrame_taken on, takeFrame_channel (s := atTime t s) good held, if_neg enabled]

end

/-! ## Blocks and rails (R69, R70) -/

section

variable {c c' : Channel} {v : Int}

/-- A channel as the output of a block leaves it (R70, R73). -/
def Channel.output (c : Channel) (mean : Int) : Channel :=
  { c with value := mean, held := false, state := .live, sum := 0, count := 0, watch := watchNext c.cfg c.watch mean }

theorem addSample_joins (short : c.count + 1 < c.cfg.al) :
    c.addSample v = .collecting { c with sum := c.sum + v, count := c.count + 1 } := if_neg (not_le.mpr short)

theorem addSample_ends (full : c.cfg.al ≤ c.count + 1) :
    c.addSample v = .block (c.output (roundDiv (c.sum + v) c.cfg.al)) (c.state == .filling) := if_pos full

theorem atEnd_iff (c : ChannelCfg) (v : Int) : c.atEnd v = true ↔ v = c.min ∨ v = c.max := by
  simp [ChannelCfg.atEnd]

/-- The rail run as a sample leaves it (R69). -/
def Channel.runAfter (c : Channel) (v : Int) : Nat := if v = c.cfg.min ∨ v = c.cfg.max then c.railRun + 1 else 0

theorem railTest_eq (c : Channel) (v : Int) : c.railTest v =
    if c.cfg.rail ≤ c.runAfter v then .railed { c.dropBlock with state := .rail }
    else { c with railRun := c.runAfter v }.addSample v := by
  unfold Channel.railTest Channel.runAfter
  simp only [atEnd_iff]

/-! ## A sample by the state of its channel (R69 to R72) -/

/-- The state in which a channel that is not RAIL tests a sample: a STALE one takes it as a FILLING one does (R72). -/
def ChanState.resumed (st : ChanState) : ChanState := if st = .stale then .filling else st

theorem take_running (running : c.state = .filling ∨ c.state = .live ∨ c.state = .stale) :
    c.take v = { c with state := c.state.resumed }.railTest (clamp c.cfg.min c.cfg.max v) := by
  unfold Channel.take ChanState.resumed
  rcases running with state | state | state <;> cases c <;> subst state <;> rfl

theorem take_rail_atEnd (rail : c.state = .rail)
    (ends : clamp c.cfg.min c.cfg.max v = c.cfg.min ∨ clamp c.cfg.min c.cfg.max v = c.cfg.max) :
    c.take v = .collecting c := by
  unfold Channel.take
  simp only [rail]
  rw [if_pos ((atEnd_iff _ _).mpr ends)]

theorem take_rail_inside (rail : c.state = .rail)
    (inside : ¬ (clamp c.cfg.min c.cfg.max v = c.cfg.min ∨ clamp c.cfg.min c.cfg.max v = c.cfg.max)) :
    c.take v = { c.dropBlock with state := .filling }.addSample (clamp c.cfg.min c.cfg.max v) := by
  unfold Channel.take
  simp only [rail]
  rw [if_neg (mt (atEnd_iff _ _).mp inside)]

/-- A sample strictly inside the range is the first of a RAIL channel's new block (R71). -/
theorem take_rail_joins (rail : c.state = .rail)
    (inside : ¬ (clamp c.cfg.min c.cfg.max v = c.cfg.min ∨ clamp c.cfg.min c.cfg.max v = c.cfg.max))
    (long : 1 < c.cfg.al) : c.take v =
      .collecting { c.dropBlock with state := .filling, sum := clamp c.cfg.min c.cfg.max v, count := 1 } := by
  rw [take_rail_inside rail inside, addSample_joins long]
  simp [Channel.dropBlock]

theorem take_rail_ends (rail : c.state = .rail)
    (inside : ¬ (clamp c.cfg.min c.cfg.max v = c.cfg.min ∨ clamp c.cfg.min c.cfg.max v = c.cfg.max))
    (short : c.cfg.al ≤ 1) : c.take v =
      .block ({ c.dropBlock with state := .filling }.output (roundDiv (clamp c.cfg.min c.cfg.max v) c.cfg.al)) true := by
  rw [take_rail_inside rail inside, addSample_ends short]
  simp [Channel.dropBlock]

end

/-! ## What a sample hands on (R68, R73, R75, R81) -/

section

variable {k : Nat} {c c' : Channel} {v : Int} {s : State}

/-- The CHANNEL notice of a block output, raised where the channel becomes LIVE or its watch changes (R81). -/
theorem channelNotice_output (k : Nat) (c : Channel) (live watch : Prop) [Decidable live] [Decidable watch] (s : State) :
    channelNotice k c ⟨false, false, decide live, decide watch⟩ s =
      if live ∨ watch then raiseNotice forcedNone
        (.channel { channel := k, binding := c.cfg.binding, rail := false, stale := false, live := decide live
                    watchEvent := decide watch, state := c.state, value := c.value, held := c.held, watch := c.watch }) s
      else s := by
  by_cases event : live ∨ watch
  · rw [if_pos event]
    exact channelNotice_raised k c s (by simpa using event)
  · rw [if_neg event]
    exact channelNotice_silent k c s (by simpa using event)

/-- Handing on with a changed watch is handing on without one, over the lines recomputed. -/
theorem handOn_lines (c : Channel) (changed : Prop) [Decidable changed] (s : State) :
    handOn c (decide changed) s = handOn c false (if changed then recomputeMask c.cfg.mask s else s) := by
  by_cases h : changed
  · rw [decide_eq_true h, if_pos h]
    rfl
  · rw [decide_eq_false h, if_neg h]

/-- A channel with its stale timer started anew (R72). -/
def Channel.restarted (c : Channel) (now : Nat) : Channel := { c with timer := some (now + c.cfg.stale) }

theorem takeSample_collecting (taken : (c.restarted s.now).take v = .collecting c') :
    takeSample k c v s = putChannel k c' s := by
  unfold Channel.restarted at taken
  unfold takeSample
  simp only [taken]

theorem takeSample_railed (taken : (c.restarted s.now).take v = .railed c') :
    takeSample k c v s = channelNotice k c' ⟨true, false, false, false⟩ (putChannel k c' s) := by
  unfold Channel.restarted at taken
  unfold takeSample
  simp only [taken]

theorem takeSample_block {filling : Bool} (taken : (c.restarted s.now).take v = .block c' filling)
    (live : filling = decide (c.state ≠ .live)) : takeSample k c v s =
      handOn c' (decide (c'.watch ≠ c.watch)) (channelNotice k c'
        ⟨false, false, decide (c.state ≠ .live), decide (c'.watch ≠ c.watch)⟩ (putChannel k c' s)) := by
  have changed : (c'.watch != c.watch) = decide (c'.watch ≠ c.watch) := by rw [decide_not]; rfl
  unfold Channel.restarted at taken
  unfold takeSample
  simp only [taken, changed, live]

/-- A channel that is FILLING or STALE becomes LIVE at its output, and one that is LIVE stays so (R70, R72). -/
theorem resumed_filling {st : ChanState} (running : st = .filling ∨ st = .live ∨ st = .stale) :
    (st.resumed == .filling) = decide (st ≠ .live) := by
  rcases running with rfl | rfl | rfl <;> rfl

end

/-- Settles O30: by the frame, then by the state of its channel, then by what the sample makes of its rail run and block. -/
theorem sampleFramesReachTheirChannel : Obligations.SampleFramesReachTheirChannel := by
  unfold Obligations.SampleFramesReachTheirChannel
  refine ⟨fun t u s => ⟨sampleFrame_start, fun on bad => ?_, fun k v c on good held disabled => ?_⟩,
    fun t k u v c s on good held enabled => ?_⟩
  · rw [sampleFrame_taken on, takeFrame_error (s := atTime t s) bad]
    rfl
  · rw [sampleFrame_taken on, takeFrame_channel (s := atTime t s) good held, if_pos disabled]
  intro x atEnd run timer left notice output
  rw [sampleFrame_sample on good held enabled]
  refine ⟨fun running => ?_, fun rail => ⟨fun ends => ?_, fun inside long => ?_, fun inside short => ?_⟩⟩
  · have tested := (take_running (c := c.restarted (atTime t s).now) (v := v) running).trans (railTest_eq _ _)
    refine ⟨fun railed => ?_, fun below joins => ?_, fun below ends => ?_⟩
    · rw [takeSample_railed (tested.trans (if_pos railed)), channelNotice_raised _ _ _ rfl]
      rfl
    · rw [takeSample_collecting ((tested.trans (if_neg (not_le.mpr below))).trans (addSample_joins joins))]
      rfl
    · rw [takeSample_block ((tested.trans (if_neg (not_le.mpr below))).trans (addSample_ends ends))
        (resumed_filling running), channelNotice_output, handOn_lines]
      rfl
  · rw [takeSample_collecting (take_rail_atEnd (c := c.restarted (atTime t s).now) rail ends)]
    rfl
  · rw [takeSample_collecting (take_rail_joins (c := c.restarted (atTime t s).now) rail inside long)]
    rfl
  · rw [takeSample_block (take_rail_ends (c := c.restarted (atTime t s).now) rail inside short) (by rw [rail]; rfl),
      channelNotice_output, handOn_lines]
    rfl

end Sys2Proof.Machine

/-! PROOF. What the requests of a channel's configuration come to: the checks of CHANNEL-SET in their order, enabling, and
disabling with its effect on the watch's lines (R14, R66, R75, R78, R79). -/

namespace Sys2Proof.Machine

/-! ## The checks as statements -/

theorem mem_numbered_iff {α : Type} {n j : Nat} {xs : List α} {x : α} :
    (j, x) ∈ numbered n xs ↔ n ≤ j ∧ xs[j - n]? = some x := by
  have swapped : numbered n xs = (xs.zipIdx n).map Prod.swap := by
    induction xs generalizing n with
    | nil => rfl
    | cons y ys ih => rw [numbered, ih, List.zipIdx_cons, List.map_cons, Prod.swap_prod_mk]
  rw [swapped, ← List.mk_mem_zipIdx_iff_le_and_getElem?_sub]
  simp

/-- A binding is held elsewhere when a channel of another number holds it (R66, R78). -/
theorem boundElsewhere_iff (chs : List Channel) (k : Nat) (b : Option Binding) : boundElsewhere chs k b = true ↔
    b ≠ none ∧ ∃ j other, j ≠ k ∧ chs[j]? = some other ∧ other.cfg.binding = b := by
  cases b with
  | none => simp [boundElsewhere]
  | some b => simp [boundElsewhere, mem_numbered_iff, and_left_comm]

theorem guardsGauge_iff (a : Area) (b : Option Binding) : guardsGauge a b = true ↔
    ∃ tank state, b = some ⟨.sounding, tank⟩ ∧ a.tanks[tank]? = some state ∧ state.source = .gauged := by
  unfold guardsGauge
  split
  next tank => cases held : a.tanks[tank]? <;> simp [held]
  next other => simp_all

theorem guardsHook_iff (a : Area) (b : Option Binding) : guardsHook a b = true ↔
    ∃ crane lot, b = some ⟨.hook, crane⟩ ∧ a.attachedTo crane = some lot := by
  unfold guardsHook
  split
  next crane => simp [Option.isSome_iff_exists]
  next other => simp_all

theorem channelRange_iff (v : Int) : channelRange v = true ↔ -8388608 ≤ v ∧ v ≤ 8388607 := within_iff _ _ _

/-- The ranges of R65, as CHANNEL-SET tests them (R78). -/
theorem channelCfg_inRange_iff (c : ChannelCfg) : c.inRange = true ↔
    1 ≤ c.al ∧ c.al ≤ 32 ∧ channelRange c.min = true ∧ channelRange c.max = true ∧ c.min < c.max ∧ 20 ≤ c.stale
      ∧ c.stale ≤ 10000 ∧ 1 ≤ c.rail ∧ c.rail ≤ 255 ∧ 0 ≤ c.band ∧ c.band ≤ 8388607
      ∧ (∀ v, c.high = some v → channelRange v = true) ∧ (∀ v, c.low = some v → channelRange v = true)
      ∧ ∀ h w, c.high = some h → c.low = some w → w < h := by
  unfold ChannelCfg.inRange
  cases high : c.high <;> cases low : c.low <;> simp [within_iff, and_assoc]

/-! ## CHANNEL-SET (R78) -/

/-- A binding to a target the sections in force do not hold (R66). -/
def ChannelCfg.Missing (c : ChannelCfg) (s : State) : Prop :=
  ∃ b, c.binding = some b ∧ b.exists s.cranes s.tanks = false

/-- A change of binding that would take its channel from a crane with a lot attached or a tank GAUGED (R14, R55). -/
def ChannelCfg.Guarded (c : ChannelCfg) (old : Channel) (s : State) : Prop :=
  c.binding ≠ old.cfg.binding ∧ (guardsGauge s.live old.cfg.binding = true ∨ guardsHook s.live old.cfg.binding = true
    ∨ guardsHook s.live c.binding = true)

theorem channelCfg_missing_iff (c : ChannelCfg) (s : State) :
    (!c.binding.all fun b => b.exists s.cranes s.tanks) = true ↔ c.Missing s := by
  unfold ChannelCfg.Missing
  cases c.binding <;> simp

section

variable {t k : Nat} {c : ChannelCfg} {old : Channel} {s : State}

theorem channelSetCheck_outsideRun (outside : s.device ≠ .run) : channelSetCheck k c s = .error .refusedState :=
  if_pos outside

theorem channelSetCheck_noChannel (run : s.device = .run) (none : s.bank.channels[k]? = none) :
    channelSetCheck k c s = .error .unknownItem := by
  unfold channelSetCheck
  rw [if_neg (not_not.mpr run), none]

/-- The checks of R78 once the channel is found. -/
theorem channelSetCheck_held (run : s.device = .run) (held : s.bank.channels[k]? = some old) : channelSetCheck k c s =
    if !(c.binding.all fun b => b.exists s.cranes s.tanks) then .error .unknownItem
    else if old.state ≠ .disabled then .error .refusedState
    else if boundElsewhere s.bank.channels k c.binding then .error .refusedState
    else if c.binding ≠ old.cfg.binding ∧ guardsGauge s.live old.cfg.binding then .error .refusedState
    else if c.binding ≠ old.cfg.binding ∧ (guardsHook s.live old.cfg.binding ∨ guardsHook s.live c.binding) then
      .error .refusedState
    else if !c.inRange then .error .refusedRange
    else .ok old := by
  unfold channelSetCheck
  rw [if_neg (not_not.mpr run), held]

theorem channelSetCheck_missing (run : s.device = .run) (missing : c.Missing s) :
    channelSetCheck k c s = .error .unknownItem := by
  cases held : s.bank.channels[k]? with
  | none => exact channelSetCheck_noChannel run held
  | some old => rw [channelSetCheck_held run held, if_pos ((channelCfg_missing_iff c s).mpr missing)]

theorem channelSetCheck_refusedState (run : s.device = .run) (held : s.bank.channels[k]? = some old)
    (known : ¬ c.Missing s)
    (barred : old.state ≠ .disabled ∨ boundElsewhere s.bank.channels k c.binding = true ∨ c.Guarded old s) :
    channelSetCheck k c s = .error .refusedState := by
  rw [channelSetCheck_held run held, if_neg (mt (channelCfg_missing_iff c s).mp known)]
  rcases barred with enabled | elsewhere | ⟨changed, guards⟩
  · rw [if_pos enabled]
  · rw [if_pos elsewhere, ite_self]
  · by_cases gauge : guardsGauge s.live old.cfg.binding = true
    · rw [if_pos (And.intro changed gauge), ite_self, ite_self]
    · rw [if_neg (mt And.right gauge), if_pos (And.intro changed (guards.resolve_left gauge)), ite_self, ite_self]

/-- The check that is left once nothing bars the channel. -/
theorem channelSetCheck_free (run : s.device = .run) (held : s.bank.channels[k]? = some old) (known : ¬ c.Missing s)
    (disabled : old.state = .disabled) (alone : ¬ boundElsewhere s.bank.channels k c.binding = true)
    (free : ¬ c.Guarded old s) :
    channelSetCheck k c s = if !c.inRange then .error .refusedRange else .ok old := by
  rw [channelSetCheck_held run held, if_neg (mt (channelCfg_missing_iff c s).mp known), if_neg (not_not.mpr disabled),
    if_neg alone, if_neg fun gauge => free ⟨gauge.1, .inl gauge.2⟩, if_neg fun hook => free ⟨hook.1, .inr hook.2⟩]

theorem configure_eq (old : Channel) (c : ChannelCfg) : old.configure c = { old with
    cfg := { c with enable := old.cfg.enable && c.binding.isSome }
    value := clamp c.min c.max (if c.binding = old.cfg.binding then old.value else 0) } := by
  unfold Channel.configure restValue
  split_ifs <;> rfl

theorem channelSetAct_refused {e : Code} (l : Link) (no : channelSetCheck k c s = .error e) :
    channelSetAct l (k, c) s = (s, .answer e []) := by
  unfold channelSetAct
  rw [no]
  rfl

theorem channelSetAct_set (l : Link) (passed : channelSetCheck k c s = .ok old) :
    channelSetAct l (k, c) s = (putChannel k (old.configure c) s, .answer .done []) := by
  unfold channelSetAct
  rw [passed]

theorem channelSet_answered {m : InMsg} {s' : State} {code : Code} {body : List Byte}
    (taken : Taken 13 readChannelSet .planning m (k, c) s)
    (does : channelSetAct .planning (k, c) (handed t .planning s) = (s', .answer code body)) :
    exec (.channelSet t .planning) s = .next (answered .planning 13 m code body s') :=
  congrArg Host.Outcome.next (request_answered taken rfl does)

end

/-! ## CHANNEL-ENABLE and CHANNEL-DISABLE (R79) -/

section

variable {t k : Nat} {c : Channel} {s : State}

/-- The refusal of a channel that cannot be enabled or disabled because there is none, or no RUN (R79). -/
def noChannelCode (s : State) : Code := if s.device = .run then .unknownItem else .refusedState

theorem channelActs_noChannel (l : Link) (no : s.device ≠ .run ∨ s.bank.channels[k]? = none) :
    channelEnableAct l k s = (s, .answer (noChannelCode s) [])
      ∧ channelDisableAct l k s = (s, .answer (noChannelCode s) []) := by
  unfold channelEnableAct channelDisableAct noChannelCode
  by_cases run : s.device = .run
  · rw [if_neg (not_not.mpr run), if_neg (not_not.mpr run), no.resolve_left (not_not.mpr run), if_pos run]
    exact ⟨rfl, rfl⟩
  · rw [if_pos run, if_pos run, if_neg run]
    exact ⟨rfl, rfl⟩

theorem channelEnableAct_held (l : Link) (run : s.device = .run) (held : s.bank.channels[k]? = some c) :
    channelEnableAct l k s =
      if c.cfg.binding.isNone then (s, .answer .refusedState [])
      else if c.state ≠ .disabled then (s, .answer .done [])
      else (putChannel k ({ c with cfg := { c.cfg with enable := true } }.toFilling s.now) s, .answer .done []) := by
  unfold channelEnableAct
  rw [if_neg (not_not.mpr run), held]
  rfl

theorem channelDisableAct_held (l : Link) (run : s.device = .run) (held : s.bank.channels[k]? = some c) :
    channelDisableAct l k s =
      if c.state = .disabled then (s, .answer .done [])
      else (if c.watch = .clear then disableChannel k { c with cfg := { c.cfg with enable := false } } s
        else recomputeMask c.cfg.mask (disableChannel k { c with cfg := { c.cfg with enable := false } } s),
        .answer .done []) := by
  unfold channelDisableAct
  rw [if_neg (not_not.mpr run), held]

/-- Disabling a channel whose watch is CLEAR raises no notice (R79, R81). -/
theorem disableChannel_clear (k : Nat) (s : State) (clear : c.watch = .clear) :
    disableChannel k c s = putChannel k c.toDisabled s :=
  channelNotice_silent _ _ _ (by simp [clear])

/-- A watch that was HIGH or LOW becomes CLEAR with a CHANNEL notice (R79, R81). -/
theorem disableChannel_watching (k : Nat) (s : State) (watching : c.watch ≠ .clear) :
    disableChannel k c s = raiseNotice forcedNone
      (.channel { channel := k, binding := c.cfg.binding, rail := false, stale := false, live := false
                  watchEvent := true, state := .disabled, value := c.value, held := true, watch := .clear })
      (putChannel k c.toDisabled s) := by
  have event : (c.watch != .clear) = true := bne_iff_ne.mpr watching
  unfold disableChannel
  simp only [event]
  exact channelNotice_raised _ _ _ rfl

theorem channelDisableAct_clear (l : Link) (run : s.device = .run) (held : s.bank.channels[k]? = some c)
    (enabled : c.state ≠ .disabled) (clear : c.watch = .clear) : channelDisableAct l k s =
      (putChannel k { c with cfg := { c.cfg with enable := false } }.toDisabled s, .answer .done []) := by
  rw [channelDisableAct_held l run held, if_neg enabled, if_pos clear, disableChannel_clear k s]
  exact clear

theorem channelDisableAct_watching (l : Link) (run : s.device = .run) (held : s.bank.channels[k]? = some c)
    (enabled : c.state ≠ .disabled) (watching : c.watch ≠ .clear) : channelDisableAct l k s =
      (recomputeMask c.cfg.mask (raiseNotice forcedNone
        (.channel { channel := k, binding := c.cfg.binding, rail := false, stale := false, live := false
                    watchEvent := true, state := .disabled, value := c.value, held := true, watch := .clear })
        (putChannel k { c with cfg := { c.cfg with enable := false } }.toDisabled s)), .answer .done []) := by
  rw [channelDisableAct_held l run held, if_neg enabled, if_neg watching, disableChannel_watching k s]
  exact watching

theorem channelEnable_answered {m : InMsg} {s' : State} {code : Code} {body : List Byte}
    (taken : Taken 14 (readNat 1) .planning m k s)
    (does : channelEnableAct .planning k (handed t .planning s) = (s', .answer code body)) :
    exec (.channelEnable t .planning) s = .next (answered .planning 14 m code body s') :=
  congrArg Host.Outcome.next (request_answered taken rfl does)

theorem channelDisable_answered {m : InMsg} {s' : State} {code : Code} {body : List Byte}
    (taken : Taken 15 (readNat 1) .planning m k s)
    (does : channelDisableAct .planning k (handed t .planning s) = (s', .answer code body)) :
    exec (.channelDisable t .planning) s = .next (answered .planning 15 m code body s') :=
  congrArg Host.Outcome.next (request_answered taken rfl does)

end

/-! ## The lines of a watch (R75) -/

/-- Recomputing several lines leaves the records of the others. -/
theorem recomputeLines_get_other {hs : List Line} {h : Line} (s : State) (out : h ∉ hs) :
    (recomputeLines hs s).holds.get h = s.holds.get h := by
  unfold recomputeLines
  induction hs generalizing s with
  | nil => rfl
  | cons k ks ih =>
    obtain ⟨ne, out⟩ := not_or.mp (mt List.mem_cons.mpr out)
    rw [List.foldl_cons, ih _ out, recompute_get_other s ne]

theorem mem_maskLines_iff (m : LineSet) (h : Line) : h ∈ allLines.filter m.get ↔ m.get h = true := by
  have all : h ∈ allLines := by cases h <;> decide
  simp [all]

/-- Settles O29: CHANNEL-SET by its checks in order; enabling and disabling by whether there is a channel, and then by its
state and its watch. -/
theorem channelRequestsConfigure : Obligations.ChannelRequestsConfigure := by
  unfold Obligations.ChannelRequestsConfigure
  refine ⟨fun t s m k c taken => ?_, fun t s m k no => ⟨fun taken => ?_, fun taken => ?_⟩,
    fun t s m k c taken run held => ?_, fun t s m k c taken run held => ?_⟩
  · intro refusedWith missing elsewhere gauges weighs value inRange
    have refused {e : Code} (no : channelSetCheck k c s = .error e) : refusedWith e :=
      channelSet_answered taken (channelSetAct_refused (s := handed t .planning s) _ no)
    refine ⟨fun outside => ?_, fun run unknown => ?_, fun old run known held => ?_⟩
    · exact refused (channelSetCheck_outsideRun outside)
    · exact refused (unknown.elim (channelSetCheck_noChannel run) (channelSetCheck_missing run))
    · intro guarded
      have known : ¬ c.Missing s := fun unknown => known (.inr unknown)
      have elsewhere_iff : boundElsewhere s.bank.channels k c.binding = true ↔ elsewhere := boundElsewhere_iff _ _ _
      have guarded_iff : c.Guarded old s ↔ guarded :=
        and_congr_right' (or_congr (guardsGauge_iff _ _) (or_congr (guardsHook_iff _ _) (guardsHook_iff _ _)))
      have inRange_iff : c.inRange = true ↔ inRange := by
        rw [channelCfg_inRange_iff]
        simp only [channelRange_iff]
        rfl
      rw [← elsewhere_iff, ← guarded_iff, ← inRange_iff]
      refine ⟨fun barred => ?_, fun disabled alone free beyond => ?_, fun disabled alone free within => ?_⟩
      · exact refused (channelSetCheck_refusedState run held known barred)
      · exact refused ((channelSetCheck_free run held known disabled alone free).trans (if_pos (by simpa using beyond)))
      · have passed : channelSetCheck k c s = .ok old :=
          (channelSetCheck_free run held known disabled alone free).trans (if_neg (by simpa using within))
        rw [← configure_eq]
        exact channelSet_answered taken (channelSetAct_set (s := handed t .planning s) _ passed)
  · exact channelEnable_answered taken (channelActs_noChannel (s := handed t .planning s) _ no).1
  · exact channelDisable_answered taken (channelActs_noChannel (s := handed t .planning s) _ no).2
  · have enables := channelEnableAct_held (s := handed t .planning s) .planning run held
    have bound_iff : c.cfg.binding.isSome = true ↔ ¬ c.cfg.binding.isNone = true := by
      simp [Option.isSome_iff_ne_none]
    rw [bound_iff]
    refine ⟨fun unbound => ?_, fun bound enabled => ?_, fun bound disabled => ?_⟩
    · exact channelEnable_answered taken (enables.trans (if_pos (by rw [unbound]; rfl)))
    · rw [if_neg bound, if_pos enabled] at enables
      exact channelEnable_answered taken enables
    · rw [if_neg bound, if_neg (not_not.mpr disabled)] at enables
      exact channelEnable_answered taken enables
  · refine ⟨fun disabled => ?_, fun enabled => ?_⟩
    · exact channelDisable_answered taken
        ((channelDisableAct_held (s := handed t .planning s) _ run held).trans (if_pos disabled))
    · intro off left
      refine ⟨fun clear => ?_, fun watching => ?_⟩
      · exact channelDisable_answered taken (channelDisableAct_clear (s := handed t .planning s) _ run held enabled clear)
      · have disables := channelDisableAct_watching (s := handed t .planning s) .planning run held enabled watching
        refine ⟨_, channelDisable_answered taken disables, rfl, fun h selected => ?_, fun h other => ?_, ?_⟩
        · exact recomputeLines_stands _ _ _ (.inl ((mem_maskLines_iff _ _).mpr selected))
        · have out : h ∉ allLines.filter c.cfg.mask.get := fun mem => by
            simp [(mem_maskLines_iff _ _).mp mem] at other
          exact (recomputeLines_get_other _ out).trans (by rw [raiseNotice_holds]; rfl)
        · unfold recomputeMask
          rw [recomputeLines_only, raiseNotice_only]
          rfl

end Sys2Proof.Machine

/-! PROOF. What the one rounding rule gives, and what interpolation in an ascending column gives inside, at and outside
its points (R86, R90, R94). -/

namespace Sys2Proof.Machine

/-! ## Rounding (R86) -/

/-- The magnitude of a rounded quotient. -/
def roundedQuotient (a b : Int) : Nat := (2 * a.natAbs + b.natAbs) / (2 * b.natAbs)

theorem roundedQuotient_bounds (a : Int) {b : Int} (nonzero : b ≠ 0) :
    2 * (roundedQuotient a b * b.natAbs) ≤ 2 * a.natAbs + b.natAbs
      ∧ 2 * a.natAbs + b.natAbs < 2 * (roundedQuotient a b * b.natAbs) + 2 * b.natAbs := by
  have parts := Nat.div_add_mod (2 * a.natAbs + b.natAbs) (2 * b.natAbs)
  have rest := Nat.mod_lt (2 * a.natAbs + b.natAbs) (show 0 < 2 * b.natAbs by omega)
  have product : 2 * b.natAbs * roundedQuotient a b = 2 * (roundedQuotient a b * b.natAbs) := by ring
  change 2 * b.natAbs * roundedQuotient a b + _ = _ at parts
  omega

/-- A rounded quotient times its divisor has the sign of the dividend. -/
theorem roundDiv_mul (a b : Int) :
    roundDiv a b * b = if a < 0 then -((roundedQuotient a b * b.natAbs : Nat) : Int)
      else ((roundedQuotient a b * b.natAbs : Nat) : Int) := by
  change (if (a < 0) = (b < 0) then (roundedQuotient a b : Int) else -(roundedQuotient a b : Int)) * b = _
  push_cast
  rcases lt_or_ge b 0 with negative | positive
  · rw [abs_of_neg negative]
    by_cases below : a < 0 <;> simp [below, negative]
  · rw [abs_of_nonneg positive]
    by_cases below : a < 0 <;> simp [below, not_lt.mpr positive]

/-- A quotient is rounded to the nearest integer, a half away from zero. -/
theorem roundDiv_nearest (a : Int) {b : Int} (nonzero : b ≠ 0) :
    2 * |roundDiv a b * b - a| ≤ |b| ∧ (2 * |roundDiv a b * b - a| = |b| → |a| < |roundDiv a b * b|) := by
  obtain ⟨low, high⟩ := roundedQuotient_bounds a nonzero
  rw [roundDiv_mul]
  simp only [Int.abs_eq_natAbs]
  split <;> omega

@[simp] theorem roundDiv_zero (b : Int) : roundDiv 0 b = 0 := by
  have small : b.natAbs / (2 * b.natAbs) = 0 := by
    rw [Nat.div_eq_zero_iff]
    omega
  simp [roundDiv, small]

/-- An exact quotient is not rounded. -/
theorem roundDiv_mul_self (x : Int) {b : Int} (nonzero : b ≠ 0) : roundDiv (x * b) b = x := by
  have near := (roundDiv_nearest (x * b) nonzero).1
  rw [← sub_mul, abs_mul] at near
  have size : 0 < |b| := abs_pos.mpr nonzero
  by_contra other
  have apart : 1 ≤ |roundDiv (x * b) b - x| := Int.one_le_abs (sub_ne_zero.mpr other)
  have : |b| ≤ |roundDiv (x * b) b - x| * |b| := le_mul_of_one_le_left size.le apart
  omega

theorem clamp_eq_max_min {lo hi : Int} (ordered : lo ≤ hi) (v : Int) : clamp lo hi v = max lo (min hi v) := by
  unfold clamp
  split
  · omega
  · split <;> omega

theorem clamp_range {lo hi : Int} (ordered : lo ≤ hi) (v : Int) : lo ≤ clamp lo hi v ∧ clamp lo hi v ≤ hi := by
  rw [clamp_eq_max_min ordered]
  omega

/-! ## Where a key falls (R90, R94) -/

section

variable {keys : List Int} {key a b z : Int}

theorem bracketFrom_below (n : Nat) (first : keys.head? = some a) (below : key < a) :
    bracketFrom key n keys = .below := by
  match keys, first with
  | [_], rfl => exact if_pos below
  | _ :: _ :: _, rfl => exact if_pos below

theorem bracketFrom_above (n : Nat) (passed : ∀ k ∈ keys, k < key) : bracketFrom key n keys = .above := by
  induction keys generalizing n with
  | nil => rfl
  | cons k ks ih =>
    have larger : k < key := passed k (by simp)
    cases ks with
    | nil => simp [bracketFrom, larger.not_gt, larger.ne']
    | cons k' ks =>
      have larger' : k' < key := passed k' (by simp)
      have skip : bracketFrom key n (k :: k' :: ks) = bracketFrom key (n + 1) (k' :: ks) := by
        rw [bracketFrom, if_neg larger.not_gt, if_neg larger'.not_ge]
      exact skip.trans (ih (n + 1) fun k mem => passed k (List.mem_cons_of_mem _ mem))

/-- A key is found in the first interval that reaches to it. -/
theorem bracketFrom_at (n : Nat) {i : Nat} (ascending : keys.Pairwise (· < ·)) (start : keys[i]? = some a)
    (stop : keys[i + 1]? = some b) (reached : i = 0 ∧ a ≤ key ∨ a < key) (inside : key ≤ b) :
    bracketFrom key n keys = .at (n + i) (key - a) (b - a) := by
  induction i generalizing n keys with
  | zero =>
    match keys, start, stop with
    | _ :: _ :: _, rfl, rfl =>
      have from_start : a ≤ key := by omega
      simp [bracketFrom, from_start.not_gt, inside]
  | succ i ih =>
    have past : a < key := by omega
    match keys, start, stop with
    | k :: k' :: ks, start, stop =>
      obtain ⟨least, rest⟩ := List.pairwise_cons.mp ascending
      have after : k' ≤ a := by
        cases i with
        | zero => exact (Option.some.inj start).le
        | succ j => exact (List.pairwise_cons.mp rest).1 a (List.mem_of_getElem? start) |>.le
      have before : k < k' := least k' (by simp)
      have skip : bracketFrom key n (k :: k' :: ks) = bracketFrom key (n + 1) (k' :: ks) := by
        rw [bracketFrom, if_neg (by omega), if_neg (by omega)]
      rw [skip, ih (n + 1) rest start stop (.inr past), Nat.add_right_comm, Nat.add_assoc]

/-! ## The value found (R90, R94) -/

variable {values : List Int} {va vb vz : Int}

theorem interpolate_at {i : Nat} (off span : Int) (start : values[i]? = some va) (stop : values[i + 1]? = some vb) :
    interpolate (.at i off span) values = va + roundDiv ((vb - va) * off) span := by
  simp [interpolate, List.getD_eq_getElem?_getD, start, stop]

theorem interpolate_below (first : keys.head? = some a) (value : values.head? = some va) (below : key < a) :
    interpolate (bracket key keys) values = va := by
  rw [bracket, bracketFrom_below 0 first below]
  simp [interpolate, List.headD_eq_head?_getD, value]

theorem interpolate_above (ascending : keys.Pairwise (· < ·)) (last : keys.getLast? = some z)
    (value : values.getLast? = some vz) (above : z < key) : interpolate (bracket key keys) values = vz := by
  obtain ⟨front, rfl⟩ := List.getLast?_eq_some_iff.mp last
  have passed : ∀ k ∈ front ++ [z], k < key := by
    obtain ⟨-, -, before⟩ := List.pairwise_append.mp ascending
    intro k mem
    rcases List.mem_append.mp mem with mem | mem
    · exact (before k mem z (by simp)).trans above
    · exact List.mem_singleton.mp mem ▸ above
  rw [bracket, bracketFrom_above 0 passed]
  simp [interpolate, List.getLastD_eq_getLast?, value]

/-- A key at a point is found at the end of the interval before the point, where one stands, with the point's value. -/
theorem interpolate_between (ascending : keys.Pairwise (· < ·)) (same : values.length = keys.length) {i : Nat}
    (start : keys[i]? = some a) (stop : keys[i + 1]? = some b) (startValue : values[i]? = some va)
    (stopValue : values[i + 1]? = some vb) (reached : a ≤ key) (inside : key ≤ b) :
    interpolate (bracket key keys) values = va + roundDiv ((vb - va) * (key - a)) (b - a) := by
  by_cases found : i = 0 ∧ a ≤ key ∨ a < key
  · rw [bracket, bracketFrom_at 0 ascending start stop found inside, Nat.zero_add,
      interpolate_at _ _ startValue stopValue]
  · obtain ⟨j, rfl⟩ : ∃ j, i = j + 1 := ⟨i - 1, by omega⟩
    obtain rfl : key = a := by omega
    obtain ⟨within, stands⟩ := List.getElem?_eq_some_iff.mp start
    have before : keys[j]? = some keys[j] := List.getElem?_eq_getElem _
    have valueBefore : values[j]? = some values[j] := List.getElem?_eq_getElem _
    have less : keys[j] < key := stands ▸ List.pairwise_iff_getElem.mp ascending j (j + 1) _ _ (by omega)
    rw [bracket, bracketFrom_at 0 ascending before start (.inr less) le_rfl, Nat.zero_add,
      interpolate_at _ _ valueBefore startValue, roundDiv_mul_self _ (by omega), sub_self, mul_zero, roundDiv_zero]
    omega

end

end Sys2Proof.Machine

/-! PROOF. What each tank, lot and crane of a snapshot adds, what the crane terms leave of a moment sum, and what a
point or a span adds aft of a station (R57, R87 to R91, R101, R102). -/

namespace Sys2Proof.Machine

/-! ## Numbered lists -/

theorem numbered_getElem? {α : Type} (n k : Nat) (xs : List α) : (numbered n xs)[k]? = xs[k]?.map (n + k, ·) := by
  induction xs generalizing n k with
  | nil => rfl
  | cons x xs ih =>
    cases k with
    | zero => rfl
    | succ k => simp [numbered, ih, Nat.add_assoc, Nat.add_comm 1 k]

@[simp] theorem numbered_length {α : Type} (n : Nat) (xs : List α) : (numbered n xs).length = xs.length := by
  induction xs generalizing n with
  | nil => rfl
  | cons x xs ih => simp [numbered, ih]

/-! ## Tanks (R90, R91) -/

theorem slack_iff (capacity v : Int) : slack capacity v = true ↔ 2 * capacity < 100 * v ∧ 100 * v < 98 * capacity := by
  simp [slack]

theorem tankLookup_stated {k : TankState} (stated : k.source = .stated) (r : TankRec) (sounding : Int) :
    tankLookup r k sounding
      = (k.volume, interpolate (bracket k.volume (r.points.map (·.volume))) (r.points.map (·.vcg)), false) := by
  unfold tankLookup
  rw [stated]

theorem tankLookup_gauged {k : TankState} (gauged : k.source = .gauged) (r : TankRec) (sounding : Int) :
    tankLookup r k sounding
      = (interpolate (bracket sounding (r.points.map (·.sounding))) (r.points.map (·.volume)),
          interpolate (bracket sounding (r.points.map (·.sounding))) (r.points.map (·.vcg)),
          (bracket sounding (r.points.map (·.sounding))).outside) := by
  unfold tankLookup
  rw [gauged]

/-- The free-surface moment of a tank's figures: none where its volume is not slack (R91). -/
theorem tankFigures_fsm (r : TankRec) (k : TankState) (sounding : Int) :
    (tankFigures r k sounding).fsm = if slack r.capacity (tankFigures r k sounding).volume = true then
      roundDiv (r.coeff * k.density) 1000 else 0 := rfl

namespace Snapshot

variable (sn : Snapshot)

/-- The sounding a tank's figures are keyed by. -/
def soundingValue (tank : Nat) : Int := ((sn.soundingOf tank).map (·.value)).getD 0

theorem soundingValue_of_some {k : Nat} {z : Frozen} (given : sn.soundings[k]? = some (some z)) :
    sn.soundingValue k = z.value := by
  simp [soundingValue, soundingOf, given]

theorem tanks_getElem? {k : Nat} {r : TankRec} {t : TankState} (record : sn.hull.s4[k]? = some r)
    (held : sn.area.tanks[k]? = some t) : sn.tanks[k]? = some (k, r, tankFigures r t (sn.soundingValue k)) := by
  have both : (sn.hull.s4.zip sn.area.tanks)[k]? = some (r, t) := List.getElem?_zip_eq_some.mpr ⟨record, held⟩
  unfold tanks
  rw [List.getElem?_map, numbered_getElem?, both, Nat.zero_add]
  rfl

/-- Every tank of a snapshot has the figures of its record. -/
theorem figures_of_mem_tanks {k : Nat × TankRec × TankFigures} (mem : k ∈ sn.tanks) :
    ∃ t sounding, k.2.2 = tankFigures k.2.1 t sounding := by
  obtain ⟨t, -, rfl⟩ := List.mem_map.mp mem
  exact ⟨_, _, rfl⟩

/-! ## Lots and crane terms (R57, R88, R89) -/

/-- The counted mass by the lot's state: whole when STOWED, less what the crane carries when SLUNG ABOARD, else none. -/
theorem counted_eq (x : Lot) : sn.counted x = if x.state = .stowed then x.massUsed
    else if x.state = .slung ∧ x.resting = some .aboard then x.massUsed - min x.massUsed (sn.netOf (x.crane.getD 0))
    else 0 := by
  unfold counted
  split
  next stowed => rw [if_pos stowed]
  next slung aboard => rw [if_neg (by simp [slung]), if_pos ⟨slung, aboard⟩]
  next notStowed notAboard =>
    rw [if_neg notStowed, if_neg fun both => notAboard both.1 both.2]

theorem craneItems_getElem? {k : Nat} {rec : CraneRec} {c : CraneTerm} {a : AreaCrane}
    (record : sn.hull.s5[k]? = some rec) (term : sn.cranes[k]? = some c) (crane : sn.area.cranes[k]? = some a) :
    sn.craneItems[k]? = some ⟨c.net.value, ⟨rec.px + c.l.value, rec.py + c.t.value, a.height⟩, 0⟩ := by
  have both : (sn.hull.s5.zip sn.cranes)[k]? = some (rec, c) := List.getElem?_zip_eq_some.mpr ⟨record, term⟩
  unfold craneItems
  rw [List.getElem?_map, numbered_getElem?, both, Nat.zero_add]
  simp [crane]

theorem craneItems_length : sn.craneItems.length = min sn.hull.s5.length sn.cranes.length := by
  simp [craneItems]

end Snapshot

/-! ## Crane terms under the bound (R87) -/

section

variable {start t : Int} {ts : List Int}

theorem addCranes_cons_value (a : Accumulator) (t : Int) (ts : List Int) :
    (addCranes a (t :: ts)).value = (addCranes (a.add t) ts).value := rfl

/-- A stopped sum stays at the end it reached. -/
theorem addCranes_stopped (value : Int) (ts : List Int) : (addCranes ⟨value, true⟩ ts).value = value := by
  induction ts with
  | nil => rfl
  | cons t ts ih => exact ih

theorem addCranes_inside (low : -Config.momentMax ≤ start + t) (high : start + t ≤ Config.momentMax) :
    (addCranes ⟨start, false⟩ (t :: ts)).value = (addCranes ⟨start + t, false⟩ ts).value := by
  have added : Accumulator.add ⟨start, false⟩ t = ⟨start + t, false⟩ := by
    simp [Accumulator.add, low.not_gt, high.not_gt]
  rw [addCranes_cons_value, added]

theorem addCranes_over (high : Config.momentMax < start + t) :
    (addCranes ⟨start, false⟩ (t :: ts)).value = Config.momentMax := by
  have added : Accumulator.add ⟨start, false⟩ t = ⟨Config.momentMax, true⟩ := by
    simp [Accumulator.add, high]
  rw [addCranes_cons_value, added, addCranes_stopped]

theorem addCranes_under (low : start + t < -Config.momentMax) :
    (addCranes ⟨start, false⟩ (t :: ts)).value = -Config.momentMax := by
  have notHigh : ¬ Config.momentMax < start + t := by
    unfold Config.momentMax at *
    omega
  have added : Accumulator.add ⟨start, false⟩ t = ⟨-Config.momentMax, true⟩ := by
    simp [Accumulator.add, low, notHigh]
  rw [addCranes_cons_value, added, addCranes_stopped]

end

/-! ## Points and spans aft of a station (R101, R102) -/

section

variable {x : Int} {i : Item}

theorem aft_point_behind (point : i.half = 0) (behind : i.pos.x < x) :
    weightAft x i = i.mass ∧ momentAft x i = i.mass * (x - i.pos.x) := by
  simp [weightAft, momentAft, point, behind]

theorem aft_point_ahead (point : i.half = 0) (ahead : x ≤ i.pos.x) : weightAft x i = 0 ∧ momentAft x i = 0 := by
  simp [weightAft, momentAft, point, ahead.not_gt]

theorem aft_span_behind (span : 0 < i.half) (behind : i.pos.x + i.half ≤ x) :
    weightAft x i = i.mass ∧ momentAft x i = i.mass * (x - i.pos.x) := by
  simp [weightAft, momentAft, span.ne', behind]

theorem aft_span_ahead (span : 0 < i.half) (ahead : x ≤ i.pos.x - i.half) :
    weightAft x i = 0 ∧ momentAft x i = 0 := by
  have notBehind : ¬ i.pos.x + i.half ≤ x := by omega
  simp only [weightAft, momentAft, if_neg span.ne', if_neg notBehind, if_pos ahead, and_self]

theorem weightAft_span_across (span : 0 < i.half) (begins : i.pos.x - i.half < x) (ends : x < i.pos.x + i.half) :
    weightAft x i = roundDiv (i.mass * (x - (i.pos.x - i.half))) (2 * i.half) := by
  rw [weightAft, if_neg span.ne', if_neg ends.not_ge, if_neg begins.not_ge]

theorem momentAft_span_across (span : 0 < i.half) (begins : i.pos.x - i.half < x) (ends : x < i.pos.x + i.half) :
    momentAft x i = roundDiv (weightAft x i * (x - (i.pos.x - i.half))) 2 := by
  rw [momentAft, if_neg span.ne', if_neg ends.not_ge, if_neg begins.not_ge]

end

end Sys2Proof.Machine

/-! PROOF. What the figures of a result are in terms of its snapshot's sums, and how they stand to each other (R92 to
R104, R106). -/

namespace Sys2Proof.Machine

/-! ## Heel (R96) -/

section

variable {tcg gm : Int}

theorem heelRule_upright (stable : 0 < gm) :
    heelRule tcg gm = (max (-10000) (min 10000 (roundDiv (10000 * tcg) gm)), false) := by
  rw [heelRule, if_pos stable, clamp_eq_max_min (by decide)]

theorem heelRule_unstable (unstable : gm ≤ 0) :
    heelRule tcg gm = (if tcg = 0 then 0 else if tcg < 0 then -10000 else 10000, true) :=
  if_neg unstable.not_gt

theorem heelRule_negative_iff : (heelRule tcg gm).2 = true ↔ gm ≤ 0 := by
  rcases lt_or_ge 0 gm with stable | unstable
  · simp [heelRule_upright stable, stable]
  · simp [heelRule_unstable unstable, unstable]

theorem heelRule_range : -10000 ≤ (heelRule tcg gm).1 ∧ (heelRule tcg gm).1 ≤ 10000 := by
  rcases lt_or_ge 0 gm with stable | unstable
  · rw [heelRule_upright stable]
    dsimp only
    omega
  · rw [heelRule_unstable unstable]
    dsimp only
    split
    · decide
    · split <;> decide

end

/-! ## Free surface (R93) -/

theorem sumInt_map_eq_zero {α : Type} {f : α → Int} {xs : List α} (zero : ∀ x ∈ xs, f x = 0) :
    sumInt (xs.map f) = 0 := by
  induction xs with
  | nil => rfl
  | cons x xs ih => simp [sumInt, zero x (by simp), ih fun y mem => zero y (List.mem_cons_of_mem _ mem)]

namespace Snapshot

variable (sn : Snapshot)

theorem fsm_eq_zero (noSlack : ∀ k ∈ sn.tanks, slack k.2.1.capacity k.2.2.volume = false) : sn.fsm = 0 := by
  refine sumInt_map_eq_zero fun k mem => ?_
  obtain ⟨t, sounding, figures⟩ := sn.figures_of_mem_tanks mem
  have notSlack := noSlack k mem
  rw [figures] at notSlack ⊢
  rw [tankFigures_fsm, if_neg (by simp [notSlack])]

/-! ## Release (R98) -/

theorem release_eq_none_iff (a : Accumulators) : sn.release a = none ↔ sn.totalNet ≤ 0 := by
  unfold release
  split
  next carried => simp [carried]
  next unladen => simp [not_lt.mp unladen]

/-! ## Stations (R100 to R104) -/

variable {sn} {k : Nat} {r : StationRec} {cells : List BuoyCell}

theorem stations_getElem? (station : sn.hull.s0.stations[k]? = some r)
    (column : sn.hull.s2.cells[k]? = some cells) :
    sn.accumulators.stations[k]? =
      some (sn.stationSums sn.accumulators.mass (hydroBracket sn.hull sn.accumulators.mass) r cells) := by
  have both : (sn.hull.s0.stations.zip sn.hull.s2.cells)[k]? = some (r, cells) :=
    List.getElem?_zip_eq_some.mpr ⟨station, column⟩
  unfold accumulators
  rw [List.getElem?_map, both]
  rfl

theorem strength_getElem? (station : sn.hull.s0.stations[k]? = some r)
    (column : sn.hull.s2.cells[k]? = some cells) :
    (evaluate sn).strength[k]? =
      some ((sn.stationSums (evaluate sn).delta (hydroBracket sn.hull (evaluate sn).delta) r cells).strength
        (evaluate sn).delta (hydroBracket sn.hull (evaluate sn).delta) cells) := by
  have both : (sn.accumulators.stations.zip sn.hull.s2.cells)[k]? = some (_, cells) :=
    List.getElem?_zip_eq_some.mpr ⟨stations_getElem? station column, column⟩
  unfold evaluate resultFrom
  rw [List.getElem?_map, both]
  rfl

end Snapshot

/-! ## The statements -/

/-- Settles O50: a tank that is not slack adds no free-surface moment. -/
theorem freeSurfaceCorrectsTheCentre : Obligations.FreeSurfaceCorrectsTheCentre := by
  unfold Obligations.FreeSurfaceCorrectsTheCentre
  intro sn r
  refine ⟨rfl, rfl, fun noSlack => ?_⟩
  have noMoment : r.fsm = 0 := sn.fsm_eq_zero noSlack
  have corrected : r.kgc = r.kg + roundDiv r.fsm r.delta := rfl
  exact ⟨noMoment, by rw [corrected, noMoment, roundDiv_zero, Int.add_zero]⟩

/-- Settles O49: by what rounding and interpolation give, what each item adds, and the rules of heel and release. -/
theorem quotientsAndResultsHoldTheirRelations : Obligations.QuotientsAndResultsHoldTheirRelations := by
  unfold Obligations.QuotientsAndResultsHoldTheirRelations
  intro bound
  refine ⟨fun a b nonzero => roundDiv_nearest a nonzero, fun keys values key ascending same => ?columns,
    fun sn k r t record held => ?tanks, fun sn => ?items, fun sn => ?sums, fun start t ts => ?terms,
    fun x i => ?aft, fun sn k r cells station column => ?strength, fun sn => ?result⟩
  case columns =>
    exact ⟨fun _ _ _ _ _ start stop value value' reached inside =>
        interpolate_between ascending same start stop value value' reached inside,
      fun _ _ first value below => interpolate_below first value below,
      fun _ _ last value above => interpolate_above ascending last value above⟩
  case tanks =>
    refine ⟨_, sn.tanks_getElem? record held, rfl, ?_, fun stated => ?_, fun z gauged given => ?_⟩
    · simp only [tankFigures_fsm, slack_iff]
    · exact ⟨congrArg (·.1) (tankLookup_stated stated r _), congrArg (·.2.1) (tankLookup_stated stated r _)⟩
    · rw [sn.soundingValue_of_some given]
      exact ⟨congrArg (·.1) (tankLookup_gauged gauged r _), congrArg (·.2.1) (tankLookup_gauged gauged r _)⟩
  case items =>
    intro used net counted
    refine ⟨?_, fun _ _ _ _ record term crane => sn.craneItems_getElem? record term crane, sn.craneItems_length⟩
    have lots : ∀ x : Lot, sn.lotItem x = match x.place with
        | none => Item.mk 0 ⟨0, 0, 0⟩ 0
        | some p => Item.mk (counted x) p.pos x.half := by
      intro x
      unfold Snapshot.lotItem
      rw [sn.counted_eq x]
      cases x.place <;> rfl
    unfold Snapshot.items
    rw [funext lots]
    rfl
  case sums =>
    exact ⟨rfl, rfl, rfl, rfl, rfl, rfl, ⟨rfl, sn.withCranes_range _⟩, ⟨rfl, sn.withCranes_range _⟩,
      ⟨rfl, sn.withCranes_range _⟩, rfl, rfl, rfl⟩
  case terms => exact ⟨rfl, addCranes_inside, addCranes_over, addCranes_under⟩
  case aft =>
    refine ⟨aft_point_behind, aft_point_ahead, aft_span_behind, aft_span_ahead, fun span begins ends => ?_⟩
    have weight := weightAft_span_across span begins ends
    exact ⟨weight, by rw [momentAft_span_across span begins ends, weight]⟩
  case strength => exact ⟨_, Snapshot.strength_getElem? station column, rfl, rfl, rfl, rfl⟩
  case result =>
    intro r b
    have trim : r.trim = clamp (-32000) 32000 (roundDiv (r.delta * (r.lcb - r.lcg)) r.mct) := rfl
    obtain ⟨heelLow, heelHigh⟩ := heelRule_range (tcg := r.tcg) (gm := r.gm)
    have negative := heelRule_negative_iff (tcg := r.tcg) (gm := r.gm)
    obtain ⟨trimLow, trimHigh⟩ := clamp_range (show (-32000 : Int) ≤ 32000 by decide)
      (roundDiv (r.delta * (r.lcb - r.lcg)) r.mct)
    have capsized (flag : r.negGm = true) :
        r.heel = if r.tcg = 0 then 0 else if r.tcg < 0 then -10000 else 10000 :=
      congrArg (·.1) (heelRule_unstable (negative.mp flag))
    refine ⟨rfl, rfl, rfl, rfl, rfl, rfl, rfl, trim.trans (clamp_eq_max_min (by decide) _), rfl, rfl,
      fun stable => congrArg (·.1) (heelRule_upright stable), heelLow, heelHigh, trimLow, trimHigh,
      negative, fun flag centred => ?_, fun flag => ⟨fun port => ?_, fun starboard => ?_⟩,
      sn.release_eq_none_iff _, List.length_map _, rfl, rfl, rfl⟩
    · rw [capsized flag, if_pos centred]
    · rw [capsized flag, if_neg port.ne, if_pos port]
    · rw [capsized flag, if_neg starboard.ne', if_neg starboard.not_gt]

end Sys2Proof.Machine

/-! PROOF. What R75 and R124 to R126 speak of as a view of the state: the lines, what gives them their causes, and the
channels; and what a channel's record brings to the lines of its watch. -/

namespace Sys2Proof.Machine

/-! ## The view -/

/-- The hold lines and what their causes and marks rest on: the device state, the publication, the hull data in force,
the verdict and the channels. -/
structure LineView where
  device : DeviceState
  published : Bool
  hull : Option Hull
  verdict : Option Verdict
  channels : List Channel
  holds : PerLine HoldLine

def State.lineView (s : State) : LineView :=
  { device := s.device, published := s.published, hull := s.hull, verdict := s.verdict
    channels := s.bank.channels, holds := s.holds }

/-- A line that has the same causes, mode and record stands as it stood. -/
theorem lineStands_congr {s s' : State} {h : Line} (causes : s'.causesOf h = s.causesOf h) (hull : s'.hull = s.hull)
    (record : s'.holds.get h = s.holds.get h) : s'.lineStands h ↔ s.lineStands h := by
  unfold State.lineStands
  rw [causes, lineCfg_congr hull, record]

/-- A line keeps its standing where nothing moves but the records of other lines. -/
theorem lineStands_of_record {s : State} {holds : PerLine HoldLine} {h : Line} (record : holds.get h = s.holds.get h) :
    State.lineStands { s with holds := holds } h ↔ s.lineStands h :=
  lineStands_congr (causesOf_congr rfl rfl rfl rfl rfl (congrArg _ record) (congrArg _ record)) rfl record

/-- A line of a state with the same view stands as it stands in the other. -/
theorem lineStands_of_view {s s' : State} (view : s'.lineView = s.lineView) (h : Line) :
    s'.lineStands h ↔ s.lineStands h := by
  obtain ⟨device, published, hull, verdict, channels, holds⟩ := LineView.mk.injEq .. ▸ view
  have record : s'.holds.get h = s.holds.get h := by rw [holds]
  exact lineStands_congr (causesOf_congr device published hull verdict channels (congrArg _ record) (congrArg _ record))
    hull record

theorem watchesRest_of_channels {s s' : State} (channels : s'.bank.channels = s.bank.channels) (rest : s.watchesRest) :
    s'.watchesRest := by
  unfold State.watchesRest
  rw [channels]
  exact rest

/-- The watches of a state with the same view are at rest as in the other. -/
theorem watchesRest_of_view {s s' : State} (view : s'.lineView = s.lineView) (rest : s.watchesRest) : s'.watchesRest :=
  watchesRest_of_channels (congrArg LineView.channels view) rest

/-- A state with the same view stands as the other does. -/
theorem linesStand_of_view {s s' : State} (view : s'.lineView = s.lineView) (stand : s.linesStand) : s'.linesStand :=
  ⟨fun h => (lineStands_of_view view h).mpr (stand.1 h), watchesRest_of_view view stand.2⟩

/-! ## Recomputed lines -/

/-- Recomputing lines keeps the watches at rest. -/
theorem recomputeLines_watchesRest {s : State} (hs : List Line) (rest : s.watchesRest) :
    (recomputeLines hs s).watchesRest := watchesRest_of_channels (by rw [recomputeLines_bank]) rest

/-- With all lines recomputed, only the watches have to be at rest. -/
theorem recomputeAll_linesStand {s : State} (rest : s.watchesRest) : (recomputeAll s).linesStand :=
  ⟨recomputeAll_stands s, recomputeLines_watchesRest allLines rest⟩

/-- The lines recomputed stand, and the others as they stood. -/
theorem recomputeLines_linesStand {s : State} {hs : List Line} (rest : s.watchesRest)
    (others : ∀ h, h ∉ hs → s.lineStands h) : (recomputeLines hs s).linesStand := by
  refine ⟨fun h => recomputeLines_stands hs s h ?_, recomputeLines_watchesRest hs rest⟩
  by_cases mem : h ∈ hs
  · exact .inl mem
  · exact .inr (others h mem)

/-- One line's record written, before the line is recomputed. -/
def State.withRecord (s : State) (h : Line) (r : HoldLine) : State := { s with holds := s.holds.set h r }

@[simp] theorem withRecord_get (s : State) (h : Line) (r : HoldLine) : (s.withRecord h r).holds.get h = r :=
  PerLine.get_set _ _ _

theorem withRecord_get_other {h h' : Line} (s : State) (r : HoldLine) (other : h' ≠ h) :
    (s.withRecord h r).holds.get h' = s.holds.get h' := PerLine.get_set_other _ _ other

/-- A record with the timers of the one before brings its line the same causes. -/
theorem withRecord_causesOf {s : State} {h : Line} {r : HoldLine} (deck : r.deckTimer = (s.holds.get h).deckTimer)
    (ballast : r.ballastTimer = (s.holds.get h).ballastTimer) : (s.withRecord h r).causesOf h = s.causesOf h :=
  causesOf_congr rfl rfl rfl rfl rfl (by rw [withRecord_get, deck]) (by rw [withRecord_get, ballast])

/-- A timer or a mark of one line written, and the line recomputed, leaves all lines standing (R128 to R130). -/
theorem recompute_withRecord_linesStand {s : State} (h : Line) (r : HoldLine) (stand : s.linesStand) :
    (recompute h (s.withRecord h r)).linesStand := by
  refine recomputeLines_linesStand (hs := [h]) stand.2 fun h' out => ?_
  exact (lineStands_of_record (withRecord_get_other s r (by simpa using out))).mpr (stand.1 h')

theorem setHoldTimer_linesStand {s : State} (l : Link) (h : Line) (timer : Option Nat) (stand : s.linesStand) :
    (setHoldTimer l h timer s).linesStand := recompute_withRecord_linesStand h _ stand

/-! ## A channel and the lines of its watch (R75) -/

/-- Whether a channel's watch is a cause for a line (R75). -/
def Channel.calls (c : Channel) (h : Line) : Bool := c.watch != .clear && c.cfg.mask.get h

theorem holdWatches_eq (s : State) (h : Line) : s.holdWatches h =
    (List.range s.bank.channels.length).filter fun k => (s.bank.channels[k]?).any (·.calls h) := by
  unfold State.holdWatches Channel.calls
  congr 1
  funext k
  cases s.bank.channels[k]? <;> rfl

/-- A record written that calls a line as the old one did changes no watch of the line. -/
theorem putChannel_holdWatches {k : Nat} {c c' : Channel} {s : State} {h : Line} (held : s.bank.channels[k]? = some c)
    (same : c'.calls h = c.calls h) : (putChannel k c' s).holdWatches h = s.holdWatches h := by
  rw [holdWatches_eq, holdWatches_eq]
  unfold putChannel
  simp only [List.length_set]
  apply List.filter_congr
  intro j inside
  by_cases here : j = k
  · subst here
    rw [List.getElem?_set_self (by simpa using inside), held]
    simpa using same
  · rw [List.getElem?_set_ne (Ne.symm here)]

theorem putChannel_lineStands {k : Nat} {c c' : Channel} {s : State} {h : Line} (held : s.bank.channels[k]? = some c)
    (same : c'.calls h = c.calls h) : (putChannel k c' s).lineStands h ↔ s.lineStands h := by
  refine lineStands_congr ?_ rfl rfl
  unfold State.causesOf
  rw [putChannel_holdWatches held same]
  rfl

/-- A record put in keeps the watches at rest where its own is. -/
theorem putChannel_watchesRest {k : Nat} {c : Channel} {s : State} (rest : s.watchesRest)
    (own : c.state = .disabled → c.watch = .clear) : (putChannel k c s).watchesRest := by
  intro x mem
  rcases List.mem_or_eq_of_mem_set mem with old | rfl
  · exact rest x old
  · exact own

theorem calls_of_clear {c : Channel} (clear : c.watch = .clear) (h : Line) : c.calls h = false := by
  simp [Channel.calls, clear]

theorem calls_of_unmasked {c : Channel} {h : Line} (out : ¬ c.cfg.mask.get h = true) : c.calls h = false := by
  simp [Channel.calls, out]

/-- A record that calls every line as the old one did, its watch at rest where it is DISABLED, leaves the lines
standing. -/
theorem putChannel_linesStand {k : Nat} {c c' : Channel} {s : State} (held : s.bank.channels[k]? = some c)
    (same : ∀ h, c'.calls h = c.calls h) (own : c'.state = .disabled → c'.watch = .clear) (stand : s.linesStand) :
    (putChannel k c' s).linesStand :=
  ⟨fun h => (putChannel_lineStands held (same h)).mpr (stand.1 h), putChannel_watchesRest stand.2 own⟩

/-- A record with its watch CLEAR, in place of one with its watch CLEAR. -/
theorem putChannel_clear {k : Nat} {c c' : Channel} {s : State} (held : s.bank.channels[k]? = some c)
    (was : c.watch = .clear) (clear : c'.watch = .clear) (stand : s.linesStand) : (putChannel k c' s).linesStand :=
  putChannel_linesStand held (fun h => by rw [calls_of_clear was, calls_of_clear clear]) (fun _ => clear) stand

/-- A record put in with the mask of the old one, and the lines of the mask recomputed (R75). -/
theorem putChannel_recomputeMask {k : Nat} {c c' : Channel} {s s1 : State} (held : s.bank.channels[k]? = some c)
    (view : s1.lineView = (putChannel k c' s).lineView) (mask : c'.cfg.mask = c.cfg.mask)
    (own : c'.state = .disabled → c'.watch = .clear) (stand : s.linesStand) :
    (recomputeMask c.cfg.mask s1).linesStand := by
  refine recomputeLines_linesStand (watchesRest_of_view view (putChannel_watchesRest stand.2 own)) fun h out => ?_
  have unmasked : ¬ c.cfg.mask.get h = true := fun mem => out ((mem_maskLines_iff _ h).mpr mem)
  have same : c'.calls h = c.calls h := by
    rw [calls_of_unmasked unmasked, calls_of_unmasked (c := c') (by rwa [mask])]
  exact (lineStands_of_view view h).mpr ((putChannel_lineStands held same).mpr (stand.1 h))

/-- A channel found in the Bank DISABLED has its watch CLEAR. -/
theorem watch_of_disabled {k : Nat} {c : Channel} {s : State} (rest : s.watchesRest)
    (held : s.bank.channels[k]? = some c) (disabled : c.state = .disabled) : c.watch = .clear :=
  rest c (List.mem_of_getElem? held) disabled

end Sys2Proof.Machine

/-! PROOF. Which operations, and which owning blocks of requests, leave the view of the lines as it is. -/

namespace Sys2Proof.Machine

/-! ## What leaves the view as it is

One lemma per operation that touches none of the view's fields, for `simp` and `rw` to see through it. -/

@[simp] theorem atTime_lineView (t : Nat) (s : State) : (atTime t s).lineView = s.lineView := rfl
@[simp] theorem modifyLiu_lineView (l : Link) (f : Liu → Liu) (s : State) :
    (modifyLiu l f s).lineView = s.lineView := rfl
@[simp] theorem handed_lineView (t : Nat) (l : Link) (s : State) : (handed t l s).lineView = s.lineView := rfl
@[simp] theorem settle_lineView (s : State) : (settle s).lineView = s.lineView := rfl
@[simp] theorem setTrial_lineView (o : Owner) (a : Area) (s : State) : (setTrial o a s).lineView = s.lineView := rfl
@[simp] theorem emptyTrial_lineView (s : State) : (emptyTrial s).lineView = s.lineView := rfl
@[simp] theorem startJob_lineView (j : Job) (s : State) : (startJob j s).lineView = s.lineView := rfl
@[simp] theorem putSlot_lineView (n : Nat) (v : Slot) (s : State) : (putSlot n v s).lineView = s.lineView := rfl
@[simp] theorem putEntry_lineView (n : Nat) (e : DirEntry) (s : State) : (putEntry n e s).lineView = s.lineView := rfl
@[simp] theorem readSlotContent_lineView (n : Nat) (good : Bool) (s : State) :
    (readSlotContent n good s).lineView = s.lineView := rfl
@[simp] theorem answerOwed_lineView (enter : Bool) (code : Code) (body : List Byte) (restart : Bool) (s : State) :
    (answerOwed enter code body restart s).lineView = s.lineView := rfl
@[simp] theorem awaitRestart_lineView (s : State) : (awaitRestart s).lineView = s.lineView := rfl
@[simp] theorem suspendRun_lineView (s : State) : (suspendRun s).lineView = s.lineView := rfl
@[simp] theorem grantStage_lineView (h : Hull) (r : Run) (k : Nat) (st : Stage) (s : State) :
    (grantStage h r k st s).lineView = s.lineView := rfl

@[simp] theorem markWriteError_lineView (failed : Bool) (s : State) :
    (markWriteError failed s).lineView = s.lineView := by
  cases failed <;> rfl

@[simp] theorem setLock_lineView (q : Target) (s : State) : (setLock q s).lineView = s.lineView := by
  cases q <;> rfl

@[simp] theorem markDelivered_lineView (o : Outbound) (r : ReplyKind) (s : State) :
    (markDelivered o r s).lineView = s.lineView := by
  unfold markDelivered
  split <;> rfl

@[simp] theorem respond_lineView (l : Link) (kind tag : Nat) (r : Reply) (s : State) :
    (respond l kind tag r s).lineView = s.lineView := by
  rw [respond_only]
  rfl

@[simp] theorem raiseNotice_lineView (forced : Link → Bool) (n : Notice) (s : State) :
    (raiseNotice forced n s).lineView = s.lineView := by
  rw [raiseNotice_only]
  rfl

@[simp] theorem raiseLive_lineView (c : Cause) (s : State) : (raiseLive c s).lineView = s.lineView := by
  rw [raiseLive_only]
  rfl

@[simp] theorem archiveNotice_lineView (k : JobKind) (q : Option Target) (c : Code) (x : Option (Option Quantity))
    (s : State) : (archiveNotice k q c x s).lineView = s.lineView := raiseNotice_lineView _ _ _

@[simp] theorem endJobWith_lineView (restart : Bool) (k : JobKind) (q : Option Target) (c : Code)
    (x : Option (Option Quantity)) (body : List Byte) (s : State) :
    (endJobWith restart k q c x body s).lineView = s.lineView := by
  rw [endJobWith_only]
  rfl

@[simp] theorem endJob_lineView (k : JobKind) (q : Option Target) (c : Code) (x : Option (Option Quantity))
    (body : List Byte) (s : State) : (endJob k q c x body s).lineView = s.lineView :=
  endJobWith_lineView _ _ _ _ _ _ _

@[simp] theorem cancelAdopt_lineView (s : State) : (cancelAdopt s).lineView = s.lineView := by
  rw [cancelAdopt_only]
  rfl

@[simp] theorem abandonLook_lineView (s : State) : (abandonLook s).lineView = s.lineView := by
  rw [abandonLook_only]
  rfl

@[simp] theorem entryCauses_lineView (s : State) : (entryCauses s).lineView = s.lineView := by
  unfold entryCauses
  dsimp only
  split_ifs <;> simp

/-! ### Movements and notices of channels -/

@[simp] theorem lotNotice_lineView (e : LotEvent) (x : Lot) (freed : Bool) (crane : Nat) (peak : Option Int)
    (s : State) : (lotNotice e x freed crane peak s).lineView = s.lineView := raiseNotice_lineView _ _ _

@[simp] theorem land_lineView (e : LotEvent) (x : Lot) (crane : Nat) (peak : Option Int) (s : State) :
    (land e x crane peak s).1.lineView = s.lineView := by
  rw [land_only]
  rfl

@[simp] theorem hookOutput_lineView (crane : Nat) (v : Int) (s : State) :
    (hookOutput crane v s).lineView = s.lineView := by
  rw [hookOutput_only]
  rfl

@[simp] theorem channelNotice_lineView (k : Nat) (c : Channel) (e : ChanEvents) (s : State) :
    (channelNotice k c e s).lineView = s.lineView := by
  rw [channelNotice_only]
  rfl

/-! ### Sets, TRIAL, grants and completions -/

@[simp] theorem applyReady_lineView (s : State) : (applyReady s).lineView = s.lineView := by
  rw [applyReady_only]
  rfl

@[simp] theorem releaseRecalled_lineView (s : State) : (releaseRecalled s).lineView = s.lineView := by
  rw [releaseRecalled_only]
  rfl

@[simp] theorem applyAdopt_lineView (s : State) : (applyAdopt s).lineView = s.lineView := by
  rw [applyAdopt_only]
  rfl

@[simp] theorem completeRun_lineView (b : BaseInfo) (rs : List StageRecord) (s : State) :
    (completeRun b rs s).lineView = s.lineView := by
  rw [completeRun_only]
  rfl

@[simp] theorem dropLook_lineView (s : State) : (dropLook s).lineView = s.lineView := by
  unfold dropLook
  split <;> simp

/-- A live grant takes the snapshot of what the ADOPT and the sets left. -/
@[simp] theorem grantLive_lineView (h : Hull) (s : State) : (grantLive h s).lineView = s.lineView := by
  change (applyReady (applyAdopt (suspendRun s))).lineView = _
  simp

@[simp] theorem grantSelfCheck_lineView (h : Hull) (s : State) : (grantSelfCheck h s).lineView = s.lineView := rfl

@[simp] theorem startRun_lineView (h : Hull) (s : State) : (startRun h s).lineView = s.lineView := by
  unfold startRun
  dsimp only
  split <;> simp

@[simp] theorem continueRun_lineView (h : Hull) (r : Run) (s : State) : (continueRun h r s).lineView = s.lineView := by
  unfold continueRun
  split
  · split <;> simp
  · exact startRun_lineView h s

@[simp] theorem grantChoice_lineView (h : Hull) (s : State) : (grantChoice h s).lineView = s.lineView := by
  unfold grantChoice
  split
  · exact grantLive_lineView h s
  · split
    · rfl
    · split
      · exact continueRun_lineView h _ s
      · split
        · exact startRun_lineView h s
        · rfl

@[simp] theorem stageDone_lineView (k : Nat) (h : Hull) (e : Result) (s : State) :
    (stageDone k h e s).lineView = s.lineView := by
  unfold stageDone
  split
  · rfl
  · split
    · rfl
    · unfold finishStage
      dsimp only
      split
      · exact completeRun_lineView _ _ s
      · rfl

@[simp] theorem endSelfCheck_lineView (h : Hull) (r : Result) (s : State) :
    (endSelfCheck h r s).lineView = s.lineView := by
  unfold endSelfCheck
  split <;> simp

@[simp] theorem repairWritten_lineView (w : Hull) (ns : List Nat) (s : State) :
    (repairWritten w ns s).lineView = s.lineView := by
  unfold repairWritten
  rw [awaitRestart_lineView, endJobWith_lineView]
  rfl

@[simp] theorem leaveFailed_lineView (w : Hull) (ns : List Nat) (n : Nat) (s : State) :
    (leaveFailed w ns n s).lineView = s.lineView := by
  unfold leaveFailed
  rw [endJob_lineView, markWriteError_lineView]
  rfl

/-! ### Owning blocks of requests -/

@[simp] theorem closeSet_lineView (l : Link) (q : SetMessage) (s : State) :
    (closeSet l q s).1.lineView = s.lineView := by
  unfold closeSet
  extract_lets sets held edits
  split
  · rfl
  · rw [raiseLive_lineView]
    rfl

@[simp] theorem holdSet_lineView (l : Link) (q : SetMessage) (s : State) :
    (holdSet l q s).1.lineView = s.lineView := by
  unfold holdSet
  dsimp only
  split
  · split <;> rfl
  · split <;> rfl

@[simp] theorem changeSetAct_lineView (l : Link) (q : SetMessage) (s : State) :
    (changeSetAct l q s).1.lineView = s.lineView := by
  unfold changeSetAct
  split
  · rfl
  · split
    · exact closeSet_lineView _ _ _
    · exact holdSet_lineView _ _ _

@[simp] theorem attachAct_lineView (l : Link) (q : AttachFields) (s : State) :
    (attachAct l q s).1.lineView = s.lineView := by
  unfold attachAct
  split
  · rfl
  · rw [lotNotice_lineView]
    rfl

@[simp] theorem detach_lineView (x : Lot) (s : State) : (detach x s).1.lineView = s.lineView := by
  unfold detach
  dsimp only
  split <;>
  · rw [lotNotice_lineView]
    rfl

@[simp] theorem detachAct_lineView (l : Link) (id : Nat) (s : State) :
    (detachAct l id s).1.lineView = s.lineView := by
  unfold detachAct
  split
  · rfl
  · split
    · rfl
    · split
      · rfl
      · exact detach_lineView _ _

@[simp] theorem forceLandAct_lineView (l : Link) (id : Nat) (s : State) :
    (forceLandAct l id s).1.lineView = s.lineView := by
  unfold forceLandAct
  split
  · rfl
  · split
    · rfl
    · dsimp only
      split
      · rfl
      · split
        · rfl
        · exact land_lineView _ _ _ _ _

@[simp] theorem stepAppendAct_lineView (l : Link) (w : StepWork) (s : State) :
    (stepAppendAct l w s).1.lineView = s.lineView := by
  unfold stepAppendAct
  split <;> rfl

@[simp] theorem stepWithdrawAct_lineView (l : Link) (id : Nat) (s : State) :
    (stepWithdrawAct l id s).1.lineView = s.lineView := by
  unfold stepWithdrawAct
  split
  · rfl
  · split
    · rfl
    · split_ifs <;> rfl

@[simp] theorem stepDoneAct_lineView (l : Link) (q : Nat × Bool) (s : State) :
    (stepDoneAct l q s).1.lineView = s.lineView := by
  unfold stepDoneAct
  split
  · rfl
  · split
    · rfl
    · split <;> rfl

@[simp] theorem seqSetAct_lineView (l : Link) (q : Option Nat × Option Nat) (s : State) :
    (seqSetAct l q s).1.lineView = s.lineView := by
  unfold seqSetAct
  dsimp only
  split_ifs <;> rfl

@[simp] theorem readSequenceAct_lineView (l : Link) (q : SequenceForm) (s : State) :
    (readSequenceAct l q s).1.lineView = s.lineView := by
  unfold readSequenceAct
  split
  · rfl
  · split <;> rfl

@[simp] theorem readChannelsAct_lineView (l : Link) (q : Nat × Nat) (s : State) :
    (readChannelsAct l q s).1.lineView = s.lineView := by
  unfold readChannelsAct
  split <;> rfl

@[simp] theorem readVerdictAct_lineView (l : Link) (q : VerdictPart) (s : State) :
    (readVerdictAct l q s).1.lineView = s.lineView := by
  unfold readVerdictAct
  split
  · rfl
  · split <;> rfl

@[simp] theorem evaluateNowAct_lineView (l : Link) (q : Unit) (s : State) :
    (evaluateNowAct l q s).1.lineView = s.lineView := by
  unfold evaluateNowAct
  split
  · rfl
  · exact raiseLive_lineView _ _

@[simp] theorem readConditionAct_lineView (l : Link) (q : Bool × ConditionPart) (s : State) :
    (readConditionAct l q s).1.lineView = s.lineView := by
  unfold readConditionAct
  split
  · rfl
  · split <;> rfl

@[simp] theorem hullWriteAct_lineView (l : Link) (it : HullItem) (s : State) :
    (hullWriteAct l it s).1.lineView = s.lineView := by
  unfold hullWriteAct
  split
  · rfl
  · split
    · rfl
    · split
      · rfl
      · split
        · rfl
        · split
          · rfl
          · split <;> rfl

@[simp] theorem readHullAct_lineView (l : Link) (q : ItemAddr × Bool) (s : State) :
    (readHullAct l q s).1.lineView = s.lineView := by
  unfold readHullAct
  split
  · rfl
  · split <;> rfl

@[simp] theorem saveAct_lineView (l : Link) (n : Nat) (s : State) : (saveAct l n s).1.lineView = s.lineView := by
  unfold saveAct
  split_ifs <;> simp

@[simp] theorem recallAct_lineView (l : Link) (n : Nat) (s : State) : (recallAct l n s).1.lineView = s.lineView := by
  unfold recallAct
  split_ifs <;> simp

@[simp] theorem selfCheckAct_lineView (l : Link) (n : Nat) (s : State) :
    (selfCheckAct l n s).1.lineView = s.lineView := by
  unfold selfCheckAct
  split_ifs <;> simp

@[simp] theorem referenceWriteAct_lineView (l : Link) (q : Nat × Option Reference) (s : State) :
    (referenceWriteAct l q s).1.lineView = s.lineView := by
  unfold referenceWriteAct
  split
  · rfl
  · split
    · rfl
    · split
      · rfl
      · split
        · rfl
        · rfl
        · split <;> rfl

@[simp] theorem lockAct_lineView (l : Link) (q : Target) (s : State) : (lockAct l q s).1.lineView = s.lineView := by
  unfold lockAct
  split_ifs <;> rfl

@[simp] theorem freezeAct_lineView (l : Link) (q : Unit) (s : State) : (freezeAct l q s).1.lineView = s.lineView := by
  unfold freezeAct
  split_ifs <;> rfl

@[simp] theorem identityWriteAct_lineView (l : Link) (i : Identity) (s : State) :
    (identityWriteAct l i s).1.lineView = s.lineView := by
  unfold identityWriteAct
  split_ifs <;> rfl

@[simp] theorem adoptAct_lineView (l : Link) (q : Unit) (s : State) : (adoptAct l q s).1.lineView = s.lineView := by
  unfold adoptAct
  split_ifs
  · rfl
  · rfl
  · rfl
  · rfl
  · rw [raiseLive_lineView]
    rfl

end Sys2Proof.Machine

/-! PROOF. What moves the lines, their causes or the channels leaves all lines standing: samples and the channel
requests, the requests of the Hold Line Driver, publication, and every entry to a device state (R75, R78, R79, R83,
R127 to R131). -/

namespace Sys2Proof.Machine

/-! ## Samples (R68 to R75) -/

/-- What a sample leaves of the channel that took it: never DISABLED, its configuration, and but for a block's output
its watch (R70, R75). -/
def SampleResult.ServesFor (c : Channel) : SampleResult → Prop
  | .collecting c' | .railed c' => c'.state ≠ .disabled ∧ c'.cfg = c.cfg ∧ c'.watch = c.watch
  | .block c' _ => c'.state ≠ .disabled ∧ c'.cfg = c.cfg

theorem addSample_serves {c : Channel} (enabled : c.state ≠ .disabled) (v : Int) : (c.addSample v).ServesFor c := by
  unfold Channel.addSample
  split
  · exact ⟨nofun, rfl⟩
  · exact ⟨enabled, rfl, rfl⟩

theorem railTest_serves {c : Channel} (enabled : c.state ≠ .disabled) (v : Int) : (c.railTest v).ServesFor c := by
  rw [railTest_eq]
  split
  · exact ⟨nofun, rfl, rfl⟩
  · exact addSample_serves (c := { c with railRun := c.runAfter v }) enabled v

theorem take_serves {c : Channel} (enabled : c.state ≠ .disabled) (v : Int) : (c.take v).ServesFor c := by
  unfold Channel.take
  dsimp only
  split
  · split
    · exact ⟨enabled, rfl, rfl⟩
    · exact addSample_serves (c := { c.dropBlock with state := .filling }) nofun _
  · exact railTest_serves (c := { c with state := .filling }) nofun _
  · exact railTest_serves enabled _

/-- Handing on moves the lines of the watch alone: the Tracker is no cause of a line. -/
theorem handOn_lineView (c : Channel) (changed : Bool) (s : State) :
    (handOn c changed s).lineView = (if changed then recomputeMask c.cfg.mask s else s).lineView := by
  unfold handOn
  dsimp only
  split
  · exact hookOutput_lineView _ _ _
  · rfl

theorem takeSample_linesStand {k : Nat} {c : Channel} (v : Int) {s : State} (held : s.bank.channels[k]? = some c)
    (enabled : c.state ≠ .disabled) (stand : s.linesStand) : (takeSample k c v s).linesStand := by
  have serves := take_serves (c := { c with timer := some (s.now + c.cfg.stale) }) enabled v
  have put {c' : Channel} (state : c'.state ≠ .disabled) (cfg : c'.cfg = c.cfg) (watch : c'.watch = c.watch) :
      (putChannel k c' s).linesStand :=
    putChannel_linesStand held (fun h => by unfold Channel.calls; rw [cfg, watch]) (fun no => absurd no state) stand
  unfold takeSample
  dsimp only
  split
  next c' taken =>
    obtain ⟨state, cfg, watch⟩ := taken ▸ serves
    exact put state cfg watch
  next c' taken =>
    obtain ⟨state, cfg, watch⟩ := taken ▸ serves
    exact linesStand_of_view (channelNotice_lineView _ _ _ _) (put state cfg watch)
  next c' filling taken =>
    obtain ⟨state, cfg⟩ := taken ▸ serves
    refine linesStand_of_view (handOn_lineView _ _ _) ?_
    split
    · rw [cfg]
      exact putChannel_recomputeMask (c := c) held (channelNotice_lineView _ _ _ _) (congrArg _ cfg)
        (fun no => absurd no state) stand
    next same =>
      exact linesStand_of_view (channelNotice_lineView _ _ _ _) (put state cfg (by simpa using same))

theorem takeFrame_linesStand (u : RxUnit) {s : State} (stand : s.linesStand) : (takeFrame u s).linesStand := by
  unfold takeFrame
  split
  · exact linesStand_of_view (s := s) rfl stand
  · split
    · exact linesStand_of_view (s := s) rfl stand
    next held =>
      split
      · exact stand
      next enabled => exact takeSample_linesStand _ held enabled stand

/-! ## The channel requests (R78, R79) -/

/-- CHANNEL-SET passes its checks for a DISABLED channel alone (R78). -/
theorem channelSetCheck_passed {k : Nat} {c : ChannelCfg} {old : Channel} {s : State}
    (passed : channelSetCheck k c s = .ok old) : s.bank.channels[k]? = some old ∧ old.state = .disabled := by
  by_cases run : s.device = .run
  · cases held : s.bank.channels[k]? with
    | none => exact nomatch (channelSetCheck_noChannel run held).symm.trans passed
    | some c' =>
      rw [channelSetCheck_held run held] at passed
      split_ifs at passed with missing enabled
      cases passed
      exact ⟨rfl, not_not.mp enabled⟩
  · exact nomatch (channelSetCheck_outsideRun run).symm.trans passed

theorem channelSetAct_linesStand (l : Link) (q : Nat × ChannelCfg) {s : State} (stand : s.linesStand) :
    (channelSetAct l q s).1.linesStand := by
  unfold channelSetAct
  split
  · exact stand
  next old passed =>
    obtain ⟨held, disabled⟩ := channelSetCheck_passed passed
    have clear := watch_of_disabled stand.2 held disabled
    exact putChannel_clear held clear clear stand

theorem channelEnableAct_linesStand (l : Link) (k : Nat) {s : State} (stand : s.linesStand) :
    (channelEnableAct l k s).1.linesStand := by
  unfold channelEnableAct
  split
  · exact stand
  · split
    · exact stand
    next c held =>
      split_ifs with unbound enabled
      · exact stand
      · exact stand
      · exact putChannel_clear held (watch_of_disabled stand.2 held (not_not.mp enabled)) rfl stand

theorem disableChannel_lineView (k : Nat) (c : Channel) (s : State) :
    (disableChannel k c s).lineView = (putChannel k c.toDisabled s).lineView := channelNotice_lineView _ _ _ _

theorem channelDisableAct_linesStand (l : Link) (k : Nat) {s : State} (stand : s.linesStand) :
    (channelDisableAct l k s).1.linesStand := by
  unfold channelDisableAct
  split
  · exact stand
  · split
    · exact stand
    next c held =>
      dsimp only
      split
      · exact stand
      · dsimp only
        split
        next clear => exact linesStand_of_view (disableChannel_lineView _ _ _) (putChannel_clear held clear rfl stand)
        · exact putChannel_recomputeMask held (disableChannel_lineView _ _ _) rfl (fun _ => rfl) stand

/-! ## The Hold Line Driver (R128 to R130, R208) -/

theorem holdAckAct_linesStand (l : Link) (h : Line) {s : State} (stand : s.linesStand) :
    (holdAckAct l h s).1.linesStand := by
  unfold holdAckAct
  split
  · exact stand
  · split
    · exact stand
    · exact recompute_withRecord_linesStand h _ stand

theorem timedHoldAct_linesStand (l : Link) (q : Line × Nat) {s : State} (stand : s.linesStand) :
    (timedHoldAct l q s).1.linesStand := by
  unfold timedHoldAct
  dsimp only
  split_ifs with range zero runs
  · exact stand
  · exact setHoldTimer_linesStand _ _ _ stand
  · exact stand
  · exact setHoldTimer_linesStand _ _ _ stand

/-- A timer that is not running is stopped already. -/
theorem setTimer_none_of_none {r : HoldLine} {l : Link} (stopped : r.timer l = none) : r.setTimer l none = r := by
  cases l with
  | planning => rfl
  | deck => exact congrArg (fun t => { r with deckTimer := t }) stopped.symm
  | ballast => exact congrArg (fun t => { r with ballastTimer := t }) stopped.symm

/-- The reset of a link stops its timers, and every line that had one running is recomputed (R130, R208). -/
theorem dropTimers_linesStand (l : Link) {s : State} (stand : s.linesStand) : (dropTimers l s).linesStand := by
  unfold dropTimers
  extract_lets running stop
  refine recomputeLines_linesStand stand.2 fun h out => ?_
  have stopped : (s.holds.get h).timer l = none := by
    have all : h ∈ allLines := by cases h <;> decide
    simpa [running, all] using out
  have record : (PerLine.mk (stop s.holds.a) (stop s.holds.b) (stop s.holds.c) (stop s.holds.d)).get h =
      s.holds.get h := by
    have stops := setTimer_none_of_none stopped
    cases h <;> exact stops
  exact (lineStands_of_record record).mpr (stand.1 h)

/-! ## Publication (R119) -/

theorem markAll_lineView (s : State) : (markAll s).lineView = s.lineView := rfl

/-- Every line stands by the verdict published: all are recomputed, and neither the marks nor the notice moves one. -/
theorem publish_lineStands (h : Hull) (r : Result) (s : State) (k : Line) : (publish h r s).lineStands k := by
  rw [publish_eq]
  extract_lets v s2
  have stands : s2.lineStands k := (lineStands_of_view (markAll_lineView _) k).mpr (recomputeAll_stands _ k)
  split
  · exact (lineStands_of_view (raiseNotice_lineView _ _ _) k).mpr stands
  · exact stands

theorem publish_linesStand (h : Hull) (r : Result) {s : State} (rest : s.watchesRest) : (publish h r s).linesStand :=
  ⟨publish_lineStands h r s, watchesRest_of_channels (by rw [publish_only]) rest⟩

/-! ## Entering a device state (R83, R131, R173) -/

theorem disableAll_watchesRest {s : State} (rest : s.watchesRest) : (disableAll s).watchesRest := by
  unfold disableAll
  generalize numbered 0 s.bank.channels = cs
  induction cs generalizing s with
  | nil => exact rest
  | cons c cs ih =>
    rw [List.foldl_cons]
    exact ih (watchesRest_of_view (disableChannel_lineView _ _ _) (putChannel_watchesRest rest fun _ => rfl))

theorem enterConfig_linesStand {s : State} (rest : s.watchesRest) : (enterConfig s).linesStand := by
  unfold enterConfig
  exact recomputeAll_linesStand (disableAll_watchesRest
    (watchesRest_of_channels (s := dropLook s) rfl (watchesRest_of_view (dropLook_lineView s) rest)))

/-- A channel that starts has its watch CLEAR, and one that does not stays as it was (R83). -/
theorem startChannels_rest {chs : List Channel} (now : Nat) (rest : ∀ c ∈ chs, c.state = .disabled → c.watch = .clear) :
    ∀ c ∈ startChannels now chs, c.state = .disabled → c.watch = .clear := by
  intro c mem
  obtain ⟨old, held, rfl⟩ := List.mem_map.mp mem
  split
  · exact fun _ => rfl
  · exact rest old held

theorem enterRun_linesStand (h : Hull) {s : State} (rest : s.watchesRest) : (enterRun h s).linesStand := by
  unfold enterRun
  exact recomputeAll_linesStand (watchesRest_of_view (entryCauses_lineView _) (startChannels_rest s.now rest))

/-- A channel reloaded is DISABLED with its watch CLEAR, and one kept keeps both (R83). -/
theorem bankAfter_rest (h : Hull) (ns : List Nat) {chs : List Channel}
    (rest : ∀ c ∈ chs, c.state = .disabled → c.watch = .clear) :
    ∀ c ∈ bankAfter h ns chs, c.state = .disabled → c.watch = .clear := by
  intro c mem
  unfold bankAfter at mem
  split at mem
  · obtain ⟨j, inside, rfl⟩ := List.mem_iff_getElem.mp mem
    rw [List.getElem_zipWith]
    exact fun _ => rfl
  · obtain ⟨old, held, rfl⟩ := List.mem_map.mp mem
    unfold keepChannel
    split
    · exact rest old held
    · exact rest old held

theorem leaveWritten_linesStand (w : Hull) (ns : List Nat) {s : State} (rest : s.watchesRest) :
    (leaveWritten w ns s).linesStand := by
  unfold leaveWritten
  extract_lets store s1 s2
  have taken : s1.watchesRest := bankAfter_rest w ns rest
  have view : s2.lineView = s1.lineView := by
    unfold s2
    split <;> rfl
  apply enterRun_linesStand
  exact watchesRest_of_view (by rw [cancelAdopt_lineView, endJob_lineView, view]) taken

/-- Every reset asserts every line and leaves every channel DISABLED with its watch CLEAR (R124, R173). -/
theorem resetWith_linesStand (store : Store) (s : State) : (resetWith store s).linesStand := by
  refine ⟨fun h => ?_, fun c mem _ => ?_⟩
  · have start : ((resetWith store s).causesOf h).any = true := Bool.or_true _
    unfold State.lineStands
    rw [start]
    cases h <;> exact ⟨rfl, fun _ => rfl, nofun⟩
  · rw [List.eq_of_mem_replicate (a := Channel.blank) mem]
    rfl

theorem endStart_linesStand {s : State} (rest : s.watchesRest) : (endStart s).linesStand := by
  unfold endStart
  split
  · unfold startRunning
    apply enterRun_linesStand
    intro c mem _
    obtain ⟨cfg, _, rfl⟩ := List.mem_map.mp mem
    rfl
  · exact recomputeAll_linesStand rest

theorem enterConfigAct_linesStand (l : Link) (q : Unit) {s : State} (stand : s.linesStand) :
    (enterConfigAct l q s).1.linesStand := by
  unfold enterConfigAct
  split
  · exact stand
  · split
    · exact linesStand_of_view (s := s) rfl stand
    · dsimp only
      exact enterConfig_linesStand stand.2

theorem resolveEnter_linesStand {s : State} (stand : s.linesStand) : (resolveEnter s).linesStand := by
  unfold resolveEnter
  extract_lets sched s1
  split
  · exact linesStand_of_view (answerOwed_lineView _ _ _ _ _) (linesStand_of_view (s := s) rfl stand)
  · exact linesStand_of_view (answerOwed_lineView _ _ _ _ _) (enterConfig_linesStand stand.2)

theorem leaveConfigAct_linesStand (l : Link) (q : Unit) {s : State} (stand : s.linesStand) :
    (leaveConfigAct l q s).1.linesStand := by
  unfold leaveConfigAct
  split
  · exact stand
  · split
    · exact stand
    · split
      · exact stand
      · split
        · unfold leaveFromConfig
          dsimp only
          split
          · exact stand
          · split
            · dsimp only
              exact enterRun_linesStand _ stand.2
            · exact linesStand_of_view (startJob_lineView _ s) stand
        · unfold leaveFromFault
          split
          · exact stand
          · exact linesStand_of_view (startJob_lineView _ s) stand

end Sys2Proof.Machine

/-! PROOF. Every command leaves all lines standing where they stood (R75, R124 to R131). -/

namespace Sys2Proof.Machine

/-! ## Every command -/

/-- That a command, where it has a next state, leaves the lines standing that stood. -/
def CommandKeepsLines (o : Host.Outcome State Fault Refusal) (s : State) : Prop :=
  s.linesStand → NextHas State.linesStand o

theorem commandKeepsLines_next {s s' : State} (kept : s.linesStand → s'.linesStand) : CommandKeepsLines (.next s') s :=
  fun stand => nextHas_next (kept stand)

/-- A command that leaves the view as it is. -/
theorem commandKeepsLines_of_view {s s' : State} (view : s'.lineView = s.lineView) : CommandKeepsLines (.next s') s :=
  commandKeepsLines_next (linesStand_of_view view)

theorem settle_linesStand {s : State} (stand : s.linesStand) : (settle s).linesStand :=
  linesStand_of_view (settle_lineView s) stand

theorem atTime_linesStand (t : Nat) {s : State} (stand : s.linesStand) : (atTime t s).linesStand :=
  linesStand_of_view (atTime_lineView t s) stand

/-- A request leaves the lines standing where its owning block does. -/
theorem request_keepsLines {α : Type} {kind : Nat} {form : Reader α} {right : Link → α → Bool}
    {act : Link → α → State → State × Reply} {t : Nat} {l : Link} {s : State}
    (acts : ∀ a {s : State}, s.linesStand → (act l a s).1.linesStand) :
    CommandKeepsLines (.next (request kind form right act t l s)) s := by
  refine commandKeepsLines_next fun stand => ?_
  have taken : (handed t l s).linesStand := linesStand_of_view (handed_lineView t l s) stand
  exact request_has stand taken (fun a => acts a taken) fun tag r s' kept =>
    settle_linesStand (linesStand_of_view (respond_lineView _ _ _ _ _) kept)

/-- A request whose owning block leaves the view as it is. -/
theorem request_keepsLines_of_view {α : Type} {kind : Nat} {form : Reader α} {right : Link → α → Bool}
    {act : Link → α → State → State × Reply} {t : Nat} {l : Link} {s : State}
    (acts : ∀ a (s : State), (act l a s).1.lineView = s.lineView) :
    CommandKeepsLines (.next (request kind form right act t l s)) s :=
  request_keepsLines fun a _ stand => linesStand_of_view (acts a _) stand

/-! ### Resets and start-up -/

theorem restart_keepsLines (t : Nat) (s : State) : CommandKeepsLines (execRestart t s) s := by
  refine commandKeepsLines_next fun stand => ?_
  split
  · exact resetWith_linesStand _ _
  · exact stand

theorem startUpEnd_keepsLines (t : Nat) (badSections : BitVec 8) (badSlots : BitVec 16) (s : State) :
    CommandKeepsLines (execStartUpEnd t badSections badSlots s) s := by
  refine commandKeepsLines_next fun stand => ?_
  split
  · exact settle_linesStand (endStart_linesStand (watchesRest_of_channels rfl stand.2))
  · exact stand

theorem linkReset_keepsLines (t : Nat) (l : Link) (s : State) : CommandKeepsLines (execLinkReset t l s) s := by
  refine commandKeepsLines_next fun stand => ?_
  split
  · exact stand
  · apply settle_linesStand
    unfold resetLink
    extract_lets discards s1
    have stopped : s1.linesStand := dropTimers_linesStand l (linesStand_of_view (s := s) rfl stand)
    split
    · exact linesStand_of_view (releaseRecalled_lineView _) (linesStand_of_view (s := s1) rfl stopped)
    · exact stopped

/-! ### Links, samples and timers -/

theorem segmentArrival_keepsLines (t : Nat) (l : Link) (u : RxUnit) (s : State) :
    CommandKeepsLines (execSegmentArrival t l u s) s := by
  apply commandKeepsLines_of_view
  split <;> simp

theorem replyUnit_keepsLines (t : Nat) (l : Link) (u : RxUnit) (s : State) :
    CommandKeepsLines (execReplyUnit t l u s) s := by
  apply commandKeepsLines_of_view
  split <;> simp

theorem resendTimerExpiry_keepsLines (t : Nat) (l : Link) (s : State) :
    CommandKeepsLines (execResendTimerExpiry t l s) s := by
  apply commandKeepsLines_of_view
  split <;> simp

theorem linkBreakEnd_keepsLines (t : Nat) (l : Link) (s : State) : CommandKeepsLines (execLinkBreakEnd t l s) s := by
  apply commandKeepsLines_of_view
  split <;> simp

theorem sampleFrame_keepsLines (t : Nat) (u : RxUnit) (s : State) : CommandKeepsLines (execSampleFrame t u s) s := by
  refine commandKeepsLines_next fun stand => ?_
  split
  · exact stand
  · exact settle_linesStand (takeFrame_linesStand u (atTime_linesStand t stand))

/-- A stale channel keeps its watch and its mask (R72). -/
theorem staleTimerExpiry_keepsLines (t ch : Nat) (s : State) : CommandKeepsLines (execStaleTimerExpiry t ch s) s := by
  refine commandKeepsLines_next fun stand => ?_
  split
  · exact stand
  next c held =>
    split
    · apply settle_linesStand
      refine linesStand_of_view (channelNotice_lineView _ _ _ _) ?_
      exact putChannel_linesStand (s := atTime t s) held (fun _ => rfl) nofun (atTime_linesStand t stand)
    · exact stand

theorem periodicTimerExpiry_keepsLines (t : Nat) (s : State) : CommandKeepsLines (execPeriodicTimerExpiry t s) s := by
  apply commandKeepsLines_of_view
  split
  · rw [settle_lineView, raiseLive_lineView]
    rfl
  · rfl

theorem timedHoldExpiry_keepsLines (t : Nat) (l : Link) (h : Line) (s : State) :
    CommandKeepsLines (execTimedHoldExpiry t l h s) s := by
  refine commandKeepsLines_next fun stand => ?_
  split
  · exact settle_linesStand (setHoldTimer_linesStand l h none (atTime_linesStand t stand))
  · exact stand

/-! ### The Scheduler and the Unit -/

theorem grant_keepsLines (t : Nat) (s : State) : CommandKeepsLines (execGrant t s) s := by
  apply commandKeepsLines_of_view
  split
  · rfl
  · split <;> simp

theorem liveCompletion_keepsLines (t : Nat) (s : State) : CommandKeepsLines (execLiveCompletion t s) s := by
  refine commandKeepsLines_next fun stand => ?_
  split
  · exact settle_linesStand (publish_linesStand _ _ (watchesRest_of_channels rfl stand.2))
  · exact stand

theorem stageCompletion_keepsLines (t : Nat) (s : State) : CommandKeepsLines (execStageCompletion t s) s := by
  apply commandKeepsLines_of_view
  split
  · rw [settle_lineView, stageDone_lineView]
    rfl
  · rfl

theorem selfCheckCompletion_keepsLines (t : Nat) (s : State) : CommandKeepsLines (execSelfCheckCompletion t s) s := by
  apply commandKeepsLines_of_view
  split
  · rw [settle_lineView, endSelfCheck_lineView]
    rfl
  · rfl

theorem heldEnterConfig_keepsLines (t : Nat) (s : State) : CommandKeepsLines (execHeldEnterConfig t s) s := by
  refine commandKeepsLines_next fun stand => ?_
  split
  · exact settle_linesStand (resolveEnter_linesStand (atTime_linesStand t stand))
  · exact stand

/-! ### The ends of store jobs -/

theorem saveEnd_keepsLines (t : Nat) (verified : Bool) (s : State) :
    CommandKeepsLines (execSaveEnd t verified s) s := by
  apply commandKeepsLines_of_view
  split <;> simp

theorem recallReadEnd_keepsLines (t : Nat) (good : Bool) (s : State) :
    CommandKeepsLines (execRecallReadEnd t good s) s := by
  apply commandKeepsLines_of_view
  split
  · rw [settle_lineView]
    split <;> simp
  · rfl

theorem selfCheckReadEnd_keepsLines (t : Nat) (good : Bool) (s : State) :
    CommandKeepsLines (execSelfCheckReadEnd t good s) s := by
  apply commandKeepsLines_of_view
  split
  · extract_lets s1 fail
    have fails (c : Code) : (fail c).lineView = s.lineView := by simp [fail, s1]
    split
    · exact fails _
    · exact fails _
    · split
      · exact fails _
      · rfl
  · rfl

theorem referenceWriteEnd_keepsLines (t : Nat) (verified : Bool) (s : State) :
    CommandKeepsLines (execReferenceWriteEnd t verified s) s := by
  apply commandKeepsLines_of_view
  split <;> simp

theorem lockEnd_keepsLines (t : Nat) (verified : Bool) (s : State) :
    CommandKeepsLines (execLockEnd t verified s) s := by
  apply commandKeepsLines_of_view
  split
  · cases verified <;> simp
  · rfl

theorem freezeEnd_keepsLines (t : Nat) (verified : Bool) (s : State) :
    CommandKeepsLines (execFreezeEnd t verified s) s := by
  apply commandKeepsLines_of_view
  split
  · rw [settle_lineView, endJob_lineView]
    cases verified <;> rfl
  · rfl

theorem identityWriteEnd_keepsLines (t : Nat) (verified : Bool) (s : State) :
    CommandKeepsLines (execIdentityWriteEnd t verified s) s := by
  apply commandKeepsLines_of_view
  split
  · rw [settle_lineView, endJob_lineView]
    cases verified <;> rfl
  · rfl

theorem leaveConfigWriteEnd_keepsLines (t : Nat) (failed : Option Nat) (s : State) :
    CommandKeepsLines (execLeaveConfigWriteEnd t failed s) s := by
  refine commandKeepsLines_next fun stand => ?_
  split
  next ns w _ _ =>
    have begun := atTime_linesStand t stand
    cases failed with
    | none =>
      apply settle_linesStand
      split
      · exact leaveWritten_linesStand w ns begun.2
      · exact linesStand_of_view (repairWritten_lineView w ns _) begun
    | some n =>
      dsimp only
      split
      · exact settle_linesStand (linesStand_of_view (leaveFailed_lineView w ns n _) begun)
      · exact stand
  · exact stand

/-! ### All of them -/

theorem exec_keepsLines (c : Instr) (s : State) : CommandKeepsLines (exec c s) s := by
  match c with
  | .powerOn t cut => exact commandKeepsLines_next fun _ => resetWith_linesStand _ _
  | .resetLine t cut => exact commandKeepsLines_next fun _ => resetWith_linesStand _ _
  | .startUpEnd t badSections badSlots => exact startUpEnd_keepsLines _ _ _ _
  | .restart t => exact restart_keepsLines _ _
  | .segmentArrival t l u => exact segmentArrival_keepsLines _ _ _ _
  | .replyUnit t l u => exact replyUnit_keepsLines _ _ _ _
  | .resendTimerExpiry t l => exact resendTimerExpiry_keepsLines _ _ _
  | .linkReset t l => exact linkReset_keepsLines _ _ _
  | .unknownRequestKind t l => exact request_keepsLines_of_view fun _ _ => rfl
  | .changeSetMessage t l => exact request_keepsLines_of_view (changeSetAct_lineView l)
  | .readSets t l => exact request_keepsLines_of_view fun _ _ => rfl
  | .attach t l => exact request_keepsLines_of_view (attachAct_lineView l)
  | .detach t l => exact request_keepsLines_of_view (detachAct_lineView l)
  | .forceLand t l => exact request_keepsLines_of_view (forceLandAct_lineView l)
  | .readHooks t l => exact request_keepsLines_of_view fun _ _ => rfl
  | .stepAppend t l => exact request_keepsLines_of_view (stepAppendAct_lineView l)
  | .stepWithdraw t l => exact request_keepsLines_of_view (stepWithdrawAct_lineView l)
  | .stepDone t l => exact request_keepsLines_of_view (stepDoneAct_lineView l)
  | .seqSet t l => exact request_keepsLines_of_view (seqSetAct_lineView l)
  | .readSequence t l => exact request_keepsLines_of_view (readSequenceAct_lineView l)
  | .readLookahead t l => exact request_keepsLines_of_view fun _ _ => rfl
  | .channelSet t l => exact request_keepsLines fun q _ => channelSetAct_linesStand l q
  | .channelEnable t l => exact request_keepsLines fun k _ => channelEnableAct_linesStand l k
  | .channelDisable t l => exact request_keepsLines fun k _ => channelDisableAct_linesStand l k
  | .readChannels t l => exact request_keepsLines_of_view (readChannelsAct_lineView l)
  | .holdAck t l => exact request_keepsLines fun h _ => holdAckAct_linesStand l h
  | .timedHold t l => exact request_keepsLines fun q _ => timedHoldAct_linesStand l q
  | .readHolds t l => exact request_keepsLines_of_view fun _ _ => rfl
  | .readVerdict t l => exact request_keepsLines_of_view (readVerdictAct_lineView l)
  | .evaluateNow t l => exact request_keepsLines_of_view (evaluateNowAct_lineView l)
  | .readScheduler t l => exact request_keepsLines_of_view fun _ _ => rfl
  | .readCondition t l => exact request_keepsLines_of_view (readConditionAct_lineView l)
  | .enterConfig t l => exact request_keepsLines fun q _ => enterConfigAct_linesStand l q
  | .heldEnterConfig t => exact heldEnterConfig_keepsLines _ _
  | .hullWrite t l => exact request_keepsLines_of_view (hullWriteAct_lineView l)
  | .leaveConfig t l => exact request_keepsLines fun q _ => leaveConfigAct_linesStand l q
  | .leaveConfigWriteEnd t failed => exact leaveConfigWriteEnd_keepsLines _ _ _
  | .save t l => exact request_keepsLines_of_view (saveAct_lineView l)
  | .saveEnd t verified => exact saveEnd_keepsLines _ _ _
  | .recall t l => exact request_keepsLines_of_view (recallAct_lineView l)
  | .recallReadEnd t checkGood => exact recallReadEnd_keepsLines _ _ _
  | .selfCheck t l => exact request_keepsLines_of_view (selfCheckAct_lineView l)
  | .selfCheckReadEnd t checkGood => exact selfCheckReadEnd_keepsLines _ _ _
  | .referenceWrite t l => exact request_keepsLines_of_view (referenceWriteAct_lineView l)
  | .referenceWriteEnd t verified => exact referenceWriteEnd_keepsLines _ _ _
  | .lock t l => exact request_keepsLines_of_view (lockAct_lineView l)
  | .lockEnd t verified => exact lockEnd_keepsLines _ _ _
  | .freeze t l => exact request_keepsLines_of_view (freezeAct_lineView l)
  | .freezeEnd t verified => exact freezeEnd_keepsLines _ _ _
  | .identityWrite t l => exact request_keepsLines_of_view (identityWriteAct_lineView l)
  | .identityWriteEnd t verified => exact identityWriteEnd_keepsLines _ _ _
  | .releaseTrial t l => exact request_keepsLines_of_view fun _ s => releaseRecalled_lineView s
  | .adopt t l => exact request_keepsLines_of_view (adoptAct_lineView l)
  | .readStore t l => exact request_keepsLines_of_view fun _ _ => rfl
  | .readArchive t l => exact request_keepsLines_of_view fun _ _ => rfl
  | .readIdentity t l => exact request_keepsLines_of_view fun _ _ => rfl
  | .readHull t l => exact request_keepsLines_of_view (readHullAct_lineView l)
  | .noticeSelect t l => exact request_keepsLines_of_view fun _ _ => rfl
  | .linkSet t l => exact request_keepsLines_of_view fun _ _ => rfl
  | .readSummary t l => exact request_keepsLines_of_view fun _ _ => rfl
  | .sampleFrame t u => exact sampleFrame_keepsLines _ _ _
  | .staleTimerExpiry t ch => exact staleTimerExpiry_keepsLines _ _ _
  | .periodicTimerExpiry t => exact periodicTimerExpiry_keepsLines _ _
  | .timedHoldExpiry t l h => exact timedHoldExpiry_keepsLines _ _ _ _
  | .grant t => exact grant_keepsLines _ _
  | .liveCompletion t => exact liveCompletion_keepsLines _ _
  | .stageCompletion t => exact stageCompletion_keepsLines _ _
  | .selfCheckCompletion t => exact selfCheckCompletion_keepsLines _ _
  | .linkBreakEnd t l => exact linkBreakEnd_keepsLines _ _ _

/-- Settles O54: each command either leaves alone what the lines, their causes and the watches rest on, or recomputes
every line whose causes or mark it can move. -/
theorem stepsKeepTheLines : Obligations.StepsKeepTheLines :=
  keptByStep_of_exec (fun _ _ stand => linesStand_of_view rfl stand) exec_keepsLines

end Sys2Proof.Machine

/-! PROOF. What recomputing a line leaves of it and when it raises a HOLD notice, and what HOLD-ACK, TIMED-HOLD and the
expiry of a timer do to their line (R124 to R130, R218). -/

namespace Sys2Proof.Machine

/-! ## Causes (R125, R126) -/

theorem latches_iff (c : HoldCauses) : c.latches = true ↔ c.kinds ≠ 0 ∨ c.degraded = true ∨ c.watches ≠ [] := by
  simp [HoldCauses.latches, or_assoc]

theorem any_iff (c : HoldCauses) : c.any = true ↔ c.kinds ≠ 0 ∨ c.degraded = true ∨ c.watches ≠ [] ∨ c.deck = true
    ∨ c.ballast = true ∨ c.start = true := by
  simp [HoldCauses.any, HoldCauses.latches, or_assoc]

/-- A cause is present: one that latches, the start hold, or a running timer of some link. -/
theorem causesOf_any_iff (s : State) (h : Line) : (s.causesOf h).any = true ↔ (s.causesOf h).latches = true
    ∨ (s.causesOf h).start = true ∨ ∃ l, ((s.holds.get h).timer l).isSome = true := by
  have timers : (∃ l, ((s.holds.get h).timer l).isSome = true)
      ↔ (s.causesOf h).deck = true ∨ (s.causesOf h).ballast = true := by
    refine ⟨fun ⟨l, runs⟩ => ?_, fun runs => runs.elim (fun deck => ⟨.deck, deck⟩) (fun ballast => ⟨.ballast, ballast⟩)⟩
    cases l with
    | planning => cases runs
    | deck => exact .inl runs
    | ballast => exact .inr runs
  simp only [HoldCauses.any, Bool.or_eq_true, timers]
  tauto

theorem latchedNext_iff (s : State) (h : Line) : s.latchedNext h = true ↔
    (s.lineCfg h).mode = .latch ∧ ((s.holds.get h).latched = true ∨ (s.causesOf h).latches = true) := by
  unfold State.latchedNext
  cases (s.lineCfg h).mode <;> simp

theorem assertedNext_iff (s : State) (h : Line) :
    s.assertedNext h = true ↔ (s.causesOf h).any = true ∨ s.latchedNext h = true := Bool.or_eq_true _ _ ▸ Iff.rfl

/-- A line that stands has the mark a recomputation would leave it. -/
theorem latchedNext_of_stands {s : State} {h : Line} (stands : s.lineStands h) :
    s.latchedNext h = (s.holds.get h).latched := by
  obtain ⟨-, follow, latch⟩ := stands
  unfold State.latchedNext
  cases mode : (s.lineCfg h).mode with
  | follow => exact (follow mode).symm
  | latch =>
    cases latches : (s.causesOf h).latches with
    | false => exact Bool.or_false _
    | true => rw [latch mode latches, Bool.true_or]

/-! ## Recomputing (R126, R127, R218) -/

theorem recompute_silent {h : Line} {s : State} (same : s.assertedNext h = (s.holds.get h).asserted) :
    recompute h s = setLine h s := if_pos same

theorem recompute_raises {h : Line} {s : State} (differs : s.assertedNext h ≠ (s.holds.get h).asserted) :
    recompute h s = raiseNotice forcedNone ((setLine h s).holdNotice h) (setLine h s) := if_neg differs

theorem setLine_get (h : Line) (s : State) : (setLine h s).holds.get h =
    { s.holds.get h with latched := s.latchedNext h, asserted := s.assertedNext h } := withRecord_get s h _

/-- Writing a line's record as recomputed changes none of its causes. -/
theorem setLine_causesOf (h : Line) (s : State) : (setLine h s).causesOf h = s.causesOf h :=
  withRecord_causesOf (r := { s.holds.get h with latched := s.latchedNext h, asserted := s.assertedNext h }) rfl rfl

/-- The notice of a changed line, at a link that selects HOLD. -/
theorem recompute_hold_slot {h : Line} {s : State} (differs : s.assertedNext h ≠ (s.holds.get h).asserted) {l : Link}
    (selected : (s.lius.get l).selection.getLsbD 1 = true) : ((recompute h s).lius.get l).slots.hold = some (.hold
      { line := h, mode := (s.lineCfg h).mode, asserted := s.assertedNext h, latched := s.latchedNext h
        causes := s.causesOf h, serial := s.serial }) := by
  have notice : (setLine h s).holdNotice h = .hold
      { line := h, mode := (s.lineCfg h).mode, asserted := s.assertedNext h, latched := s.latchedNext h
        causes := s.causesOf h, serial := s.serial } := by
    unfold State.holdNotice
    rw [setLine_get, setLine_causesOf, lineCfg_congr (s := s) rfl]
    rfl
  rw [recompute_raises differs, raiseNotice_get, notice, if_pos]
  · rfl
  · exact selected

/-- Settles O34: by the record, the links and the frame of a recomputation. -/
theorem recomputingALine : Obligations.RecomputingALine := by
  unfold Obligations.RecomputingALine
  intro h s c r latched asserted
  have mark : s.latchedNext h = true ↔ latched := by rw [latchedNext_iff, latches_iff]
  have out : s.assertedNext h = true ↔ asserted := by
    rw [assertedNext_iff, mark, or_comm, any_iff]
  have conducts : ((recompute h s).holds.get h).conducts = true ↔ ¬ asserted := by
    rw [recompute_conducts, Bool.not_eq_true', ← Bool.not_eq_true, out]
  simp only [recompute_get]
  refine ⟨mark, out, by simpa using conducts, fun l => by cases l <;> rfl, fun h' ne => recompute_get_other s ne,
    recompute_only h s, fun same => ?_, fun differs l selected => recompute_hold_slot differs selected⟩
  rw [recompute_silent same]
  rfl

/-! ## HOLD-ACK (R128) -/

@[simp] theorem PerLine.set_set {α : Type} (p : PerLine α) (h : Line) (v w : α) : (p.set h v).set h w = p.set h w := by
  cases h <;> rfl

section

variable {t : Nat} {h : Line} {s : State}

theorem holdAckAct_unlatched (l : Link) (off : (s.holds.get h).latched = false) :
    holdAckAct l h s = (s, .answer .done []) := if_pos (by simp [off])

theorem holdAckAct_active (l : Link) (on : (s.holds.get h).latched = true) (active : (s.causesOf h).latches = true) :
    holdAckAct l h s = (s, .answer .stillActive []) := by
  unfold holdAckAct
  rw [if_neg (by simp [on]), if_pos active]

/-- The state in which HOLD-ACK has cleared a line's mark and not recomputed it yet. -/
def State.unlatched (s : State) (h : Line) : State := s.withRecord h { s.holds.get h with latched := false }

/-- Once the mark is cleared and no cause sets it again, only a timed hold or the start hold keeps the line asserted. -/
theorem recompute_unlatched_holds (quiet : (s.causesOf h).latches = false) :
    (recompute h (s.unlatched h)).holds = s.holds.set h { s.holds.get h with
      latched := false, asserted := (s.causesOf h).deck || (s.causesOf h).ballast || (s.causesOf h).start } := by
  have record : (s.unlatched h).holds.get h = { s.holds.get h with latched := false } := withRecord_get _ _ _
  have causes : (s.unlatched h).causesOf h = s.causesOf h := withRecord_causesOf rfl rfl
  have mark : (s.unlatched h).latchedNext h = false := by
    rw [← Bool.not_eq_true, latchedNext_iff, record, causes, quiet]
    simp
  have out : (s.unlatched h).assertedNext h =
      ((s.causesOf h).deck || (s.causesOf h).ballast || (s.causesOf h).start) := by
    simp [State.assertedNext, mark, causes, HoldCauses.any, quiet]
  rw [recompute_holds]
  unfold setLine
  rw [record, mark, out]
  exact PerLine.set_set _ _ _ _

theorem holdAckAct_quiet (l : Link) (on : (s.holds.get h).latched = true) (quiet : (s.causesOf h).latches = false) :
    holdAckAct l h s = (recompute h (s.unlatched h), .answer .done []) := by
  unfold holdAckAct
  rw [if_neg (by simp [on]), if_neg (by simp [quiet])]
  rfl

theorem holdAck_answered {m : InMsg} {s' : State} {code : Code} {body : List Byte}
    (taken : Taken 17 (readEnum allLines) .deck m h s)
    (does : holdAckAct .deck h (handed t .deck s) = (s', .answer code body)) :
    exec (.holdAck t .deck) s = .next (answered .deck 17 m code body s') :=
  congrArg Host.Outcome.next (request_answered taken rfl does)

end

/-- Settles O32: by the mark of the line and the causes present. -/
theorem holdAckJudgesTheCauses : Obligations.HoldAckJudgesTheCauses := by
  unfold Obligations.HoldAckJudgesTheCauses
  intro t s m h taken c active
  refine ⟨fun off => holdAck_answered taken (holdAckAct_unlatched _ off),
    fun on present => holdAck_answered taken (holdAckAct_active _ on ((latches_iff c).mpr present)), fun on none => ?_⟩
  have quiet : c.latches = false := Bool.eq_false_iff.mpr (mt (latches_iff c).mp none)
  refine ⟨_, holdAck_answered taken (holdAckAct_quiet .deck on quiet), ?_⟩
  have holds := recompute_unlatched_holds (s := handed t .deck s) quiet
  exact (recompute_only h _).trans (by rw [holds]; rfl)

/-! ## Timers (R129, R130) -/

section

variable {t n : Nat} {l : Link} {h : Line} {timer : Option Nat} {r : HoldLine} {s : State}

theorem timer_setTimer (own : l = .deck ∨ l = .ballast) : (r.setTimer l timer).timer l = timer := by
  rcases own with rfl | rfl <;> rfl

theorem timer_setTimer_other {l' : Link} (other : l' ≠ l) : (r.setTimer l timer).timer l' = r.timer l' := by
  cases l with
  | planning => rfl
  | deck =>
    cases l' with
    | deck => exact absurd rfl other
    | planning | ballast => rfl
  | ballast =>
    cases l' with
    | ballast => exact absurd rfl other
    | planning | deck => rfl

theorem timer_setTimer_none : (r.setTimer l none).timer l = none := by
  cases l <;> rfl

/-- With one link's timer stopped, a timer runs exactly where another link's did. -/
theorem timer_runs_setTimer_none : (∃ l', ((r.setTimer l none).timer l').isSome = true) ↔
    ∃ l', l' ≠ l ∧ (r.timer l').isSome = true := by
  refine exists_congr fun l' => ?_
  by_cases same : l' = l
  · subst same
    simp [timer_setTimer_none]
  · simp [timer_setTimer_other same, same]

/-- The state in which a line is recomputed after its timer was written. -/
def State.withTimer (s : State) (l : Link) (h : Line) (timer : Option Nat) : State :=
  s.withRecord h ((s.holds.get h).setTimer l timer)

theorem setHoldTimer_eq (s : State) (l : Link) (h : Line) (timer : Option Nat) :
    setHoldTimer l h timer s = recompute h (s.withTimer l h timer) := rfl

theorem withTimer_get : (s.withTimer l h timer).holds.get h = (s.holds.get h).setTimer l timer := withRecord_get _ _ _

/-- A timer is neither a cause that latches nor the start hold. -/
theorem withTimer_causes : ((s.withTimer l h timer).causesOf h).latches = (s.causesOf h).latches
    ∧ ((s.withTimer l h timer).causesOf h).start = (s.causesOf h).start := ⟨rfl, rfl⟩

theorem setTimer_latched : (r.setTimer l timer).latched = r.latched := by
  cases l <;> rfl

theorem withTimer_latchedNext : (s.withTimer l h timer).latchedNext h = s.latchedNext h := by
  have mark : ((s.withTimer l h timer).holds.get h).latched = (s.holds.get h).latched := by
    rw [withTimer_get, setTimer_latched]
  rw [Bool.eq_iff_iff, latchedNext_iff, latchedNext_iff, mark, withTimer_causes.1]
  rfl

theorem setHoldTimer_only : setHoldTimer l h timer s = { s with
    holds := (setHoldTimer l h timer s).holds, lius := (setHoldTimer l h timer s).lius } := by
  rw [setHoldTimer_eq, recompute_only]
  rfl

theorem setHoldTimer_get_other {h' : Line} (other : h' ≠ h) :
    (setHoldTimer l h timer s).holds.get h' = s.holds.get h' := by
  rw [setHoldTimer_eq, recompute_get_other _ other]
  exact withRecord_get_other _ _ other

/-- Every timer of the line is as it was written, whatever the recomputation makes of the line. -/
theorem setHoldTimer_timer (l' : Link) :
    ((setHoldTimer l h timer s).holds.get h).timer l' = ((s.holds.get h).setTimer l timer).timer l' := by
  rw [setHoldTimer_eq, recompute_get, withTimer_get]
  cases l' <;> rfl

theorem setHoldTimer_timer_other {h' : Line} {l' : Link} (other : (h', l') ≠ (h, l)) :
    ((setHoldTimer l h timer s).holds.get h').timer l' = (s.holds.get h').timer l' := by
  by_cases line : h' = h
  · subst line
    rw [setHoldTimer_timer, timer_setTimer_other fun link => other (by rw [link])]
  · rw [setHoldTimer_get_other line]

theorem setHoldTimer_latched (stands : s.lineStands h) :
    ((setHoldTimer l h timer s).holds.get h).latched = (s.holds.get h).latched := by
  rw [setHoldTimer_eq, recompute_get]
  exact withTimer_latchedNext.trans (latchedNext_of_stands stands)

theorem setHoldTimer_asserted : ((setHoldTimer l h timer s).holds.get h).asserted = true ↔
    ((s.causesOf h).latches = true ∨ (s.causesOf h).start = true
      ∨ ∃ l', (((s.holds.get h).setTimer l timer).timer l').isSome = true) ∨ s.latchedNext h = true := by
  rw [setHoldTimer_eq, recompute_get]
  change (s.withTimer l h timer).assertedNext h = true ↔ _
  rw [assertedNext_iff, causesOf_any_iff, withTimer_latchedNext, withTimer_get, withTimer_causes.1, withTimer_causes.2]

/-- A line with a running timer is asserted. -/
theorem setHoldTimer_asserted_running {e : Nat} (own : l = .deck ∨ l = .ballast) :
    ((setHoldTimer l h (some e) s).holds.get h).asserted = true :=
  setHoldTimer_asserted.mpr (.inl (.inr (.inr ⟨l, by rw [timer_setTimer own]; rfl⟩)))

/-- A line with a timer stopped is asserted where its mark is set or a cause is left. -/
theorem setHoldTimer_asserted_stopped (stands : s.lineStands h) :
    ((setHoldTimer l h none s).holds.get h).asserted = true ↔ (s.holds.get h).latched = true
      ∨ (s.causesOf h).latches = true ∨ (s.causesOf h).start = true
      ∨ ∃ l', l' ≠ l ∧ ((s.holds.get h).timer l').isSome = true := by
  rw [setHoldTimer_asserted, latchedNext_of_stands stands, timer_runs_setTimer_none, or_comm]

/-! ## TIMED-HOLD (R129) -/

theorem timedHoldAct_range (l : Link) (h : Line) (above : 600 < n) :
    timedHoldAct l (h, n) s = (s, .answer .refusedRange []) := if_pos above

theorem timedHoldAct_stopped (stopped : (s.holds.get h).timer l = none) :
    timedHoldAct l (h, 0) s = (s, .answer .done (be 1 (lineNum h) ++ be 4 0)) := by
  simp [timedHoldAct, stopped, timeLeft]

/-- The timer TIMED-HOLD leaves on the line of its link. -/
def heldUntil (n now : Nat) : Option Nat := if n = 0 then none else some (now + 1000 * n)

theorem timedHoldAct_held (own : l = .deck ∨ l = .ballast) (inside : n ≤ 600)
    (acts : n ≠ 0 ∨ ((s.holds.get h).timer l).isSome = true) : timedHoldAct l (h, n) s =
      (setHoldTimer l h (heldUntil n s.now) s, .answer .done (be 1 (lineNum h) ++ be 4 (1000 * n))) := by
  have left (timer : Option Nat) : timeLeft (((setHoldTimer l h timer s).holds.get h).timer l)
      (setHoldTimer l h timer s).now = timeLeft timer s.now := by
    rw [setHoldTimer_timer, timer_setTimer own, setHoldTimer_only]
  unfold timedHoldAct heldUntil
  dsimp only
  rw [if_neg (not_lt.mpr inside)]
  by_cases zero : n = 0
  · subst zero
    rw [if_pos rfl, if_pos rfl, if_pos (acts.resolve_left (not_not.mpr rfl)), left]
    rfl
  · rw [if_neg zero, if_neg zero, left]
    simp [timeLeft]

theorem timedHold_answered {m : InMsg} {s' : State} {code : Code} {body : List Byte}
    (taken : Taken 18 readTimedHold l m (h, n) s) (own : l = .deck ∨ l = .ballast)
    (does : timedHoldAct l (h, n) (handed t l s) = (s', .answer code body)) :
    exec (.timedHold t l) s = .next (answered l 18 m code body s') := by
  have right : decide (l ≠ .planning) = true := by rcases own with rfl | rfl <;> rfl
  exact congrArg Host.Outcome.next (request_answered taken right does)

/-! ## Expiry (R130) -/

/-- The end of an event that moved the lines and the links alone. -/
theorem settle_only_lines {s s' : State} (only : s' = { s with holds := s'.holds, lius := s'.lius }) :
    settle s' = { s with holds := (settle s').holds, lius := (settle s').lius } := by
  rw [only]
  rfl

theorem timedHoldExpiry_due {e : Nat} (running : (s.holds.get h).timer l = some e) (due : e ≤ max s.now t) :
    exec (.timedHoldExpiry t l h) s = .next (settle (setHoldTimer l h none (atTime t s))) :=
  congrArg Host.Outcome.next (if_pos ((expired_iff t s _).mpr ⟨e, running, due⟩))

theorem timedHoldExpiry_early {e : Nat} (running : (s.holds.get h).timer l = some e) (early : max s.now t < e) :
    exec (.timedHoldExpiry t l h) s = .next s := by
  refine congrArg Host.Outcome.next (if_neg fun due => ?_)
  obtain ⟨e', same, reached⟩ := (expired_iff t s _).mp due
  cases running.symm.trans same
  exact absurd reached (not_le.mpr early)

end

/-- Settles O33: by the seconds named and the link's timer; the expiry by its time. -/
theorem timedHoldsRunAndExpire : Obligations.TimedHoldsRunAndExpire := by
  unfold Obligations.TimedHoldsRunAndExpire
  refine ⟨fun t l s m h n taken own => ⟨fun above => ?_, fun zero stopped => ?_, fun inside acts => ?_⟩,
    fun t l h e s running stand => ⟨timedHoldExpiry_early running, fun due => ?_⟩⟩
  · exact timedHold_answered taken own (timedHoldAct_range l h above)
  · subst zero
    exact timedHold_answered taken own (timedHoldAct_stopped stopped)
  · have stands (stand : s.linesStand) : (handed t l s).lineStands h :=
      (lineStands_of_view (handed_lineView t l s) h).mpr (stand.1 h)
    refine ⟨setHoldTimer l h (heldUntil n (max s.now t)) (handed t l s),
      timedHold_answered taken own (timedHoldAct_held own inside acts), ?_, fun h' l' => setHoldTimer_timer_other,
      fun h' => setHoldTimer_get_other, fun some => ?_, fun stand => setHoldTimer_latched (stands stand),
      fun zero stand => ?_, setHoldTimer_only⟩
    · rw [setHoldTimer_timer, timer_setTimer own]
      rfl
    · unfold heldUntil
      rw [if_neg some]
      exact setHoldTimer_asserted_running own
    · subst zero
      exact setHoldTimer_asserted_stopped (stands stand)
  · have stands : (atTime t s).lineStands h := (lineStands_of_view (atTime_lineView t s) h).mpr (stand.1 h)
    refine ⟨_, timedHoldExpiry_due running due, ?_, setHoldTimer_latched stands, setHoldTimer_asserted_stopped stands,
      fun h' => setHoldTimer_get_other, ?_⟩
    · rw [settle_holds, setHoldTimer_timer, timer_setTimer_none]
    · exact settle_only_lines setHoldTimer_only

end Sys2Proof.Machine

/-! PROOF. The margin of each criterion of a result, the state a publication gives it, the level of a verdict, and what
READ-VERDICT answers (R109 to R114, R118, R121, R122). -/

namespace Sys2Proof.Machine

/-! ## The level (R118) -/

theorem worse_eq_over_iff (a b : Level) : a.worse b = .over ↔ a = .over ∨ b = .over := by
  cases a <;> cases b <;> decide

theorem worse_eq_ok_iff (a b : Level) : a.worse b = .ok ↔ a = .ok ∧ b = .ok := by
  cases a <;> cases b <;> decide

theorem level_eq_over_iff (c : CritState) : c.level = .over ↔ c = .over := by
  cases c <;> decide

theorem level_eq_ok_iff (c : CritState) : c.level = .ok ↔ c = .off ∨ c = .ok := by
  cases c <;> decide

/-- The worst of a level and the states that follow is OVER where one of them is. -/
theorem foldl_worse_eq_over_iff (cs : List CritState) (w : Level) :
    cs.foldl (fun w c => w.worse c.level) w = .over ↔ w = .over ∨ .over ∈ cs := by
  induction cs generalizing w with
  | nil => simp
  | cons c cs ih =>
    rw [List.foldl_cons, ih, worse_eq_over_iff, level_eq_over_iff, List.mem_cons, or_assoc, eq_comm (a := c)]

/-- It is OK where every one of them is OFF or OK. -/
theorem foldl_worse_eq_ok_iff (cs : List CritState) (w : Level) :
    cs.foldl (fun w c => w.worse c.level) w = .ok ↔ w = .ok ∧ ∀ c ∈ cs, c = .off ∨ c = .ok := by
  induction cs generalizing w with
  | nil => simp
  | cons c cs ih => rw [List.foldl_cons, ih, worse_eq_ok_iff, level_eq_ok_iff, List.forall_mem_cons, and_assoc]

theorem verdict_level_over_iff (v : Verdict) : v.level = .over ↔ ∃ e ∈ v.entries, e.state = .over := by
  unfold Verdict.level worstLevel
  rw [foldl_worse_eq_over_iff]
  simp

theorem verdict_level_ok_iff (v : Verdict) : v.level = .ok ↔ ∀ e ∈ v.entries, e.state = .off ∨ e.state = .ok := by
  unfold Verdict.level worstLevel
  rw [foldl_worse_eq_ok_iff]
  simp

/-- NEAR is what is neither OVER nor OK. -/
theorem verdict_level_near_iff (v : Verdict) :
    v.level = .near ↔ (∃ e ∈ v.entries, e.state = .near) ∧ ∀ e ∈ v.entries, e.state ≠ .over := by
  have between : v.level = .near ↔ ¬ v.level = .over ∧ ¬ v.level = .ok := by cases v.level <;> decide
  rw [between, verdict_level_over_iff, verdict_level_ok_iff]
  push Not
  constructor
  · rintro ⟨notOver, e, mem, notOff, notOk⟩
    refine ⟨⟨e, mem, ?_⟩, notOver⟩
    cases state : e.state
    · exact absurd state notOff
    · exact absurd state notOk
    · rfl
    · exact absurd state (notOver e mem)
  · rintro ⟨⟨e, mem, near⟩, notOver⟩
    exact ⟨notOver, e, mem, by simp [near]⟩

/-- Settles O52: by the worst of the states, folded in order. -/
theorem levelIsTheWorstState : Obligations.LevelIsTheWorstState := by
  unfold Obligations.LevelIsTheWorstState
  intro v
  refine ⟨verdict_level_over_iff v, verdict_level_near_iff v, verdict_level_ok_iff v, fun v' same => ?_⟩
  unfold Verdict.level
  rw [same]

/-! ## Margins (R109 to R112) -/

theorem absInt_eq (v : Int) : absInt v = |v| := (Int.abs_eq_natAbs v).symm

theorem absDiff_eq (a b : Int) : absDiff a b = |a - b| := (Int.abs_eq_natAbs (a - b)).symm

theorem limits_eq (s6 : Sec6) (m : Mode) : s6.limits m = if m = .harbour then s6.harbour else s6.sea := by
  cases m <;> rfl

/-- Of criteria of one kind, those of a kind are all or none. -/
theorem filter_kind {js : List Judged} {k : CritKind} (all : ∀ j ∈ js, j.kind = k) (k' : CritKind) :
    js.filter (fun j => j.kind == k') = if k = k' then js else [] := by
  split
  next same => exact List.filter_eq_self.mpr fun j mem => by rw [all j mem, same, beq_self_eq_true]
  next other =>
    refine List.filter_eq_nil_iff.mpr fun j mem => ?_
    rw [all j mem, beq_iff_eq]
    exact other

theorem judgeShear_kind (lim : LimitSet) (r : Result) : ∀ j ∈ judgeShear lim r, j.kind = .shear :=
  List.forall_mem_map.mpr fun _ _ => rfl

theorem judgeBending_kind (lim : LimitSet) (r : Result) : ∀ j ∈ judgeBending lim r, j.kind = .bending :=
  List.forall_mem_map.mpr fun _ _ => rfl

theorem judgeSpaces_kind (h : Hull) (r : Result) : ∀ j ∈ judgeSpaces h r, j.kind = .space :=
  List.forall_mem_map.mpr fun _ _ => rfl

theorem judgeCranes_kind (h : Hull) (r : Result) : ∀ j ∈ judgeCranes h r, j.kind = .crane :=
  List.forall_mem_map.mpr fun _ _ => rfl

theorem judgeAgreement_kind (lim : LimitSet) (r : Result) : ∀ j ∈ judgeAgreement lim r, j.kind = .agreement :=
  List.forall_mem_singleton.mpr rfl

/-- The criteria of one kind, group by group in the order of R107. -/
theorem judge_filter (h : Hull) (r : Result) (k : CritKind) : (judge h r).filter (fun j => j.kind == k) =
    (judgeSingles h (h.s6.limits r.mode) r).filter (fun j => j.kind == k)
      ++ (if .shear = k then judgeShear (h.s6.limits r.mode) r else [])
      ++ (if .bending = k then judgeBending (h.s6.limits r.mode) r else [])
      ++ (if .space = k then judgeSpaces h r else [])
      ++ (if .crane = k then judgeCranes h r else [])
      ++ (if .agreement = k then judgeAgreement (h.s6.limits r.mode) r else []) := by
  unfold judge
  simp only [List.filter_append, filter_kind (judgeShear_kind _ r), filter_kind (judgeBending_kind _ r),
    filter_kind (judgeSpaces_kind h r), filter_kind (judgeCranes_kind h r), filter_kind (judgeAgreement_kind _ r)]

section

variable {h : Hull} {lim : LimitSet} {r : Result} {k : Nat}

/-- SHEAR and BENDING of a station that has its limits and its forces (R110). -/
theorem judgeStations_getElem? {l : StationLimits} {f : Strength} (limit : lim.stations[k]? = some l)
    (force : r.strength[k]? = some f) :
    (judgeShear lim r)[k]? = some (.plain .shear k (l.shear - |f.sf|))
      ∧ (judgeBending lim r)[k]? = some (.plain .bending k (min (l.hog - f.bm) (f.bm + l.sag))) := by
  have both : (lim.stations.zip r.strength)[k]? = some (l, f) := List.getElem?_zip_eq_some.mpr ⟨limit, force⟩
  unfold judgeShear judgeBending
  rw [List.getElem?_map, List.getElem?_map, numbered_getElem?, both, Nat.zero_add]
  simp only [absInt_eq]
  exact ⟨rfl, rfl⟩

/-- SPACE of a space record that has its load (R110). -/
theorem judgeSpaces_getElem? {p : SpaceRec} {load : Int} (space : h.s3[k]? = some p)
    (loaded : r.spaces[k]? = some load) :
    (judgeSpaces h r)[k]? = some (.plain .space p.id (p.maxMass - load)) := by
  have both : (h.s3.zip r.spaces)[k]? = some (p, load) := List.getElem?_zip_eq_some.mpr ⟨space, loaded⟩
  unfold judgeSpaces
  rw [List.getElem?_map, both]
  rfl

/-- The CRANE criterion of a crane at an SWL (R111, R115). -/
def craneJudged (k : Nat) (c : CraneFigures) (swl : Int) : Judged :=
  { kind := .crane, index := k + 1, margin := some (swl - c.net), forced := false, degraded := c.degraded }

theorem judgeCranes_getElem? {rec : CraneRec} {c : CraneFigures} (crane : h.s5[k]? = some rec)
    (figures : r.cranes[k]? = some c) :
    (judgeCranes h r)[k]? = some (craneJudged k c (swlAt rec.swl (c.l * c.l + c.t * c.t))) := by
  have both : (h.s5.zip r.cranes)[k]? = some (rec, c) := List.getElem?_zip_eq_some.mpr ⟨crane, figures⟩
  unfold judgeCranes
  rw [List.getElem?_map, numbered_getElem?, both, Nat.add_comm]
  rfl

end

/-- Beyond its table a crane has SWL 0 (R111). -/
theorem swlAt_beyond {points : List SwlPoint} {r2 : Int} (beyond : ∀ p ∈ points, ¬ r2 ≤ p.radius * p.radius) :
    swlAt points r2 = 0 := by
  unfold swlAt
  rw [List.find?_eq_none.mpr (by simpa using beyond)]

/-- The SWL is that of the first point far enough out (R111). -/
theorem swlAt_first {before after : List SwlPoint} {p : SwlPoint} {r2 : Int}
    (nearer : ∀ x ∈ before, ¬ r2 ≤ x.radius * x.radius) (far : r2 ≤ p.radius * p.radius) :
    swlAt (before ++ p :: after) r2 = p.swl := by
  unfold swlAt
  rw [List.find?_append, List.find?_eq_none.mpr (by simpa using nearer), List.find?_cons_of_pos (by simpa using far)]
  rfl

/-! ## States (R113, R114) -/

section

variable {b : Band} {prev : CritState} {forced : Bool} {m : Int}

theorem nextState_over (beyond : forced = true ∨ m < 0) : nextState b prev forced m = .over :=
  if_pos (by simpa using beyond)

theorem nextState_unrecovered (free : forced = false) (inside : 0 ≤ m) (was : prev = .over) (short : m < b.r) :
    nextState b prev forced m = .over := by
  unfold nextState
  rw [if_neg (by simp [free, inside]), if_pos ⟨was, short⟩]

theorem nextState_recovered (free : forced = false) (inside : 0 ≤ m) (recovered : prev ≠ .over ∨ b.r ≤ m) :
    nextState b prev forced m = if m ≤ b.n then .near else .ok := by
  unfold nextState
  rw [if_neg (by simp [free, inside]), if_neg]
  rintro ⟨was, short⟩
  exact recovered.elim (absurd was) (not_le.mpr short)

/-- A criterion that was OFF is judged as one that was OK (R112). -/
theorem nextState_off : nextState b .off forced m = nextState b .ok forced m := by
  simp [nextState]

end

/-- Settles O51: the criteria kind by kind, the tests of R113 in order, and an entry by whether it has a margin. -/
theorem criterionStatesFollowTheMargin : Obligations.CriterionStatesFollowTheMargin := by
  unfold Obligations.CriterionStatesFollowTheMargin
  refine ⟨fun h r => ?margins, fun b prev forced m _ _ =>
    ⟨nextState_over, nextState_unrecovered, nextState_recovered, nextState_off⟩, fun e b j => ⟨?some, ?none⟩⟩
  case some =>
    intro m margin
    unfold CritEntry.publish
    rw [margin]
  case none =>
    intro margin
    unfold CritEntry.publish
    rw [margin]
  case margins =>
    intro lim of plain
    have limits : h.s6.limits r.mode = lim := limits_eq h.s6 r.mode
    have kinds (k : CritKind) := judge_filter h r k
    rw [limits] at kinds
    have shear : of .shear = judgeShear lim r := by simpa [judgeSingles, Judged.plain] using kinds .shear
    have bending : of .bending = judgeBending lim r := by simpa [judgeSingles, Judged.plain] using kinds .bending
    have space : of .space = judgeSpaces h r := by simpa [judgeSingles, Judged.plain] using kinds .space
    have crane : of .crane = judgeCranes h r := by simpa [judgeSingles, Judged.plain] using kinds .crane
    refine ⟨?_, ?_, ?_, ?_, ?_, ?_, ?_, fun k l f limit force => ?_, fun k p load rec loaded => ?_,
      fun k rec c record figures => ?_⟩
    · simpa [judgeSingles, Judged.plain] using kinds .gm
    · simpa [judgeSingles, Judged.plain, absInt_eq] using kinds .heel
    · simpa [judgeSingles, Judged.plain, absInt_eq] using kinds .release
    · simpa [judgeSingles, Judged.plain] using kinds .trim
    · simpa [judgeSingles, Judged.plain] using kinds .draught
    · have flag : (r.flag != .none) = !decide (r.flag = .none) := by cases r.flag <;> rfl
      simpa [judgeSingles, Judged.plain, flag] using kinds .table
    · simpa [judgeSingles, Judged.plain, judgeAgreement, absDiff_eq] using kinds .agreement
    · rw [shear, bending]
      exact judgeStations_getElem? limit force
    · rw [space]
      exact judgeSpaces_getElem? rec loaded
    · intro far entry
      rw [crane, judgeCranes_getElem? record figures]
      refine ⟨fun beyond => ?_, fun before p after' table nearer reached => ?_⟩
      · rw [swlAt_beyond beyond]
        rfl
      · rw [table, swlAt_first nearer reached]
        rfl

/-! ## READ-VERDICT (R121, R122) -/

theorem readVerdict_answered {t : Nat} {l : Link} {m : InMsg} {q : VerdictPart} {s s' : State} {code : Code}
    {body : List Byte} (taken : Taken 20 readVerdictPart l m q s)
    (does : readVerdictAct l q (handed t l s) = (s', .answer code body)) :
    exec (.readVerdict t l) s = .next (answered l 20 m code body s') :=
  congrArg Host.Outcome.next (request_answered taken rfl does)

/-- Settles O17: by whether there is a verdict, and by the part read. -/
theorem readVerdictClearsTheMark : Obligations.ReadVerdictClearsTheMark := by
  unfold Obligations.ReadVerdictClearsTheMark
  intro t l s m q taken
  refine ⟨fun absent => readVerdict_answered taken ?_, fun v present => ⟨?summary, ?strength, ?criteria⟩⟩
  · unfold readVerdictAct
    rw [handed_verdict, absent]
    rfl
  all_goals have published : (handed t l s).verdict = some v := present
  case summary =>
    rintro rfl
    exact readVerdict_answered taken (by unfold readVerdictAct; rw [published])
  case strength =>
    rintro rfl
    exact readVerdict_answered taken (by unfold readVerdictAct; rw [published])
  case criteria =>
    rintro first n rfl
    exact readVerdict_answered taken (by unfold readVerdictAct; rw [published])

end Sys2Proof.Machine

/-! PROOF. What a publication leaves at each link, when it raises a VERDICT notice, and that a live evaluation's
completion is that one event (R84, R119 to R123). -/

namespace Sys2Proof.Machine

/-! ## Overruns and marks (R122) -/

/-- A notice counts replacements alone: marks and overruns stand. -/
theorem raiseNotice_overruns (forced : Link → Bool) (n : Notice) (s : State) (l : Link) :
    ((raiseNotice forced n s).lius.get l).mark = (s.lius.get l).mark
      ∧ ((raiseNotice forced n s).lius.get l).summary.overruns = (s.lius.get l).summary.overruns := by
  rw [raiseNotice_get]
  split
  · unfold Liu.write
    dsimp only
    split <;> exact ⟨rfl, rfl⟩
  · exact ⟨rfl, rfl⟩

theorem recompute_overruns (h : Line) (s : State) (l : Link) :
    ((recompute h s).lius.get l).mark = (s.lius.get l).mark
      ∧ ((recompute h s).lius.get l).summary.overruns = (s.lius.get l).summary.overruns := by
  unfold recompute
  split
  · exact ⟨rfl, rfl⟩
  · exact raiseNotice_overruns _ _ (setLine h s) l

theorem recomputeLines_overruns (hs : List Line) (s : State) (l : Link) :
    ((recomputeLines hs s).lius.get l).mark = (s.lius.get l).mark
      ∧ ((recomputeLines hs s).lius.get l).summary.overruns = (s.lius.get l).summary.overruns := by
  unfold recomputeLines
  induction hs generalizing s with
  | nil => exact ⟨rfl, rfl⟩
  | cons h hs ih =>
    rw [List.foldl_cons, (ih _).1, (ih _).2]
    exact recompute_overruns h s l

/-- A mark that was set counts an overrun (R122). -/
theorem markVerdict_overruns (u : Liu) (small : u.summary.overruns ≤ 255) : u.markVerdict.summary.overruns =
    if u.mark then min 255 (u.summary.overruns + 1) else u.summary.overruns := by
  unfold Liu.markVerdict
  dsimp only
  split
  · exact bump_eq_min small
  · rfl

/-- The lines and the marks of a publication: every mark is set, and one that was set counts an overrun. -/
theorem markAll_overruns (s : State) (l : Link) : ((markAll (recomputeAll s)).lius.get l).mark = true
    ∧ ((s.lius.get l).summary.overruns ≤ 255 → ((markAll (recomputeAll s)).lius.get l).summary.overruns =
      if (s.lius.get l).mark then min 255 ((s.lius.get l).summary.overruns + 1)
      else (s.lius.get l).summary.overruns) := by
  obtain ⟨mark, overruns⟩ := recomputeLines_overruns allLines s l
  rw [markAll_get, show recomputeAll s = recomputeLines allLines s from rfl]
  refine ⟨rfl, fun small => ?_⟩
  rw [markVerdict_overruns _ (overruns.trans_le small), mark, overruns]

/-- The state with a verdict published, before the lines and the links hear of it. -/
def State.withVerdict (s : State) (v : Verdict) : State :=
  { s with crit := v.entries, serial := v.serial, verdict := some v, published := true }

/-- What a publication leaves of a link's mark and overruns: its notice comes after the marks and moves neither. -/
theorem publish_overruns (h : Hull) (r : Result) (s : State) (l : Link) :
    ((publish h r s).lius.get l).mark = true ∧ ((s.lius.get l).summary.overruns ≤ 255 →
      ((publish h r s).lius.get l).summary.overruns =
        if (s.lius.get l).mark then min 255 ((s.lius.get l).summary.overruns + 1)
        else (s.lius.get l).summary.overruns) := by
  rw [publish_eq]
  extract_lets v s2
  have marked := markAll_overruns (s.withVerdict v) l
  split
  · obtain ⟨mark, overruns⟩ := raiseNotice_overruns forcedNone v.notice s2 l
    rw [mark, overruns]
    exact marked
  · exact marked

/-- The choice of the next message moves neither the mark nor the counters. -/
theorem settle_overruns (s : State) (l : Link) : ((settle s).lius.get l).mark = (s.lius.get l).mark
    ∧ ((settle s).lius.get l).summary.overruns = (s.lius.get l).summary.overruns := by
  rw [settle_get, Liu.settle_only]
  exact ⟨rfl, rfl⟩

/-! ## The VERDICT notice (R123) -/

theorem verdict_notice_eq (v : Verdict) : v.notice = .verdict
    { serial := v.serial, causes := v.ident.causes, version := v.ident.version, mode := v.figures.mode
      level := v.level, degraded := v.figures.degraded, nOver := v.overSet.length
      nNear := (v.inState .near).length, overEntries := v.overSet } := by
  unfold Verdict.notice Verdict.overSet
  rw [List.length_map]

/-- A publication is news as the first since RUN was entered, or where the level, the degraded mark or the entries OVER
differ from the verdict before. -/
theorem verdictNews_iff (s : State) (v : Verdict) : s.verdictNews v = true ↔
    s.published = false ∨ s.verdict = none ∨ ∃ old, s.verdict = some old ∧
      (old.level ≠ v.level ∨ old.figures.degraded ≠ v.figures.degraded ∨ old.overSet ≠ v.overSet) := by
  unfold State.verdictNews
  cases s.verdict with
  | none => simp
  | some old => simp [or_assoc]

/-! ## The completion (R84, R119) -/

/-- The state a result is published on: the reading taken, the Unit IDLE without its accumulators. -/
def State.idleAt (s : State) (t : Nat) : State := { atTime t s with unit := none }

theorem liveCompletion_publishes {t : Nat} {s : State} {sn : Snapshot}
    (computing : s.unit = some ⟨.live, sn, sn.accumulators⟩) :
    exec (.liveCompletion t) s = .next (settle (publish sn.hull (evaluate sn) (s.idleAt t))) := by
  change execLiveCompletion t s = _
  unfold execLiveCompletion
  rw [computing]
  rfl

/-- The verdict's identity is that of the snapshot (R117). -/
theorem verdictOf_ident (s : State) (sn : Snapshot) {i : LiveIdent} (live : sn.ident = some i) :
    (s.verdictOf sn.hull (evaluate sn)).ident = i := by
  change sn.ident.getD _ = i
  rw [live]
  rfl

/-- Settles O47: the completion is a publication, whose notice is raised by the test of R123. -/
theorem liveCompletionPublishes : Obligations.LiveCompletionPublishes := by
  unfold Obligations.LiveCompletionPublishes
  intro t s sn computing
  have field {α : Type} (f : State → α) := congrArg f (publish_only sn.hull (evaluate sn) (s.idleAt t))
  have links (l : Link) := publish_overruns sn.hull (evaluate sn) (s.idleAt t) l
  refine ⟨_, (s.idleAt t).verdictOf sn.hull (evaluate sn), liveCompletion_publishes computing,
    field State.unit, field State.verdict,
    field State.published, rfl, field State.serial, rfl, fun i => verdictOf_ident _ sn,
    field State.crit, rfl, fun h => ?stands, fun l => ?mark, fun l small => ?overruns,
    field State.live, field State.version, field State.ring, field State.look,
    field State.sched, field State.bank, field State.store, field State.owner,
    field State.trial, field State.sets, ?notice⟩
  case stands => exact (lineStands_of_view (settle_lineView _) h).mpr (publish_lineStands _ _ _ h)
  case mark => rw [(settle_overruns _ l).1, (links l).1]
  case overruns =>
    rw [(settle_overruns _ l).2]
    exact (links l).2 small
  case notice =>
    refine ⟨markAll (recomputeAll ((s.idleAt t).withVerdict ((s.idleAt t).verdictOf sn.hull (evaluate sn)))), ?_⟩
    intro overSet news
    have called := verdictNews_iff (s.idleAt t) ((s.idleAt t).verdictOf sn.hull (evaluate sn))
    refine ⟨markAll_link _, fun quiet => ?_, fun raised => ?_⟩
    · rw [publish_eq]
      dsimp only
      rw [if_neg (mt called.mp quiet)]
      rfl
    · rw [publish_eq]
      dsimp only
      rw [if_pos (called.mpr raised), verdict_notice_eq]
      rfl

end Sys2Proof.Machine

/-! PROOF. What EVALUATE-NOW and the periodic timer's expiry do to the live request (R134 to R136). -/

namespace Sys2Proof.Machine

/-! ## EVALUATE-NOW (R136) -/

section

variable {t : Nat} {l : Link} {m : InMsg} {s : State}

/-- Outside RUN a live request is lost (R134). -/
theorem raiseLive_lost (c : Cause) (other : s.device ≠ .run) : raiseLive c s = s := if_neg other

theorem evaluateNowAct_refused (other : s.device ≠ .run) :
    evaluateNowAct l () s = (s, .answer .refusedState []) := if_pos other

theorem evaluateNowAct_raises (run : s.device = .run) : evaluateNowAct l () s =
    ({ s with sched := { s.sched with livePending := true, causes := s.sched.causes ||| Cause.requested.bit } },
      .answer .done (be 2 s.expectedSerial)) := by
  unfold evaluateNowAct
  rw [if_neg (not_not.mpr run), raiseLive_run .requested run]

theorem evaluateNow_answered {s' : State} {code : Code} {body : List Byte} (taken : Taken 21 noFields l m () s)
    (does : evaluateNowAct l () (handed t l s) = (s', .answer code body)) :
    exec (.evaluateNow t l) s = .next (answered l 21 m code body s') :=
  congrArg Host.Outcome.next (request_answered taken rfl does)

/-! ## The periodic timer (R135) -/

/-- The state with the periodic timer stopped. -/
def State.periodicStopped (s : State) : State := { s with sched := { s.sched with periodic := none } }

theorem periodicTimerExpiry_due (due : expired t s s.sched.periodic = true) :
    exec (.periodicTimerExpiry t) s = .next (settle (raiseLive .periodic (atTime t s).periodicStopped)) :=
  congrArg Host.Outcome.next (if_pos due)

theorem periodicTimerExpiry_not_due (early : ¬ expired t s s.sched.periodic = true) :
    exec (.periodicTimerExpiry t) s = .next s :=
  congrArg Host.Outcome.next (if_neg early)

end

/-- Settles O45: EVALUATE-NOW by the device state, the periodic timer by its time. -/
theorem liveRequestsAreRaised : Obligations.LiveRequestsAreRaised := by
  unfold Obligations.LiveRequestsAreRaised
  refine ⟨fun t l s m taken => ⟨fun other => ?_, fun run => ?_⟩,
    fun t s => ⟨fun e running reached => ?_, fun idle => ?_⟩⟩
  · exact evaluateNow_answered taken (evaluateNowAct_refused other)
  · exact evaluateNow_answered taken (evaluateNowAct_raises (s := handed t l s) run)
  · have due := periodicTimerExpiry_due ((expired_iff t s _).mpr ⟨e, running, reached⟩)
    refine ⟨fun run => ?_, fun other => ?_⟩
    · rw [due, raiseLive_run (s := (atTime t s).periodicStopped) .periodic run]
      rfl
    · rw [due, raiseLive_lost (s := (atTime t s).periodicStopped) .periodic other]
      rfl
  · refine periodicTimerExpiry_not_due fun due => ?_
    obtain ⟨e, running, reached⟩ := (expired_iff t s _).mp due
    rcases idle with stopped | ⟨e', later, early⟩
    · cases stopped.symm.trans running
    · cases later.symm.trans running
      exact absurd reached (not_le.mpr early)

end Sys2Proof.Machine

/-! PROOF. What a live snapshot freezes of the channels: net loads and reaches, soundings and the observed heel (R76,
R77, R85). -/

namespace Sys2Proof.Machine

/-- A reading of the channel bound to a kind and target as a snapshot freezes it: held unless the channel is LIVE, 0 and
fresh where none is bound (R76, R77). -/
def frozenReading (chs : List Channel) (kind : ChanKind) (target : Nat) (reading : Int → Int) : Frozen :=
  match boundChannel chs kind target with
  | none => { value := 0, held := false, channel := none }
  | some (n, c) => { value := reading c.value, held := decide (c.state ≠ .live), channel := some n }

theorem notLive_eq (c : ChanState) : (c != .live) = decide (c ≠ .live) := by cases c <;> rfl

theorem freezeChannel_eq (chs : List Channel) (kind : ChanKind) (target : Nat) :
    freezeChannel chs kind target = frozenReading chs kind target id := by
  unfold freezeChannel frozenReading
  cases boundChannel chs kind target with
  | none => rfl
  | some c => simp only [notLive_eq, id]

theorem freezeNet_eq (chs : List Channel) (crane : Nat) (rec : CraneRec) :
    freezeNet chs crane rec = frozenReading chs .hook crane (fun v => max 0 (v - rec.tare)) := by
  unfold freezeNet frozenReading
  cases boundChannel chs .hook crane with
  | none => rfl
  | some c => simp only [notLive_eq, netLoad_eq_max]

theorem freezeCranes_length (chs : List Channel) (cranes : List CraneRec) :
    (freezeCranes chs cranes).length = cranes.length := by simp [freezeCranes]

theorem freezeCranes_getElem? (chs : List Channel) {cranes : List CraneRec} {k : Nat} {rec : CraneRec}
    (known : cranes[k]? = some rec) : (freezeCranes chs cranes)[k]? = some
      { net := frozenReading chs .hook (k + 1) (fun v => max 0 (v - rec.tare))
        l := frozenReading chs .reachL (k + 1) id, t := frozenReading chs .reachT (k + 1) id } := by
  unfold freezeCranes
  rw [List.getElem?_map, numbered_getElem?, known, Nat.add_comm]
  simp only [Option.map_some, freezeNet_eq, freezeChannel_eq]

theorem freezeSoundings_length (chs : List Channel) (a : Area) :
    (freezeSoundings chs a).length = a.tanks.length := by simp [freezeSoundings]

theorem freezeSoundings_getElem? (chs : List Channel) {a : Area} {k : Nat} {tank : TankState}
    (known : a.tanks[k]? = some tank) : (freezeSoundings chs a)[k]? = some
      (if tank.source = .gauged then some (frozenReading chs .sounding k id) else none) := by
  unfold freezeSoundings
  rw [List.getElem?_map, numbered_getElem?, known, Nat.zero_add]
  simp only [Option.map_some, freezeChannel_eq]

theorem freezeHeel_eq (chs : List Channel) : freezeHeel chs = match boundChannel chs .heel 0 with
    | none => none
    | some (_, c) => if c.cfg.enable = true then some (frozenReading chs .heel 0 id) else none := by
  unfold freezeHeel
  cases boundChannel chs .heel 0 with
  | none => rfl
  | some c => simp only [freezeChannel_eq]

end Sys2Proof.Machine

/-! PROOF. What a grant serves: live work over what a waiting ADOPT and the ready sets leave, then a self-check, then a
look-ahead run, which is started, continued or started again (R137, R138, R140 to R143). -/

namespace Sys2Proof.Machine

section

variable {t : Nat} {h : Hull} {s : State}

/-! ## Whether a grant is made (R137, R146) -/

theorem grant_noHull (none : s.hull = none) : exec (.grant t) s = .next s := by
  change execGrant t s = _
  unfold execGrant
  rw [none]

theorem grant_notFree (hull : s.hull = some h) (busy : s.unit.isSome = true ∨ s.sched.heldEnter = true) :
    exec (.grant t) s = .next s := by
  have denied : s.mayGrant = false := by
    unfold State.mayGrant
    rcases busy with computing | held
    · simp [← Option.not_isSome, computing]
    · simp [held]
  change execGrant t s = _
  unfold execGrant
  simp only [hull, denied, Bool.false_eq_true, if_false]

/-- With the Unit IDLE and no ENTER-CONFIG held, a grant ends in what the choice of work leaves. -/
theorem grant_chooses {s' : State} (hull : s.hull = some h) (idle : s.unit = none) (unheld : s.sched.heldEnter = false)
    (choice : grantChoice h (atTime t s) = s') : exec (.grant t) s = .next (settle s') := by
  have allowed : s.mayGrant = true := by simp [State.mayGrant, idle, unheld]
  change execGrant t s = _
  unfold execGrant
  simp only [hull, allowed, if_true, choice]

/-! ## Which work is chosen (R137) -/

/-- A run is to be started: none is in progress and one is wanted, or the base of the one in progress has moved (R143,
R163). -/
def State.runStarts (s : State) : Prop :=
  (s.sched.run = none ∧ s.lookWanted = true)
    ∨ ∃ r, s.sched.run = some r ∧ (r.base.version ≠ s.version ∨ r.base.seq ≠ s.ring.version)

theorem grantChoice_live (run : s.device = .run) (pending : s.sched.livePending = true) :
    grantChoice h s = grantLive h s := if_pos (by simp [run, pending])

theorem grantChoice_selfCheck (noLive : s.sched.livePending = false ∨ s.device ≠ .run)
    (waiting : s.sched.selfCheckWaiting = true) : grantChoice h s = grantSelfCheck h s := by
  unfold grantChoice
  rw [if_neg, if_pos waiting]
  rw [Bool.and_eq_true, beq_iff_eq]
  rintro ⟨pending, run⟩
  rcases noLive with none | other
  · exact absurd (none.symm.trans pending) Bool.false_ne_true
  · exact other run

/-- With no live work and no self-check, a run in progress is granted. -/
theorem grantChoice_run {r : Run} (noLive : s.sched.livePending = false) (noCheck : s.sched.selfCheckWaiting = false)
    (running : s.sched.run = some r) : grantChoice h s = continueRun h r s := by
  unfold grantChoice
  simp [noLive, noCheck, running]

/-- With no live work, no self-check and no run, a wanted look-ahead is granted. -/
theorem grantChoice_noRun (noLive : s.sched.livePending = false) (noCheck : s.sched.selfCheckWaiting = false)
    (noRun : s.sched.run = none) : grantChoice h s = if s.lookWanted then startRun h s else s := by
  unfold grantChoice
  simp [noLive, noCheck, noRun]

theorem grantChoice_starts (noLive : s.sched.livePending = false) (noCheck : s.sched.selfCheckWaiting = false)
    (starts : s.runStarts) : grantChoice h s = startRun h s := by
  rcases starts with ⟨noRun, wanted⟩ | ⟨r, running, moved⟩
  · rw [grantChoice_noRun noLive noCheck noRun, if_pos wanted]
  · rw [grantChoice_run noLive noCheck running]
    exact if_neg (not_and_or.mpr moved)

theorem grantChoice_continues {r : Run} {st : Stage} (noLive : s.sched.livePending = false)
    (noCheck : s.sched.selfCheckWaiting = false) (running : s.sched.run = some r) (version : r.base.version = s.version)
    (seq : r.base.seq = s.ring.version) (next : r.stages[r.next - 1]? = some st) :
    grantChoice h s = grantStage h r r.next st s := by
  rw [grantChoice_run noLive noCheck running]
  unfold continueRun
  rw [if_pos ⟨version, seq⟩, next]

theorem grantChoice_rests (noLive : s.sched.livePending = false) (noCheck : s.sched.selfCheckWaiting = false)
    (noRun : s.sched.run = none) (unwanted : s.lookWanted = false) : grantChoice h s = s := by
  rw [grantChoice_noRun noLive noCheck noRun, if_neg (by simp [unwanted])]

/-! ## Live work (R138) -/

/-- The state a live snapshot is taken of: the run suspended, a waiting ADOPT and the ready sets dealt with. -/
def State.handedOver (s : State) : State := applyReady (applyAdopt (suspendRun s))

theorem handedOver_only (s : State) : s.handedOver = { s with
    live := s.handedOver.live, ring := s.handedOver.ring, version := s.handedOver.version, sets := s.handedOver.sets
    owner := s.handedOver.owner, trial := s.handedOver.trial, lius := s.handedOver.lius, ready := []
    store := { s.store with waitingAdopt := false }, sched := (suspendRun s).sched } := by
  unfold State.handedOver
  rw [applyReady_only, applyAdopt_only]
  rfl

theorem handedOver_now (s : State) : s.handedOver.now = s.now := by rw [handedOver_only]
theorem handedOver_bank (s : State) : s.handedOver.bank = s.bank := by rw [handedOver_only]
theorem handedOver_sched (s : State) : s.handedOver.sched = (suspendRun s).sched := by rw [handedOver_only]

/-- Without a waiting ADOPT and ready sets, the snapshot is of the state with the run suspended. -/
theorem handedOver_idle (noSets : s.ready = []) (noAdopt : s.store.waitingAdopt = false) :
    s.handedOver = { suspendRun s with ready := [] } := by
  have unadopted : applyAdopt (suspendRun s) = suspendRun s := if_pos (by simp [suspendRun, noAdopt])
  have empty : (suspendRun s).ready = [] := noSets
  unfold State.handedOver applyReady
  rw [unadopted, empty]
  rfl

/-- The snapshot a live grant takes: LIVE as handed over, and the channels and causes as they stood (R76, R85). -/
def State.grantedSnapshot (s : State) (h : Hull) : Snapshot :=
  { source := .live, ident := some { version := s.handedOver.version, causes := s.sched.causes }
    area := s.handedOver.live, hull := h, cranes := freezeCranes s.bank.channels h.s5
    soundings := freezeSoundings s.bank.channels s.handedOver.live, heel := freezeHeel s.bank.channels }

theorem handedOver_liveSnapshot (h : Hull) (s : State) : s.handedOver.liveSnapshot h = s.grantedSnapshot h := by
  unfold State.liveSnapshot
  rw [handedOver_bank, handedOver_sched]
  rfl

/-- A live grant computes its snapshot, clears the pending mark with its causes, and starts the periodic timer anew. -/
theorem grantLive_takes (h : Hull) (s : State) : grantLive h s = { s.handedOver with
    unit := some (Computing.granted .live (s.grantedSnapshot h))
    sched := { (suspendRun s).sched with
      livePending := false, causes := 0, periodic := some (s.now + h.s7.period) } } := by
  rw [← handedOver_liveSnapshot, ← handedOver_sched, ← handedOver_now]
  rfl

/-! ## Starting a run (R141, R143, R164) -/

/-- The run that starts from LIVE and the ring as they stand, with its stages fixed and its first one due. -/
def State.freshRun (s : State) : Run :=
  { suspended := false, base := { version := s.version, seq := s.ring.version, serial := s.serial }
    stages := s.fixStages, next := 1, records := [], soundings := freezeSoundings s.bank.channels (baseArea s.live) }

theorem startRun_first {st : Stage} {rest : List Stage} (stages : s.fixStages = st :: rest) :
    startRun h s = grantStage h s.freshRun 1 st (setTrial .lookahead (baseArea s.live) s) := by
  unfold startRun State.freshRun
  simp only [stages]

theorem startRun_noStage (stages : s.fixStages = []) : startRun h s = completeRun s.freshRun.base [] s := by
  unfold startRun State.freshRun
  simp only [stages]

end

/-- Settles O46: by what is pending, and for a run by its base and its stages. -/
theorem grantsServeInTheirOrder : Obligations.GrantsServeInTheirOrder := by
  unfold Obligations.GrantsServeInTheirOrder
  refine ⟨fun t s => ⟨grant_noHull, fun h hull => ⟨grant_notFree hull, fun idle unheld run pending => ?live,
    fun idle unheld noLive waiting => ?selfCheck⟩⟩,
    fun t s h hull idle unheld noLive noCheck => ⟨fun st rest starts stages => ?first, fun starts stages => ?noStage,
      fun r st running version seq next => ?continues, fun noRun unwanted => ?rests⟩⟩
  case live =>
    intro after
    have left {α : Type} (f : State → α) := congrArg f (grantLive_eq h (atTime t s))
    have taken {α : Type} (f : State → α) := congrArg f (grantLive_takes h (atTime t s))
    have kept {α : Type} (f : State → α) := congrArg f (handedOver_only (atTime t s))
    refine ⟨settle (grantLive h (atTime t s)), (atTime t s).grantedSnapshot h,
      grant_chooses hull idle unheld (grantChoice_live run pending), taken State.unit,
      congrArg settle (grantLive_eq h _),
      left State.live, left State.ring, left State.version, left State.sets, left State.owner, left State.trial,
      rfl, (taken State.live).symm, rfl, ?ident, ?frozen, taken (·.sched.livePending), taken (·.sched.causes),
      taken (·.sched.periodic), taken (·.sched.run), kept State.ready, kept (·.store.waitingAdopt),
      fun noSets noAdopt => ?unchanged, kept State.bank, kept State.holds, kept State.verdict, kept State.serial⟩
    case ident => exact congrArg (fun v => some (LiveIdent.mk v s.sched.causes)) (taken State.version).symm
    case frozen =>
      exact ⟨freezeCranes_length _ _, fun k rec => freezeCranes_getElem? _, freezeSoundings_length _ _,
        fun k tank => freezeSoundings_getElem? _, freezeHeel_eq _⟩
    case unchanged =>
      have same := handedOver_idle (s := atTime t s) noSets noAdopt
      exact ⟨(congrArg State.live same :), (congrArg State.version same :)⟩
  case selfCheck =>
    refine ⟨_, grant_chooses hull idle unheld (grantChoice_selfCheck noLive waiting),
      rfl, rfl, rfl, rfl, rfl, rfl, List.length_map _, fun c mem => ?_⟩
    obtain ⟨_, _, rfl⟩ := List.mem_map.mp mem
    exact ⟨rfl, rfl, rfl⟩
  case first =>
    have choice := (grantChoice_starts (h := h) (s := atTime t s) noLive noCheck starts).trans (startRun_first stages)
    exact ⟨_, { s.freshRun with next := 2 }, _, grant_chooses hull idle unheld choice,
      rfl, rfl, rfl, rfl, rfl, rfl, rfl, rfl, rfl, rfl, stages, rfl, rfl, rfl, rfl, rfl⟩
  case noStage =>
    have field {α : Type} (f : State → α) := congrArg f (completeRun_only (atTime t s).freshRun.base [] (atTime t s))
    have choice := (grantChoice_starts (h := h) (s := atTime t s) noLive noCheck starts).trans (startRun_noStage stages)
    exact ⟨_, grant_chooses hull idle unheld choice,
      field State.owner, field State.trial, (field State.unit).trans idle, field State.sched, field State.look,
      field State.live, field State.version, field State.ring, field State.store⟩
  case continues =>
    exact ⟨_, _, grant_chooses hull idle unheld (grantChoice_continues noLive noCheck running version seq next),
      rfl, rfl, rfl, rfl, rfl, rfl⟩
  case rests => exact grant_chooses hull idle unheld (grantChoice_rests noLive noCheck noRun unwanted)

end Sys2Proof.Machine

/-! PROOF. What the operations of the ring do: marking entries, the finished heads that leave, and appending (R149, R151,
R155, R158 to R160). -/

namespace Sys2Proof.Machine

/-! ## Finished heads (R159) -/

/-- Whether an entry is finished: no longer PENDING. -/
def Step.finished (e : Step) : Bool := e.status != .pending

theorem finished_iff (e : Step) : e.finished = true ↔ e.status ≠ .pending := by
  simp [Step.finished]

theorem finishedHeads_eq (es : List Step) : finishedHeads es = (es.takeWhile Step.finished).length := by
  induction es with
  | nil => rfl
  | cons e es ih =>
    unfold finishedHeads
    by_cases pending : e.status = .pending <;> simp [List.takeWhile_cons, pending, Step.finished, ih]

theorem drop_finishedHeads (es : List Step) : es.drop (finishedHeads es) = es.dropWhile Step.finished := by
  induction es with
  | nil => rfl
  | cons e es ih =>
    unfold finishedHeads
    by_cases pending : e.status = .pending <;> simp [List.dropWhile_cons, pending, Step.finished, ih]

/-! ## Marking (R158 to R160) -/

/-- Whether marking changes an entry: it is PENDING and picked. -/
def Step.hit (picks : Step → Bool) (e : Step) : Bool := e.status == .pending && picks e

/-- The entries with those picked changed, before the finished heads leave. -/
def Ring.marked (r : Ring) (picks : Step → Bool) (f : Step → Step) : List Step :=
  r.entries.map fun e => if e.hit picks then f e else e

/-- The entries that leave at a marking: the finished heads of what it left. -/
def Ring.gone (r : Ring) (picks : Step → Bool) (f : Step → Step) : List Step :=
  (r.marked picks f).takeWhile Step.finished

theorem Ring.mark_eq (r : Ring) (picks : Step → Bool) (f : Step → Step) : r.mark picks f = { r with
    entries := (r.marked picks f).dropWhile Step.finished
    readIdx := (r.readIdx + (r.gone picks f).length) % 128
    version := r.version + BitVec.ofNat 32 ((r.entries.filter (Step.hit picks)).length + (r.gone picks f).length) } := by
  have heads : finishedHeads (r.marked picks f) = (r.gone picks f).length := finishedHeads_eq _
  have rest := drop_finishedHeads (r.marked picks f)
  rw [heads] at rest
  rw [BitVec.ofNat_add, ← BitVec.add_assoc, ← rest, ← heads]
  rfl

/-! ## Appending (R149, R151, R154) -/

/-- The entry a link's append makes. -/
def Ring.newStep (r : Ring) (l : Link) (w : StepWork) : Step :=
  { id := r.nextId, link := l, work := w, status := .pending, deviation := false }

theorem Ring.append_eq (r : Ring) (l : Link) (w : StepWork) : r.append l w =
    { r with entries := r.entries ++ [r.newStep l w], nextId := nextCount r.nextId, version := r.version + 1 } := rfl

/-- The entries a link may fill: the planning link leaves the guard free (R155). -/
def Ring.limit (r : Ring) (l : Link) : Nat := if l = .planning then 127 - r.guard else 127

theorem Ring.hasRoom_iff (r : Ring) (l : Link) : r.hasRoom l = true ↔ r.entries.length < r.limit l := by
  have free : r.free = 127 - r.entries.length := rfl
  unfold Ring.hasRoom Ring.limit
  rw [free]
  split
  · rw [decide_eq_true_iff]
    omega
  · rw [decide_eq_true_iff]
    omega

/-- Settles O28: what leaves are the finished heads of the entries as marked, and what stays begins with the first
PENDING one. -/
theorem finishedHeadsLeaveTheRing : Obligations.FinishedHeadsLeaveTheRing := by
  unfold Obligations.FinishedHeadsLeaveTheRing
  intro r picks f
  refine ⟨r.gone picks f, ?_⟩
  rw [Ring.mark_eq]
  refine ⟨List.takeWhile_append_dropWhile.symm, fun e mem => ?left, fun e rest stays => ?head, rfl, rfl, rfl, rfl, rfl⟩
  case left => exact (finished_iff e).mp (List.mem_takeWhile_imp mem)
  case head =>
    have unfinished := List.head?_dropWhile_not Step.finished (r.marked picks f)
    rw [show (r.marked picks f).dropWhile Step.finished = e :: rest from stays] at unfinished
    simpa [Step.finished] using unfinished

end Sys2Proof.Machine

/-! PROOF. What becomes of STEP-APPEND: its checks in their order, as statements, and the ring it joins (R153 to R155). -/

namespace Sys2Proof.Machine

/-! ## The checks of STEP-APPEND (R154) -/

/-- Whether all that a step names is held: the lot, the space and the crane, or the tank. -/
def StepWork.held (w : StepWork) (s : State) : Bool :=
  match w with
  | .lot id d c => (s.live.findLot id).isSome && d.known s.spaces && c.all fun c => (nth1 s.cranes c.crane).isSome
  | .ballast tank _ => s.tanks[tank]?.isSome

/-- Whether a step's place, reach and volume are in range. -/
def StepWork.inRange (w : StepWork) (s : State) : Bool :=
  match w with
  | .lot id d c => (s.live.findLot id).all (fun lot => d.fits s.spaces lot.half)
      && c.all fun c => reachRange c.l && reachRange c.t
  | .ballast tank v => s.tanks[tank]?.all fun r => within 0 r.capacity v

/-- The checks of R154 in their order. -/
theorem stepCheck_eq (l : Link) (w : StepWork) (s : State) : stepCheck l w s =
    if s.device ≠ .run then some .refusedState
    else if !w.held s then some .unknownItem
    else if !w.inRange s then some .refusedRange
    else if s.ring.entries.length < s.ring.limit l then none else some .full := by
  unfold stepCheck
  simp only [← Ring.hasRoom_iff]
  cases w with
  | lot id d c =>
    cases found : s.live.findLot id with
    | none => simp [StepWork.held, found]
    | some lot => cases d <;> cases c <;> simp [StepWork.held, StepWork.inRange, Dest.known, Dest.fits, found]
  | ballast tank v =>
    cases found : s.tanks[tank]? with
    | none => simp [StepWork.held, found]
    | some r => simp [StepWork.held, StepWork.inRange, found]

theorem held_lot_iff (id : Nat) (d : Dest) (c : Option StepCrane) (s : State) :
    (StepWork.lot id d c).held s = true ↔ ¬ (s.live.findLot id = none
      ∨ (∃ p, d = .aboard p ∧ spaceOf s.spaces p.space = none) ∨ ∃ k, c = some k ∧ nth1 s.cranes k.crane = none) := by
  have known : d.known s.spaces = true ↔ ¬ ∃ p, d = .aboard p ∧ spaceOf s.spaces p.space = none := by
    cases d <;> simp [Dest.known, Option.isSome_iff_ne_none]
  have crane : (c.all fun c => (nth1 s.cranes c.crane).isSome) = true ↔
      ¬ ∃ k, c = some k ∧ nth1 s.cranes k.crane = none := by
    cases c <;> simp [Option.isSome_iff_ne_none]
  unfold StepWork.held
  rw [Bool.and_eq_true, Bool.and_eq_true, known, crane, Option.isSome_iff_ne_none, not_or, not_or, and_assoc]

theorem held_ballast_iff (tank : Nat) (v : Int) (s : State) :
    (StepWork.ballast tank v).held s = true ↔ ¬ s.tanks[tank]? = none := Option.isSome_iff_ne_none

theorem inRange_lot_iff (id : Nat) (d : Dest) (c : Option StepCrane) (s : State) :
    (StepWork.lot id d c).inRange s = true ↔
      (∀ lot p, s.live.findLot id = some lot → d = .aboard p → fits s.spaces lot.half p = true)
        ∧ ∀ k, c = some k → -100000 ≤ k.l ∧ k.l ≤ 100000 ∧ -100000 ≤ k.t ∧ k.t ≤ 100000 := by
  have inside (lot : Lot) : d.fits s.spaces lot.half = true ↔
      ∀ p, d = .aboard p → fits s.spaces lot.half p = true := by
    cases d <;> simp [Dest.fits]
  have place : (∀ lot, s.live.findLot id = some lot → ∀ p, d = .aboard p → fits s.spaces lot.half p = true) ↔
      ∀ lot p, s.live.findLot id = some lot → d = .aboard p → fits s.spaces lot.half p = true :=
    forall_congr' fun _ => forall_comm
  unfold StepWork.inRange reachRange
  simp only [Bool.and_eq_true, Option.all_eq_true, within_iff, inside, place, and_assoc]

theorem inRange_ballast_iff (tank : Nat) (v : Int) (s : State) :
    (StepWork.ballast tank v).inRange s = true ↔ ∀ r, s.tanks[tank]? = some r → 0 ≤ v ∧ v ≤ r.capacity := by
  simp [StepWork.inRange, Option.all_eq_true, within_iff]

/-! ## The append -/

section

variable {t : Nat} {l : Link} {s : State} {m : InMsg} {w : StepWork} {c : Code}

/-- An append that a check stops is refused with that check's code. -/
theorem stepAppend_refused (taken : Taken 7 readStepWork l m w s) (right : stepRight l w = true)
    (check : stepCheck l w s = some c) :
    exec (.stepAppend t l) s = .next (answered l 7 m c [] (handed t l s)) := by
  have act : stepAppendAct l w (handed t l s) = (handed t l s, .answer c []) := by
    unfold stepAppendAct
    rw [show stepCheck l w (handed t l s) = some c from check]
    rfl
  exact congrArg Host.Outcome.next (request_answered taken right act)

/-- An append that passes joins the ring, and the answer tells how the ring stands then. -/
theorem stepAppend_joins (taken : Taken 7 readStepWork l m w s) (right : stepRight l w = true)
    (check : stepCheck l w s = none) :
    exec (.stepAppend t l) s = .next (answered l 7 m .done
      (be 2 s.ring.nextId ++ be 1 (s.ring.entries.length + 1) ++ be 1 (126 - s.ring.entries.length)
        ++ be 4 (s.ring.version + 1).toNat)
      { handed t l s with ring := s.ring.append l w }) := by
  have length : (s.ring.append l w).entries.length = s.ring.entries.length + 1 := List.length_append
  have free : (s.ring.append l w).free = 126 - s.ring.entries.length := by
    unfold Ring.free
    rw [length]
    exact Nat.add_sub_add_right 126 1 s.ring.entries.length
  have act : stepAppendAct l w (handed t l s) = ({ handed t l s with ring := s.ring.append l w },
      .answer .done (be 2 s.ring.nextId ++ be 1 (s.ring.append l w).entries.length ++ be 1 (s.ring.append l w).free
        ++ be 4 (s.ring.version + 1).toNat)) := by
    unfold stepAppendAct
    rw [show stepCheck l w (handed t l s) = none from check]
    rfl
  rw [length, free] at act
  exact congrArg Host.Outcome.next (request_answered taken right act)

end

/-- Settles O26: by the first of the checks that stops the append, or by the ring it joins. -/
theorem stepAppendJoinsAtTheTail : Obligations.StepAppendJoinsAtTheTail := by
  unfold Obligations.StepAppendJoinsAtTheTail
  intro t l s m w taken right refusedWith missing good limit
  have held_iff : w.held s = true ↔ ¬ missing := by
    cases w with
    | lot id d c => exact held_lot_iff id d c s
    | ballast tank v => exact held_ballast_iff tank v s
  have inRange_iff : w.inRange s = true ↔ good := by
    cases w with
    | lot id d c => exact inRange_lot_iff id d c s
    | ballast tank v => exact inRange_ballast_iff tank v s
  have refused {c : Code} (check : stepCheck l w s = some c) : refusedWith c := stepAppend_refused taken right check
  have check := stepCheck_eq l w s
  refine ⟨fun outside => ?_, fun run un => ?_, fun run known bad => ?_, fun run known fine full => ?_,
    fun run known fine room => ?_⟩
  · exact refused (check.trans (if_pos outside))
  · have unheld : w.held s = false := Bool.eq_false_iff.mpr fun held => held_iff.mp held un
    exact refused (by simpa [run, unheld] using check)
  · have outOf : w.inRange s = false := Bool.eq_false_iff.mpr (mt inRange_iff.mp bad)
    exact refused (by simpa [run, held_iff.mpr known, outOf] using check)
  · have noRoom : ¬ s.ring.entries.length < s.ring.limit l := not_lt.mpr full
    exact refused (by simpa [run, held_iff.mpr known, inRange_iff.mpr fine, noRoom] using check)
  · have hasRoom : s.ring.entries.length < s.ring.limit l := room
    exact stepAppend_joins taken right
      (by simpa [run, held_iff.mpr known, inRange_iff.mpr fine, hasRoom] using check)

end Sys2Proof.Machine

/-! PROOF. What becomes of STEP-WITHDRAW, STEP-DONE and SEQ-SET: the checks that refuse them, and the ring they leave
(R152, R156, R157). -/

namespace Sys2Proof.Machine

section

variable {t id : Nat} {l : Link} {s : State} {m : InMsg} {e : Step} {dev : Bool}

/-! ## STEP-WITHDRAW (R156) -/

theorem stepWithdraw_answered {code : Code} {body : List Byte} {s' : State}
    (taken : Taken 8 (readNat 2) l m id s) (given : l ≠ .deck)
    (act : stepWithdrawAct l id (handed t l s) = (s', .answer code body)) :
    exec (.stepWithdraw t l) s = .next (answered l 8 m code body s') :=
  congrArg Host.Outcome.next (request_answered taken (decide_eq_true given) act)

theorem stepWithdrawAct_unknownItem (run : s.device = .run) (absent : s.ring.find id = none) :
    stepWithdrawAct l id s = (s, .answer .unknownItem []) := by
  simp [stepWithdrawAct, run, absent, refuse]

theorem stepWithdrawAct_refusedRights (run : s.device = .run) (held : s.ring.find id = some e) (other : e.link ≠ l) :
    stepWithdrawAct l id s = (s, .answer .refusedRights []) := by
  simp [stepWithdrawAct, run, held, other, refuse]

theorem stepWithdrawAct_refusedState (run : s.device = .run) (held : s.ring.find id = some e) (own : e.link = l)
    (finished : e.status ≠ .pending) : stepWithdrawAct l id s = (s, .answer .refusedState []) := by
  simp [stepWithdrawAct, run, held, own, finished, refuse]

theorem stepWithdrawAct_withdrawn (run : s.device = .run) (held : s.ring.find id = some e) (own : e.link = l)
    (pending : e.status = .pending) : stepWithdrawAct l id s =
      ({ s with ring := s.ring.mark (fun e => e.id == id) Step.withdraw },
       stepAnswer id (s.ring.mark (fun e => e.id == id) Step.withdraw)) := by
  simp [stepWithdrawAct, run, held, own, pending]

/-! ## STEP-DONE (R157) -/

theorem stepDone_answered {code : Code} {body : List Byte} {s' : State}
    (taken : Taken 9 readStepDone .ballast m (id, dev) s)
    (act : stepDoneAct .ballast (id, dev) (handed t .ballast s) = (s', .answer code body)) :
    exec (.stepDone t .ballast) s = .next (answered .ballast 9 m code body s') :=
  congrArg Host.Outcome.next (request_answered taken rfl act)

theorem stepDoneAct_unknownItem (run : s.device = .run) (absent : s.ring.find id = none) :
    stepDoneAct l (id, dev) s = (s, .answer .unknownItem []) := by
  simp [stepDoneAct, run, absent, refuse]

theorem stepDoneAct_refusedState (run : s.device = .run) (held : s.ring.find id = some e)
    (no : e.isBallast = false ∨ e.status ≠ .pending) :
    stepDoneAct l (id, dev) s = (s, .answer .refusedState []) := by
  have no : (e.isBallast && e.status == .pending) = false := by
    rcases no with lot | finished
    · simp [lot]
    · simp [finished]
  unfold stepDoneAct
  rw [if_neg (not_not.mpr run)]
  simp only [held, no]
  rfl

theorem stepDoneAct_done (run : s.device = .run) (held : s.ring.find id = some e) (ballast : e.isBallast = true)
    (pending : e.status = .pending) : stepDoneAct l (id, dev) s =
      ({ s with ring := s.ring.mark (fun e => e.id == id) (fun e => e.finish dev) },
       stepAnswer id (s.ring.mark (fun e => e.id == id) (fun e => e.finish dev))) := by
  simp [stepDoneAct, run, held, ballast, pending]

/-! ## SEQ-SET (R152) -/

variable {g d : Option Nat}

theorem seqSet_answered {code : Code} {body : List Byte} {s' : State} (taken : Taken 10 readSeqSet .planning m (g, d) s)
    (act : seqSetAct .planning (g, d) (handed t .planning s) = (s', .answer code body)) :
    exec (.seqSet t .planning) s = .next (answered .planning 10 m code body s') :=
  congrArg Host.Outcome.next (request_answered taken rfl act)

/-- That a SEQ-SET names a guard or a depth outside its range. -/
def SettingsOut (g d : Option Nat) : Prop := (∃ x, g = some x ∧ 32 < x) ∨ ∃ x, d = some x ∧ (x = 0 ∨ 16 < x)

/-- The range check of SEQ-SET fails for a setting it names alone. -/
theorem settingsOut_iff (g d : Option Nat) : (32 < g.getD 0 ∨ 16 < d.getD 1 ∨ d.getD 1 = 0) ↔ SettingsOut g d := by
  unfold SettingsOut
  cases g <;> cases d <;> simp [or_comm]

theorem seqSetAct_outsideRun (outside : s.device ≠ .run) :
    seqSetAct l (g, d) s = (s, .answer .refusedState []) := if_pos outside

theorem seqSetAct_refusedRange (run : s.device = .run) (out : SettingsOut g d) :
    seqSetAct l (g, d) s = (s, .answer .refusedRange []) := by
  unfold seqSetAct
  exact (if_neg (not_not.mpr run)).trans (if_pos ((settingsOut_iff g d).mpr out))

theorem seqSetAct_refusedState (run : s.device = .run) (fine : ¬ SettingsOut g d)
    (differs : g.getD s.ring.guard ≠ s.ring.guard) (holds : s.ring.entries ≠ []) :
    seqSetAct l (g, d) s = (s, .answer .refusedState []) := by
  have fine := mt (settingsOut_iff g d).mp fine
  unfold seqSetAct
  exact (if_neg (not_not.mpr run)).trans ((if_neg fine).trans (if_pos ⟨differs, holds⟩))

/-- The version counts a change of depth alone (R160). -/
theorem Ring.setting_eq (r : Ring) (guard depth : Nat) : r.setting guard depth = { r with
    guard := guard, depth := depth, version := if depth = r.depth then r.version else r.version + 1 } := by
  unfold Ring.setting Ring.count
  split
  · simp
  · rfl

theorem seqSetAct_set (run : s.device = .run) (fine : ¬ SettingsOut g d)
    (suits : g.getD s.ring.guard = s.ring.guard ∨ s.ring.entries = []) : seqSetAct l (g, d) s =
      ({ s with ring := { s.ring with
          guard := g.getD s.ring.guard, depth := d.getD s.ring.depth
          version := if d.getD s.ring.depth = s.ring.depth then s.ring.version else s.ring.version + 1 } },
       .answer .done (be 1 (g.getD s.ring.guard) ++ be 1 (d.getD s.ring.depth))) := by
  have fine := mt (settingsOut_iff g d).mp fine
  have suits : ¬ (g.getD s.ring.guard ≠ s.ring.guard ∧ s.ring.entries ≠ []) := by
    rwa [not_and_or, not_not, not_not]
  unfold seqSetAct
  rw [← Ring.setting_eq]
  exact (if_neg (not_not.mpr run)).trans ((if_neg fine).trans (if_neg suits))

end

/-- Settles O27: by what the ring holds of the step that is named, and for SEQ-SET by the first check that fails. -/
theorem stepAndSequenceRequests : Obligations.StepAndSequenceRequests := by
  unfold Obligations.StepAndSequenceRequests
  refine ⟨fun t l s m run => ⟨fun id taken given => ⟨fun absent => ?_, fun e held =>
      ⟨fun other => ?_, fun own finished => ?_, fun own pending => ?_⟩⟩,
    fun id dev taken => ⟨fun absent => ?_, fun e held => ⟨fun no => ?_, fun ballast pending => ?_⟩⟩⟩, ?settings⟩
  · exact stepWithdraw_answered taken given (stepWithdrawAct_unknownItem run absent)
  · exact stepWithdraw_answered taken given (stepWithdrawAct_refusedRights run held other)
  · exact stepWithdraw_answered taken given (stepWithdrawAct_refusedState run held own finished)
  · exact stepWithdraw_answered taken given (stepWithdrawAct_withdrawn run held own pending)
  · exact stepDone_answered taken (stepDoneAct_unknownItem run absent)
  · exact stepDone_answered taken (stepDoneAct_refusedState run held no)
  · exact stepDone_answered taken (stepDoneAct_done run held ballast pending)
  case settings =>
    intro t s m g d taken guard depth bad refusedWith
    exact ⟨fun outside => seqSet_answered taken (seqSetAct_outsideRun outside),
      fun run out => seqSet_answered taken (seqSetAct_refusedRange run out),
      fun run fine differs holds => seqSet_answered taken (seqSetAct_refusedState run fine differs holds),
      fun run fine suits => seqSet_answered taken (seqSetAct_set run fine suits)⟩

end Sys2Proof.Machine

/-! PROOF. What R149, R152 and R155 bound as a view of the state: the ring, with the device state, the working copy and
the store job that a new guard waits on; and the moves of the view that keep the bounds. -/

namespace Sys2Proof.Machine

/-! ## Entries that leave -/

/-- Entries may leave the ring and none joins: the links of those that stay are links of those before, in order. -/
structure Ring.Shrinks (r r' : Ring) : Prop where
  links : (r'.entries.map (·.link)).Sublist (r.entries.map (·.link))
  guard : r'.guard = r.guard
  index : r.readIdx < 128 → r'.readIdx < 128

namespace Ring

variable {r r' r'' : Ring}

@[simp] theorem Shrinks.refl (r : Ring) : r.Shrinks r := ⟨.refl _, rfl, id⟩

theorem Shrinks.trans (h : r.Shrinks r') (h' : r'.Shrinks r'') : r.Shrinks r'' :=
  ⟨h'.links.trans h.links, h'.guard.trans h.guard, h'.index ∘ h.index⟩

theorem byLink_eq_count (r : Ring) (l : Link) : r.byLink l = (r.entries.map (·.link)).count l := by
  rw [List.count_eq_length_filter, List.filter_map, List.length_map]
  rfl

theorem byLink_le_length (r : Ring) (l : Link) : r.byLink l ≤ r.entries.length := List.length_filter_le _ _

theorem Shrinks.length_le (h : r.Shrinks r') : r'.entries.length ≤ r.entries.length := by
  simpa using h.links.length_le

theorem Shrinks.byLink_le (h : r.Shrinks r') (l : Link) : r'.byLink l ≤ r.byLink l := by
  rw [byLink_eq_count, byLink_eq_count]
  exact h.links.count_le l

theorem Shrinks.empty (h : r.Shrinks r') (empty : r.entries = []) : r'.entries = [] := by
  simpa [empty] using h.length_le

/-- A marking that does not move entries from one link to another. -/
theorem mark_shrinks (r : Ring) (picks : Step → Bool) {f : Step → Step} (same : ∀ e, (f e).link = e.link) :
    r.Shrinks (r.mark picks f) := by
  have links : (r.marked picks f).map (·.link) = r.entries.map (·.link) := by
    unfold marked
    rw [List.map_map]
    refine List.map_congr_left fun e _ => ?_
    dsimp only [Function.comp]
    split
    · exact same e
    · rfl
  rw [mark_eq]
  exact ⟨links ▸ (List.dropWhile_sublist _).map _, rfl, fun _ => Nat.mod_lt _ (by decide)⟩

theorem completeLot_shrinks (r : Ring) (lot : Nat) (reached : Option Nat) : r.Shrinks (r.completeLot lot reached) :=
  mark_shrinks r _ fun _ => rfl

theorem withdrawLot_shrinks (r : Ring) (lot : Nat) : r.Shrinks (r.withdrawLot lot) := mark_shrinks r _ fun _ => rfl

end Ring

/-! ## The view -/

/-- The ring, the device state, the working copy of the sections and the store job. -/
structure RingView where
  device : DeviceState
  working : Option Hull
  job : Option Job
  ring : Ring

def State.ringView (s : State) : RingView :=
  { device := s.device, working := s.working, job := s.store.job, ring := s.ring }

namespace RingView

variable {v v' v'' : RingView}

/-- The ring's bounds (R149, R155), and that a guard being written suits it (R152), in the terms of the view. -/
structure Bounded (v : RingView) : Prop where
  few : v.ring.entries.length ≤ 127
  planned : v.ring.byLink .planning ≤ 127 - v.ring.guard
  index : v.ring.readIdx < 128
  start : v.device = .start → v.ring.entries = []
  agrees : ∀ ns w, v.job = some (.leaveConfig ns) → v.device = .config → v.working = some w → ns.contains 7 = true →
    w.s7.guard = v.ring.guard ∨ v.ring.entries = []

/-- Going from one view to another does not lose the bounds. -/
def Keeps (v v' : RingView) : Prop := v.Bounded → v'.Bounded

@[simp] theorem Keeps.refl (v : RingView) : v.Keeps v := id

theorem Keeps.of_eq (h : v' = v) : v.Keeps v' := h ▸ .refl v

theorem Keeps.trans (h : v.Keeps v') (h' : v'.Keeps v'') : v.Keeps v'' := h' ∘ h

/-! ## Moves of the view that keep the bounds -/

/-- Entries leave the ring. -/
theorem keeps_shrunk {r : Ring} (shrinks : v.ring.Shrinks r) : v.Keeps { v with ring := r } := fun bounded => {
  few := shrinks.length_le.trans bounded.few
  planned := by
    have planned := bounded.planned
    rw [← shrinks.guard] at planned
    exact (shrinks.byLink_le .planning).trans planned
  index := shrinks.index bounded.index
  start := fun start => shrinks.empty (bounded.start start)
  agrees := fun ns w job config working seven =>
    (bounded.agrees ns w job config working seven).imp (·.trans shrinks.guard.symm) shrinks.empty }

/-- In RUN no guard is being written, and only the ring's own bounds count. -/
theorem keeps_running {r : Ring} (run : v.device = .run) (few : v.Bounded → r.entries.length ≤ 127)
    (planned : v.Bounded → r.byLink .planning ≤ 127 - r.guard) (index : r.readIdx = v.ring.readIdx) :
    v.Keeps { v with ring := r } := fun bounded => {
  few := few bounded
  planned := planned bounded
  index := index ▸ bounded.index
  start := fun start => absurd (run.symm.trans start) nofun
  agrees := fun _ _ _ config => absurd (run.symm.trans config) nofun }

/-- A guard is being written: a LEAVE-CONFIG runs in CONFIG. -/
def Writing (v : RingView) : Prop := v.device = .config ∧ ∃ ns, v.job = some (.leaveConfig ns)

/-- The ring stays, the device does not go to START, and no guard is being written. -/
theorem keeps_idle (ring : v'.ring = v.ring) (device : v'.device ≠ .start ∨ v'.device = v.device)
    (idle : ¬ v'.Writing) : v.Keeps v' := fun bounded => {
  few := ring ▸ bounded.few
  planned := ring ▸ bounded.planned
  index := ring ▸ bounded.index
  start := fun start => by
    rw [ring]
    exact bounded.start ((device.resolve_left (absurd start)).symm.trans start)
  agrees := fun ns _ job config => absurd ⟨config, ns, job⟩ idle }

/-- A job begins or ends, and it is no LEAVE-CONFIG. -/
theorem keeps_job {j : Option Job} (other : ∀ ns, j ≠ some (.leaveConfig ns)) : v.Keeps { v with job := j } :=
  keeps_idle rfl (.inr rfl) fun ⟨_, ns, job⟩ => other ns job

/-- A LEAVE-CONFIG begins to write a guard that suits the ring, or none (R152). -/
theorem keeps_write {ns : List Nat}
    (suits : ∀ w, v.working = some w → ns.contains 7 = true → w.s7.guard = v.ring.guard ∨ v.ring.entries = []) :
    v.Keeps { v with job := some (.leaveConfig ns) } := fun bounded => {
  few := bounded.few
  planned := bounded.planned
  index := bounded.index
  start := bounded.start
  agrees := fun _ w job _ working seven => by
    cases job
    exact suits w working seven }

/-- No guard is being written in RUN. -/
theorem keeps_enterRun (v : RingView) : v.Keeps { v with device := .run, working := none } :=
  keeps_idle rfl (.inl nofun) fun ⟨config, _⟩ => nomatch config

/-- The sections come into force in RUN, with a guard that suits the ring (R152). -/
theorem keeps_guard {g d : Nat} (version : Version) (run : v.device = .run)
    (suits : v.Bounded → g = v.ring.guard ∨ v.ring.entries = []) :
    v.Keeps { v with ring := { v.ring with guard := g, depth := d, version := version } } := by
  refine keeps_running run Bounded.few (fun bounded => ?_) rfl
  rcases suits bounded with rfl | empty
  · exact bounded.planned
  · simp [Ring.byLink, empty]

end RingView

theorem ringBounded_iff (s : State) : s.ringBounded ↔ s.ringView.Bounded :=
  ⟨fun ⟨few, planned, index, start, agrees⟩ => ⟨few, planned, index, start, agrees⟩,
    fun ⟨few, planned, index, start, agrees⟩ => ⟨few, planned, index, start, agrees⟩⟩

end Sys2Proof.Machine

/-! PROOF. Which operations, and which owning blocks of requests, leave the view of the ring as it is. -/

namespace Sys2Proof.Machine

/-! ## What leaves the view as it is

One lemma per operation that touches none of the view's fields, for `simp` and `rw` to see through it. -/

@[simp] theorem atTime_ringView (t : Nat) (s : State) : (atTime t s).ringView = s.ringView := rfl
@[simp] theorem modifyLiu_ringView (l : Link) (f : Liu → Liu) (s : State) :
    (modifyLiu l f s).ringView = s.ringView := rfl
@[simp] theorem settle_ringView (s : State) : (settle s).ringView = s.ringView := rfl
@[simp] theorem setTrial_ringView (o : Owner) (a : Area) (s : State) : (setTrial o a s).ringView = s.ringView := rfl
@[simp] theorem emptyTrial_ringView (s : State) : (emptyTrial s).ringView = s.ringView := rfl
@[simp] theorem putSlot_ringView (n : Nat) (v : Slot) (s : State) : (putSlot n v s).ringView = s.ringView := rfl
@[simp] theorem putEntry_ringView (n : Nat) (e : DirEntry) (s : State) : (putEntry n e s).ringView = s.ringView := rfl
@[simp] theorem putChannel_ringView (ch : Nat) (c : Channel) (s : State) :
    (putChannel ch c s).ringView = s.ringView := rfl
@[simp] theorem answerOwed_ringView (enter : Bool) (code : Code) (body : List Byte) (restart : Bool) (s : State) :
    (answerOwed enter code body restart s).ringView = s.ringView := rfl
@[simp] theorem awaitRestart_ringView (s : State) : (awaitRestart s).ringView = s.ringView := rfl
@[simp] theorem suspendRun_ringView (s : State) : (suspendRun s).ringView = s.ringView := rfl
@[simp] theorem grantStage_ringView (h : Hull) (r : Run) (k : Nat) (st : Stage) (s : State) :
    (grantStage h r k st s).ringView = s.ringView := rfl

@[simp] theorem markWriteError_ringView (failed : Bool) (s : State) :
    (markWriteError failed s).ringView = s.ringView := by
  cases failed <;> rfl

@[simp] theorem setLock_ringView (q : Target) (s : State) : (setLock q s).ringView = s.ringView := by
  cases q <;> rfl

@[simp] theorem markDelivered_ringView (o : Outbound) (r : ReplyKind) (s : State) :
    (markDelivered o r s).ringView = s.ringView := by
  unfold markDelivered
  split <;> rfl

@[simp] theorem respond_ringView (l : Link) (kind tag : Nat) (r : Reply) (s : State) :
    (respond l kind tag r s).ringView = s.ringView := by
  rw [respond_only]
  rfl

@[simp] theorem raiseNotice_ringView (forced : Link → Bool) (n : Notice) (s : State) :
    (raiseNotice forced n s).ringView = s.ringView := by
  rw [raiseNotice_only]
  rfl

@[simp] theorem archiveNotice_ringView (k : JobKind) (q : Option Target) (c : Code) (x : Option (Option Quantity))
    (s : State) : (archiveNotice k q c x s).ringView = s.ringView := raiseNotice_ringView _ _ _

@[simp] theorem raiseLive_ringView (c : Cause) (s : State) : (raiseLive c s).ringView = s.ringView := by
  rw [raiseLive_only]
  rfl

@[simp] theorem recompute_ringView (h : Line) (s : State) : (recompute h s).ringView = s.ringView := by
  rw [recompute_only]
  rfl

@[simp] theorem recomputeLines_ringView (hs : List Line) (s : State) :
    (recomputeLines hs s).ringView = s.ringView := by
  rw [recomputeLines_only]
  rfl

@[simp] theorem recomputeAll_ringView (s : State) : (recomputeAll s).ringView = s.ringView :=
  recomputeLines_ringView _ _

@[simp] theorem recomputeMask_ringView (m : LineSet) (s : State) : (recomputeMask m s).ringView = s.ringView :=
  recomputeLines_ringView _ _

@[simp] theorem setHoldTimer_ringView (l : Link) (h : Line) (timer : Option Nat) (s : State) :
    (setHoldTimer l h timer s).ringView = s.ringView := by
  unfold setHoldTimer
  rw [recompute_ringView]
  rfl

@[simp] theorem dropTimers_ringView (l : Link) (s : State) : (dropTimers l s).ringView = s.ringView := by
  unfold dropTimers
  rw [recomputeLines_ringView]
  rfl

@[simp] theorem cancelAdopt_ringView (s : State) : (cancelAdopt s).ringView = s.ringView := by
  unfold cancelAdopt
  split
  · rw [archiveNotice_ringView]
    rfl
  · rfl

@[simp] theorem abandonLook_ringView (s : State) : (abandonLook s).ringView = s.ringView := by
  rw [abandonLook_only]
  rfl

@[simp] theorem dropLook_ringView (s : State) : (dropLook s).ringView = s.ringView := by
  unfold dropLook
  split <;> simp

@[simp] theorem entryCauses_ringView (s : State) : (entryCauses s).ringView = s.ringView := by
  unfold entryCauses
  dsimp only
  split_ifs <;> simp

/-! ### Movements and channels -/

@[simp] theorem lotNotice_ringView (e : LotEvent) (x : Lot) (freed : Bool) (crane : Nat) (peak : Option Int)
    (s : State) : (lotNotice e x freed crane peak s).ringView = s.ringView := raiseNotice_ringView _ _ _

@[simp] theorem land_ringView (e : LotEvent) (x : Lot) (crane : Nat) (peak : Option Int) (s : State) :
    (land e x crane peak s).1.ringView = s.ringView := by
  rw [land_only]
  rfl

@[simp] theorem channelNotice_ringView (k : Nat) (c : Channel) (e : ChanEvents) (s : State) :
    (channelNotice k c e s).ringView = s.ringView := by
  rw [channelNotice_only]
  rfl

@[simp] theorem disableChannel_ringView (k : Nat) (c : Channel) (s : State) :
    (disableChannel k c s).ringView = s.ringView := by
  rw [disableChannel_only]
  rfl

@[simp] theorem disableAll_ringView (s : State) : (disableAll s).ringView = s.ringView := by
  unfold disableAll
  generalize numbered 0 s.bank.channels = cs
  induction cs generalizing s with
  | nil => rfl
  | cons c cs ih => rw [List.foldl_cons, ih, disableChannel_ringView]

@[simp] theorem takeSample_ringView (k : Nat) (c : Channel) (v : Int) (s : State) :
    (takeSample k c v s).ringView = s.ringView := by
  rw [takeSample_only]
  rfl

@[simp] theorem takeFrame_ringView (u : RxUnit) (s : State) : (takeFrame u s).ringView = s.ringView := by
  unfold takeFrame
  split
  · rfl
  · split
    · rfl
    · split
      · rfl
      · exact takeSample_ringView _ _ _ _

/-! ### Publication, TRIAL, grants and completions -/

@[simp] theorem publish_ringView (h : Hull) (r : Result) (s : State) : (publish h r s).ringView = s.ringView := by
  rw [publish_only]
  rfl

@[simp] theorem releaseRecalled_ringView (s : State) : (releaseRecalled s).ringView = s.ringView := by
  unfold releaseRecalled
  split <;> simp

@[simp] theorem applyAdopt_ringView (s : State) : (applyAdopt s).ringView = s.ringView := by
  rw [applyAdopt_only]
  rfl

@[simp] theorem completeRun_ringView (b : BaseInfo) (rs : List StageRecord) (s : State) :
    (completeRun b rs s).ringView = s.ringView := by
  rw [completeRun_only]
  rfl

@[simp] theorem startRun_ringView (h : Hull) (s : State) : (startRun h s).ringView = s.ringView := by
  unfold startRun
  dsimp only
  split <;> simp

@[simp] theorem continueRun_ringView (h : Hull) (r : Run) (s : State) : (continueRun h r s).ringView = s.ringView := by
  unfold continueRun
  split
  · split <;> simp
  · exact startRun_ringView h s

@[simp] theorem stageDone_ringView (k : Nat) (h : Hull) (e : Result) (s : State) :
    (stageDone k h e s).ringView = s.ringView := by
  unfold stageDone
  split
  · rfl
  · split
    · rfl
    · unfold finishStage
      dsimp only
      split
      · exact completeRun_ringView _ _ s
      · rfl

/-! ### Owning blocks of requests -/

@[simp] theorem closeSet_ringView (l : Link) (q : SetMessage) (s : State) :
    (closeSet l q s).1.ringView = s.ringView := by
  unfold closeSet
  extract_lets sets held edits
  split
  · rfl
  · rw [raiseLive_ringView]
    rfl

@[simp] theorem holdSet_ringView (l : Link) (q : SetMessage) (s : State) :
    (holdSet l q s).1.ringView = s.ringView := by
  unfold holdSet
  dsimp only
  split
  · split <;> rfl
  · split <;> rfl

@[simp] theorem changeSetAct_ringView (l : Link) (q : SetMessage) (s : State) :
    (changeSetAct l q s).1.ringView = s.ringView := by
  unfold changeSetAct
  split
  · rfl
  · split
    · exact closeSet_ringView _ _ _
    · exact holdSet_ringView _ _ _

@[simp] theorem attachAct_ringView (l : Link) (q : AttachFields) (s : State) :
    (attachAct l q s).1.ringView = s.ringView := by
  unfold attachAct
  split
  · rfl
  · rw [lotNotice_ringView]
    rfl

@[simp] theorem forceLandAct_ringView (l : Link) (id : Nat) (s : State) :
    (forceLandAct l id s).1.ringView = s.ringView := by
  unfold forceLandAct
  split
  · rfl
  · split
    · rfl
    · dsimp only
      split
      · rfl
      · split
        · rfl
        · exact land_ringView _ _ _ _ _

@[simp] theorem channelSetAct_ringView (l : Link) (q : Nat × ChannelCfg) (s : State) :
    (channelSetAct l q s).1.ringView = s.ringView := by
  unfold channelSetAct
  split <;> rfl

@[simp] theorem channelEnableAct_ringView (l : Link) (ch : Nat) (s : State) :
    (channelEnableAct l ch s).1.ringView = s.ringView := by
  unfold channelEnableAct
  split
  · rfl
  · split
    · rfl
    · split_ifs <;> rfl

@[simp] theorem channelDisableAct_ringView (l : Link) (ch : Nat) (s : State) :
    (channelDisableAct l ch s).1.ringView = s.ringView := by
  unfold channelDisableAct
  split
  · rfl
  · split
    · rfl
    · dsimp only
      split
      · rfl
      · split <;> simp

@[simp] theorem holdAckAct_ringView (l : Link) (h : Line) (s : State) :
    (holdAckAct l h s).1.ringView = s.ringView := by
  unfold holdAckAct
  split
  · rfl
  · split
    · rfl
    · rw [recompute_ringView]
      rfl

@[simp] theorem timedHoldAct_ringView (l : Link) (q : Line × Nat) (s : State) :
    (timedHoldAct l q s).1.ringView = s.ringView := by
  unfold timedHoldAct
  dsimp only
  split_ifs <;> simp

@[simp] theorem evaluateNowAct_ringView (l : Link) (q : Unit) (s : State) :
    (evaluateNowAct l q s).1.ringView = s.ringView := by
  unfold evaluateNowAct
  split
  · rfl
  · exact raiseLive_ringView _ _

@[simp] theorem adoptAct_ringView (l : Link) (q : Unit) (s : State) : (adoptAct l q s).1.ringView = s.ringView := by
  unfold adoptAct
  split_ifs
  · rfl
  · rfl
  · rfl
  · rfl
  · rw [raiseLive_ringView]
    rfl

@[simp] theorem readVerdictAct_ringView (l : Link) (q : VerdictPart) (s : State) :
    (readVerdictAct l q s).1.ringView = s.ringView := by
  unfold readVerdictAct
  split
  · rfl
  · split <;> rfl

/-! ### Reads leave the state as it is -/

theorem readSequenceAct_state (l : Link) (q : SequenceForm) (s : State) :
    (readSequenceAct l q s).1 = s := by
  unfold readSequenceAct
  split
  · rfl
  · split <;> rfl

theorem readChannelsAct_state (l : Link) (q : Nat × Nat) (s : State) :
    (readChannelsAct l q s).1 = s := by
  unfold readChannelsAct
  split <;> rfl

theorem readConditionAct_state (l : Link) (q : Bool × ConditionPart) (s : State) :
    (readConditionAct l q s).1 = s := by
  unfold readConditionAct
  split
  · rfl
  · split <;> rfl

theorem readHullAct_state (l : Link) (q : ItemAddr × Bool) (s : State) :
    (readHullAct l q s).1 = s := by
  unfold readHullAct
  split
  · rfl
  · split <;> rfl

end Sys2Proof.Machine

/-! PROOF. Which operations move the view of the ring, and that each block's moves keep its bounds: STEP-APPEND's checks,
marks of steps by edits and movements, guards that come into force, and the jobs of the store. -/

namespace Sys2Proof.Machine

open RingView

/-! ## What moves the view -/

@[simp] theorem startJob_ringView (j : Job) (s : State) :
    (startJob j s).ringView = { s.ringView with job := some j } := rfl

@[simp] theorem endJobWith_ringView (restart : Bool) (k : JobKind) (q : Option Target) (c : Code)
    (x : Option (Option Quantity)) (body : List Byte) (s : State) :
    (endJobWith restart k q c x body s).ringView = { s.ringView with job := none } := by
  unfold endJobWith
  rw [archiveNotice_ringView]
  rfl

@[simp] theorem endJob_ringView (k : JobKind) (q : Option Target) (c : Code) (x : Option (Option Quantity))
    (body : List Byte) (s : State) : (endJob k q c x body s).ringView = { s.ringView with job := none } :=
  endJobWith_ringView _ _ _ _ _ _ _

@[simp] theorem enterRun_ringView (h : Hull) (s : State) :
    (enterRun h s).ringView = { s.ringView with device := .run, working := none } := by
  unfold enterRun
  rw [recomputeAll_ringView, entryCauses_ringView]
  rfl

@[simp] theorem enterConfig_ringView (s : State) :
    (enterConfig s).ringView = { s.ringView with device := .config, working := (dropLook s).hull } := by
  unfold enterConfig
  rw [recomputeAll_ringView, disableAll_ringView, ← dropLook_ringView s]
  rfl

/-! ## The ring's requests -/

/-- What STEP-APPEND passes has a device in RUN and finds room (R154, R155). -/
theorem stepCheck_passed {l : Link} {w : StepWork} {s : State} (passed : stepCheck l w s = none) :
    s.device = .run ∧ s.ring.entries.length < s.ring.limit l := by
  rw [stepCheck_eq] at passed
  split_ifs at passed with outside unheld out room
  exact ⟨not_not.mp outside, room⟩

/-- An append with room leaves the ring within R155: the planning link leaves the guard free, and another link's entry
is none of its own. -/
theorem append_keepsRing {l : Link} (w : StepWork) {s : State} (run : s.device = .run)
    (room : s.ring.entries.length < s.ring.limit l) :
    s.ringView.Keeps { s.ringView with ring := s.ring.append l w } := by
  have joined : (s.ring.append l w).entries.length = s.ring.entries.length + 1 := List.length_append
  have guard : (s.ring.append l w).guard = s.ring.guard := rfl
  unfold Ring.limit at room
  refine keeps_running run (fun _ => ?few) (fun bounded => ?planned) rfl
  case few =>
    rw [joined]
    split at room <;> omega
  case planned =>
    rw [guard]
    split at room
    · have most := (s.ring.append l w).byLink_le_length .planning
      omega
    next other =>
      have same : (s.ring.append l w).byLink .planning = s.ring.byLink .planning := by
        simp [Ring.append_eq, Ring.newStep, Ring.byLink, other]
      rw [same]
      exact bounded.planned

theorem stepAppendAct_keepsRing (l : Link) (w : StepWork) (s : State) :
    s.ringView.Keeps (stepAppendAct l w s).1.ringView := by
  unfold stepAppendAct
  split
  · exact .refl _
  next passed =>
    obtain ⟨run, room⟩ := stepCheck_passed passed
    exact append_keepsRing w run room

theorem stepWithdrawAct_keepsRing (l : Link) (id : Nat) (s : State) :
    s.ringView.Keeps (stepWithdrawAct l id s).1.ringView := by
  unfold stepWithdrawAct
  split
  · exact .refl _
  · split
    · exact .refl _
    · split_ifs
      · exact .refl _
      · exact .refl _
      · exact keeps_shrunk (Ring.mark_shrinks _ _ fun _ => rfl)

theorem stepDoneAct_keepsRing (l : Link) (q : Nat × Bool) (s : State) :
    s.ringView.Keeps (stepDoneAct l q s).1.ringView := by
  unfold stepDoneAct
  split
  · exact .refl _
  · split
    · exact .refl _
    · split
      · exact .refl _
      · exact keeps_shrunk (Ring.mark_shrinks _ _ fun _ => rfl)

/-- Guard and depth written in RUN, where the guard suits the ring (R152). -/
theorem setting_keepsRing {g : Nat} (d : Nat) {v : RingView} (run : v.device = .run)
    (suits : v.Bounded → g = v.ring.guard ∨ v.ring.entries = []) :
    v.Keeps { v with ring := v.ring.setting g d } := keeps_guard _ run suits

theorem seqSetAct_keepsRing (l : Link) (q : Option Nat × Option Nat) (s : State) :
    s.ringView.Keeps (seqSetAct l q s).1.ringView := by
  unfold seqSetAct
  dsimp only
  split_ifs with outside range moved
  · exact .refl _
  · exact .refl _
  · exact .refl _
  · refine setting_keepsRing (v := s.ringView) _ (not_not.mp outside) fun _ => ?_
    rw [not_and_or, not_not, not_not] at moved
    exact moved

/-! ## Movements and edits -/

theorem detach_keepsRing (x : Lot) (s : State) : s.ringView.Keeps (detach x s).1.ringView := by
  unfold detach
  extract_lets crane
  split
  · rw [lotNotice_ringView]
    exact keeps_shrunk (Ring.completeLot_shrinks _ _ _)
  · rw [lotNotice_ringView]
    exact keeps_shrunk (Ring.completeLot_shrinks _ _ _)
  · rw [lotNotice_ringView]
    exact .refl s.ringView

theorem detachAct_keepsRing (l : Link) (id : Nat) (s : State) : s.ringView.Keeps (detachAct l id s).1.ringView := by
  unfold detachAct
  split
  · exact .refl _
  · split
    · exact .refl _
    · split
      · exact .refl _
      · exact detach_keepsRing _ _

section

variable {env : EditEnv} {w w' : EditState}

theorem tryEnter_ring {id : Nat} {declared half : Int} {planned : Option Place} {tag : Option (List Byte)}
    (tried : tryEnter env w id declared half planned tag = .ok w') : w'.ring = w.ring := by
  unfold tryEnter at tried
  split_ifs at tried
  cases tried
  rfl

theorem tryAmend_ring {id : Nat} {declared half : Option Int} {planned : Option (Option Place)}
    {tag : Option (Option (List Byte))} (tried : tryAmend env w id declared half planned tag = .ok w') :
    w'.ring = w.ring := by
  unfold tryAmend at tried
  split at tried
  · cases tried
  · dsimp only at tried
    split_ifs at tried
    cases tried
    rfl

theorem tryTankState_ring {tank : Nat} {v : Int} (tried : tryTankState env w tank v = .ok w') :
    w'.ring = w.ring := by
  unfold tryTankState at tried
  split at tried
  · cases tried
  · split_ifs at tried
    cases tried
    rfl

/-- An edit of one item without lots: two checks, then the item is written. -/
theorem ring_of_checked {p q : Prop} [Decidable p] [Decidable q] {c c' : Code} {a : Area}
    (tried : (if p then .error c else if q then .error c' else .ok { w with area := a }) = Except.ok w') :
    w'.ring = w.ring := by
  split_ifs at tried
  cases tried
  rfl

theorem tryDrop_shrinks {id : Nat} (tried : tryDrop w id = .ok w') : w.ring.Shrinks w'.ring := by
  unfold tryDrop at tried
  split at tried
  · cases tried
  · split_ifs at tried
    cases tried
    exact Ring.withdrawLot_shrinks _ _

theorem tryRemove_shrinks {id : Nat} (tried : tryRemove w id = .ok w') : w.ring.Shrinks w'.ring := by
  unfold tryRemove at tried
  split at tried
  · cases tried
  · split_ifs at tried
    cases tried
    exact Ring.completeLot_shrinks _ _ _

theorem tryPlace_shrinks {id : Nat} {place : Option Place} (tried : tryPlace env w id place = .ok w') :
    w.ring.Shrinks w'.ring := by
  unfold tryPlace at tried
  split at tried
  · cases tried
  · split_ifs at tried
    split at tried
    · cases tried
    · split_ifs at tried
      cases tried
      exact Ring.completeLot_shrinks _ _ _

theorem tryShift_shrinks {id : Nat} {p : Place} (tried : tryShift env w id p = .ok w') :
    w.ring.Shrinks w'.ring := by
  unfold tryShift at tried
  split at tried
  · cases tried
  · split_ifs at tried
    cases tried
    exact Ring.completeLot_shrinks _ _ _

/-- An edit at most marks entries of the ring (R33, R34). -/
theorem tryEdit_shrinks {e : Edit} (tried : tryEdit env w e = .ok w') : w.ring.Shrinks w'.ring := by
  have untouched (same : w'.ring = w.ring) : w.ring.Shrinks w'.ring := same ▸ .refl _
  cases e with
  | lotEnter => exact untouched (tryEnter_ring tried)
  | lotAmend => exact untouched (tryAmend_ring tried)
  | lotDrop => exact tryDrop_shrinks tried
  | constSet => exact untouched (ring_of_checked tried)
  | modeSet =>
    cases tried
    exact .refl _
  | lotPlace => exact tryPlace_shrinks tried
  | lotRemove => exact tryRemove_shrinks tried
  | lotShift => exact tryShift_shrinks tried
  | craneHeight => exact untouched (ring_of_checked tried)
  | tankState => exact untouched (tryTankState_ring tried)
  | tankDensity => exact untouched (ring_of_checked tried)
  | tankSource => exact untouched (ring_of_checked tried)

end

theorem tryEdits_shrinks {env : EditEnv} {es : List Edit} {i : Nat} {w w' : EditState}
    (run : tryEdits env i w es = .ok w') : w.ring.Shrinks w'.ring := by
  induction es generalizing i w with
  | nil =>
    cases run
    exact .refl _
  | cons e es ih =>
    unfold tryEdits at run
    cases tried : tryEdit env w e with
    | error c =>
      rw [tried] at run
      cases run
    | ok w1 =>
      rw [tried] at run
      exact (tryEdit_shrinks tried).trans (ih run)

theorem applySet_keepsRing (r : ReadySet) (s : State) : s.ringView.Keeps (applySet r s).ringView := by
  unfold applySet
  split
  next w applied => exact keeps_shrunk (tryEdits_shrinks applied)
  · exact .refl s.ringView

theorem applyReady_keepsRing (s : State) : s.ringView.Keeps (applyReady s).ringView := by
  have each (rs : List ReadySet) (s : State) :
      s.ringView.Keeps (rs.foldl (fun s r => applySet r s) s).ringView := by
    induction rs generalizing s with
    | nil => exact .refl _
    | cons r rs ih => exact (applySet_keepsRing r s).trans (ih _)
  exact each s.ready { s with ready := [] }

/-! ## Grants -/

/-- A live grant applies the ready sets (R138). -/
theorem grantLive_keepsRing (h : Hull) (s : State) : s.ringView.Keeps (grantLive h s).ringView := by
  have before : (applyAdopt (suspendRun s)).ringView = s.ringView := by simp
  exact before ▸ applyReady_keepsRing (applyAdopt (suspendRun s))

theorem grantChoice_keepsRing (h : Hull) (s : State) : s.ringView.Keeps (grantChoice h s).ringView := by
  unfold grantChoice
  split
  · exact grantLive_keepsRing h s
  · split
    · exact .refl s.ringView
    · split
      · exact .of_eq (continueRun_ringView h _ s)
      · split
        · exact .of_eq (startRun_ringView h s)
        · exact .refl _

/-! ## Configuration -/

/-- ENTER-CONFIG takes effect with no job running, so that no guard is being written (R178). -/
theorem enterConfig_keepsRing {s : State} (passed : enterCheck s = none) :
    s.ringView.Keeps (enterConfig s).ringView := by
  have idle : s.store.job = none := by
    unfold enterCheck at passed
    split_ifs at passed with outside held busy inHand
    exact Option.not_isSome_iff_eq_none.mp busy
  rw [enterConfig_ringView]
  exact keeps_idle rfl (.inl nofun) fun ⟨_, ns, job⟩ => nomatch idle.symm.trans job

theorem enterConfigAct_keepsRing (l : Link) (q : Unit) (s : State) :
    s.ringView.Keeps (enterConfigAct l q s).1.ringView := by
  unfold enterConfigAct
  split
  · exact .refl _
  next passed =>
    split
    · exact .of_eq rfl
    · dsimp only
      exact enterConfig_keepsRing passed

theorem resolveEnter_keepsRing (s : State) : s.ringView.Keeps (resolveEnter s).ringView := by
  unfold resolveEnter
  extract_lets sched s1
  have view : s1.ringView = s.ringView := rfl
  split
  · rw [answerOwed_ringView, view]
    exact .refl _
  next passed =>
    rw [answerOwed_ringView, ← view]
    exact enterConfig_keepsRing passed

/-- The working copy is written with the store IDLE, so that no guard is being written (R179). -/
theorem hullWriteAct_keepsRing (l : Link) (it : HullItem) (s : State) :
    s.ringView.Keeps (hullWriteAct l it s).1.ringView := by
  unfold hullWriteAct
  split
  · exact .refl _
  · split
    · exact .refl _
    · split
      · exact .refl _
      next busy =>
        split
        · exact .refl _
        · split
          · exact .refl _
          · split
            · exact .refl _
            · refine keeps_idle rfl (.inr rfl) fun ⟨_, ns, job⟩ => busy ?_
              simp [State.storeBusy, show s.store.job = some (.leaveConfig ns) from job]

/-- Tests of which none fails hold each (R176). -/
theorem firstFailure_eq_none {tests : List ItemTest} (good : firstFailure tests = none) {x : ItemTest}
    (mem : x ∈ tests) : x.1 = true := by
  unfold firstFailure at good
  rw [Option.map_eq_none_iff, List.find?_eq_none] at good
  simpa using good x mem

/-- A guard that passes the ring's test suits the ring (R152). -/
theorem testGuard_suits {w : Hull} {r : Ring} {ns : List Nat} (good : ∀ x ∈ testGuard w r ns, x.1 = true)
    (seven : ns.contains 7 = true) : w.s7.guard = r.guard ∨ r.entries = [] := by
  have passed : (!ns.contains 7 || w.s7.guard == r.guard || r.entries.isEmpty) = true :=
    good _ (List.mem_singleton_self _)
  simpa only [seven, Bool.not_true, Bool.false_or, Bool.or_eq_true, beq_iff_eq, List.isEmpty_iff] using passed

theorem leaveConfigAct_keepsRing (l : Link) (q : Unit) (s : State) :
    s.ringView.Keeps (leaveConfigAct l q s).1.ringView := by
  unfold leaveConfigAct
  split
  · exact .refl _
  next w working =>
    split_ifs with run busy config
    · exact .refl _
    · exact .refl _
    · unfold leaveFromConfig
      dsimp only
      split
      · exact .refl _
      next good =>
        split
        · rw [enterRun_ringView]
          exact keeps_enterRun _
        · refine keeps_write fun w' working' seven => ?_
          obtain rfl : w = w' := Option.some.inj (working.symm.trans working')
          exact testGuard_suits (fun x mem => firstFailure_eq_none good (List.mem_append_right _ mem)) seven
    · unfold leaveFromFault
      split
      · exact .refl _
      · exact keeps_idle rfl (.inr rfl) fun ⟨config', _⟩ => config config'

theorem leaveWritten_ringView (w : Hull) (ns : List Nat) (s : State) : (leaveWritten w ns s).ringView =
    { device := .run, working := none, job := none, ring := ringAfter w ns s.live s.ring } := by
  unfold leaveWritten
  extract_lets store s1 s2
  have view : s2.ringView = s1.ringView := by
    unfold s2
    split <;> rfl
  rw [enterRun_ringView, cancelAdopt_ringView, endJob_ringView, view]
  rfl

/-- New sections withdraw steps, and section 7 brings a guard that suits the ring (R152, R161). -/
theorem ringAfter_keepsRing (h : Hull) {ns : List Nat} (live : Area) {v : RingView} (run : v.device = .run)
    (suits : ns.contains 7 = true → h.s7.guard = v.ring.guard ∨ v.ring.entries = []) :
    v.Keeps { v with ring := ringAfter h ns live v.ring } := by
  unfold ringAfter
  extract_lets r
  have written : v.Keeps { v with ring := r } := by
    unfold r
    split
    next seven => exact setting_keepsRing _ run fun _ => suits seven
    · exact .refl v
  exact written.trans (keeps_shrunk (Ring.mark_shrinks r _ fun _ => rfl))

theorem leaveWritten_keepsRing {w : Hull} {ns : List Nat} {s : State} (config : s.device = .config)
    (job : s.store.job = some (.leaveConfig ns)) (working : s.working = some w) :
    s.ringView.Keeps (leaveWritten w ns s).ringView := by
  intro bounded
  have entered := (keeps_enterRun s.ringView).trans (keeps_job (j := none) fun _ => nofun) bounded
  rw [leaveWritten_ringView]
  exact ringAfter_keepsRing (v := { s.ringView with device := .run, working := none, job := none }) w s.live rfl
    (bounded.agrees ns w job config working) entered

theorem repairWritten_keepsRing (w : Hull) (ns : List Nat) (s : State) :
    s.ringView.Keeps (repairWritten w ns s).ringView := by
  unfold repairWritten
  rw [awaitRestart_ringView, endJobWith_ringView]
  exact keeps_job (v := s.ringView) fun _ => nofun

theorem leaveFailed_keepsRing (w : Hull) (ns : List Nat) (n : Nat) (s : State) :
    s.ringView.Keeps (leaveFailed w ns n s).ringView := by
  unfold leaveFailed
  rw [endJob_ringView, markWriteError_ringView]
  exact keeps_job (v := s.ringView) fun _ => nofun

/-! ## Jobs of the store -/

/-- A job that is no LEAVE-CONFIG begins. -/
theorem startJob_keepsRing {j : Job} (s : State) (other : ∀ ns, j ≠ .leaveConfig ns) :
    s.ringView.Keeps (startJob j s).ringView := keeps_job fun ns same => other ns (Option.some.inj same)

theorem endJob_keepsRing (k : JobKind) (q : Option Target) (c : Code) (x : Option (Option Quantity))
    (body : List Byte) (s : State) : s.ringView.Keeps (endJob k q c x body s).ringView := by
  rw [endJob_ringView]
  exact keeps_job fun _ => nofun

theorem saveAct_keepsRing (l : Link) (n : Nat) (s : State) : s.ringView.Keeps (saveAct l n s).1.ringView := by
  unfold saveAct
  split_ifs
  · exact .refl _
  · exact .refl _
  · exact .refl _
  · exact .refl _
  · simpa using keeps_job (v := s.ringView) (j := some (.save n s.version s.serial)) fun _ => nofun

theorem recallAct_keepsRing (l : Link) (n : Nat) (s : State) : s.ringView.Keeps (recallAct l n s).1.ringView := by
  unfold recallAct
  split_ifs
  · exact .refl _
  · exact .refl _
  · exact .refl _
  · simpa using keeps_job (v := s.ringView) (j := some (.recall n)) fun _ => nofun

theorem selfCheckAct_keepsRing (l : Link) (n : Nat) (s : State) :
    s.ringView.Keeps (selfCheckAct l n s).1.ringView := by
  unfold selfCheckAct
  split_ifs
  · exact .refl _
  · exact .refl _
  · simpa using keeps_job (v := s.ringView) (j := some (.selfCheck n none)) fun _ => nofun

theorem referenceWriteAct_keepsRing (l : Link) (q : Nat × Option Reference) (s : State) :
    s.ringView.Keeps (referenceWriteAct l q s).1.ringView := by
  unfold referenceWriteAct
  split
  · exact .refl _
  · split
    · exact .refl _
    · split
      · exact .refl _
      · split
        · exact .refl _
        · exact .refl _
        · split
          · exact .refl _
          · exact startJob_keepsRing s fun _ => nofun

theorem lockAct_keepsRing (l : Link) (q : Target) (s : State) : s.ringView.Keeps (lockAct l q s).1.ringView := by
  unfold lockAct
  split_ifs
  · exact .refl _
  · exact .refl _
  · exact .refl _
  · exact .refl _
  · exact .refl _
  · exact .refl _
  · exact startJob_keepsRing s fun _ => nofun

theorem freezeAct_keepsRing (l : Link) (q : Unit) (s : State) : s.ringView.Keeps (freezeAct l q s).1.ringView := by
  unfold freezeAct
  split_ifs
  · exact .refl _
  · exact .refl _
  · exact .refl _
  · exact startJob_keepsRing s fun _ => nofun

theorem identityWriteAct_keepsRing (l : Link) (i : Identity) (s : State) :
    s.ringView.Keeps (identityWriteAct l i s).1.ringView := by
  unfold identityWriteAct
  split_ifs
  · exact .refl _
  · exact .refl _
  · exact .refl _
  · exact .refl _
  · exact startJob_keepsRing s fun _ => nofun

theorem endSelfCheck_keepsRing (h : Hull) (r : Result) (s : State) :
    s.ringView.Keeps (endSelfCheck h r s).ringView := by
  unfold endSelfCheck
  split
  · exact endJob_keepsRing _ _ _ _ _ (emptyTrial s)
  · exact .refl _

/-! ## Resets and start-up -/

/-- A reset empties the ring (R149, R173). -/
theorem resetWith_bounded (store : Store) (s : State) : (resetWith store s).ringView.Bounded where
  few := Nat.zero_le _
  planned := Nat.zero_le _
  index := Nat.zero_lt_succ _
  start := fun _ => rfl
  agrees := fun _ _ => nofun

/-- The ring is still empty when start-up ends, and takes the guard of section 7 (R152). -/
theorem endStart_keepsRing {s : State} (start : s.device = .start) : s.ringView.Keeps (endStart s).ringView := by
  unfold endStart
  split
  · unfold startRunning
    rw [enterRun_ringView]
    intro bounded
    have entered := keeps_enterRun s.ringView bounded
    exact keeps_guard (v := { s.ringView with device := .run, working := none }) s.ring.version rfl
      (fun _ => .inr (bounded.start start)) entered
  · unfold startFaulted
    rw [recomputeAll_ringView]
    exact keeps_idle rfl (.inl nofun) fun ⟨config, _⟩ => nomatch config

end Sys2Proof.Machine

/-! PROOF. Every command keeps the ring within its bounds (R149, R152, R155). -/

namespace Sys2Proof.Machine

open RingView

/-! ## Every command -/

/-- That a command does not lose the bounds of the state it is given. -/
def CommandKeepsRing (o : Host.Outcome State Fault Refusal) (s : State) : Prop :=
  NextHas (fun s' => s.ringView.Keeps s'.ringView) o

theorem commandKeepsRing_next {s s' : State} (h : s.ringView.Keeps s'.ringView) : CommandKeepsRing (.next s') s :=
  nextHas_next (inv := fun s' => s.ringView.Keeps s'.ringView) h

/-- A command that leaves the view as it is. -/
theorem commandKeepsRing_of_view {s s' : State} (view : s'.ringView = s.ringView) : CommandKeepsRing (.next s') s :=
  commandKeepsRing_next (.of_eq view)

/-- A request keeps the bounds where its owning block does. -/
theorem request_keepsRing {α : Type} {kind : Nat} {form : Reader α} {right : Link → α → Bool}
    {act : Link → α → State → State × Reply} {t : Nat} {l : Link} {s : State}
    (acts : ∀ a (s : State), s.ringView.Keeps (act l a s).1.ringView) :
    CommandKeepsRing (.next (request kind form right act t l s)) s :=
  commandKeepsRing_next (request_has (inv := fun s' => s.ringView.Keeps s'.ringView) (.refl _) (.refl _)
    (fun a => acts a (handed t l s)) (fun tag r s' kept => by simpa using kept))

/-- A request whose owning block leaves the view as it is. -/
theorem request_keepsRing_of_view {α : Type} {kind : Nat} {form : Reader α} {right : Link → α → Bool}
    {act : Link → α → State → State × Reply} {t : Nat} {l : Link} {s : State}
    (acts : ∀ a (s : State), (act l a s).1.ringView = s.ringView) :
    CommandKeepsRing (.next (request kind form right act t l s)) s :=
  request_keepsRing fun a s => .of_eq (acts a s)

/-- A read. -/
theorem request_keepsRing_of_state {α : Type} {kind : Nat} {form : Reader α} {right : Link → α → Bool}
    {act : Link → α → State → State × Reply} {t : Nat} {l : Link} {s : State}
    (acts : ∀ a (s : State), (act l a s).1 = s) :
    CommandKeepsRing (.next (request kind form right act t l s)) s :=
  request_keepsRing_of_view fun a s => congrArg State.ringView (acts a s)

/-! ### Resets and start-up -/

theorem restart_keepsRing (t : Nat) (s : State) : CommandKeepsRing (execRestart t s) s := by
  apply commandKeepsRing_next
  split
  · exact fun _ => resetWith_bounded _ _
  · exact .refl _

theorem startUpEnd_keepsRing (t : Nat) (badSections : BitVec 8) (badSlots : BitVec 16) (s : State) :
    CommandKeepsRing (execStartUpEnd t badSections badSlots s) s := by
  apply commandKeepsRing_next
  split
  next start =>
    rw [settle_ringView]
    exact endStart_keepsRing (s := readStoreAtStart badSections badSlots (atTime t s)) start
  · exact .refl _

theorem linkReset_keepsRing (t : Nat) (l : Link) (s : State) : CommandKeepsRing (execLinkReset t l s) s := by
  apply commandKeepsRing_of_view
  split
  · rfl
  · rw [settle_ringView]
    unfold resetLink
    extract_lets discards s1
    have view : s1.ringView = s.ringView := dropTimers_ringView _ _
    split
    · unfold planningReset
      rw [releaseRecalled_ringView]
      exact view
    · exact view

/-! ### Links, samples and timers -/

theorem segmentArrival_keepsRing (t : Nat) (l : Link) (u : RxUnit) (s : State) :
    CommandKeepsRing (execSegmentArrival t l u s) s := by
  apply commandKeepsRing_of_view
  split <;> simp

theorem replyUnit_keepsRing (t : Nat) (l : Link) (u : RxUnit) (s : State) :
    CommandKeepsRing (execReplyUnit t l u s) s := by
  apply commandKeepsRing_of_view
  split <;> simp

theorem resendTimerExpiry_keepsRing (t : Nat) (l : Link) (s : State) :
    CommandKeepsRing (execResendTimerExpiry t l s) s := by
  apply commandKeepsRing_of_view
  split <;> simp

theorem linkBreakEnd_keepsRing (t : Nat) (l : Link) (s : State) : CommandKeepsRing (execLinkBreakEnd t l s) s := by
  apply commandKeepsRing_of_view
  split <;> simp

theorem sampleFrame_keepsRing (t : Nat) (u : RxUnit) (s : State) : CommandKeepsRing (execSampleFrame t u s) s := by
  apply commandKeepsRing_of_view
  split <;> simp

theorem staleTimerExpiry_keepsRing (t ch : Nat) (s : State) : CommandKeepsRing (execStaleTimerExpiry t ch s) s := by
  apply commandKeepsRing_of_view
  split
  · rfl
  · split <;> simp

theorem periodicTimerExpiry_keepsRing (t : Nat) (s : State) : CommandKeepsRing (execPeriodicTimerExpiry t s) s := by
  apply commandKeepsRing_of_view
  split
  · rw [settle_ringView, raiseLive_ringView]
    rfl
  · rfl

theorem timedHoldExpiry_keepsRing (t : Nat) (l : Link) (h : Line) (s : State) :
    CommandKeepsRing (execTimedHoldExpiry t l h s) s := by
  apply commandKeepsRing_of_view
  split <;> simp

/-! ### The Scheduler and the Unit -/

theorem grant_keepsRing (t : Nat) (s : State) : CommandKeepsRing (execGrant t s) s := by
  apply commandKeepsRing_next
  split
  · exact .refl _
  next h _ =>
    split
    · exact grantChoice_keepsRing h (atTime t s)
    · exact .refl _

theorem liveCompletion_keepsRing (t : Nat) (s : State) : CommandKeepsRing (execLiveCompletion t s) s := by
  apply commandKeepsRing_of_view
  split
  · rw [settle_ringView, publish_ringView]
    rfl
  · rfl

theorem stageCompletion_keepsRing (t : Nat) (s : State) : CommandKeepsRing (execStageCompletion t s) s := by
  apply commandKeepsRing_of_view
  split
  · rw [settle_ringView, stageDone_ringView]
    rfl
  · rfl

theorem selfCheckCompletion_keepsRing (t : Nat) (s : State) : CommandKeepsRing (execSelfCheckCompletion t s) s := by
  apply commandKeepsRing_next
  split
  · exact endSelfCheck_keepsRing _ _ { atTime t s with unit := none }
  · exact .refl _

theorem heldEnterConfig_keepsRing (t : Nat) (s : State) : CommandKeepsRing (execHeldEnterConfig t s) s := by
  apply commandKeepsRing_next
  split
  · exact resolveEnter_keepsRing (atTime t s)
  · exact .refl _

/-! ### The ends of store jobs -/

/-- A job other than LEAVE-CONFIG ends, from a state that shows the view of the command's. -/
theorem settled_endJob_keepsRing (k : JobKind) (q : Option Target) (c : Code) (x : Option (Option Quantity))
    (body : List Byte) {s s' : State} (view : s'.ringView = s.ringView) :
    s.ringView.Keeps (settle (endJob k q c x body s')).ringView := by
  rw [settle_ringView, ← view]
  exact endJob_keepsRing _ _ _ _ _ s'

theorem saveEnd_keepsRing (t : Nat) (verified : Bool) (s : State) : CommandKeepsRing (execSaveEnd t verified s) s := by
  apply commandKeepsRing_next
  split
  · exact settled_endJob_keepsRing _ _ _ _ _ (by simp)
  · exact .refl _

theorem recallReadEnd_keepsRing (t : Nat) (good : Bool) (s : State) :
    CommandKeepsRing (execRecallReadEnd t good s) s := by
  apply commandKeepsRing_next
  split
  · dsimp only
    split
    · exact settled_endJob_keepsRing _ _ _ _ _ rfl
    · exact settled_endJob_keepsRing _ _ _ _ _ rfl
  · exact .refl _

theorem selfCheckReadEnd_keepsRing (t : Nat) (good : Bool) (s : State) :
    CommandKeepsRing (execSelfCheckReadEnd t good s) s := by
  apply commandKeepsRing_next
  split
  · extract_lets s1 fail
    have fails (c : Code) : s.ringView.Keeps (fail c).ringView := settled_endJob_keepsRing _ _ _ _ _ rfl
    split
    · exact fails _
    · exact fails _
    · split
      · exact fails _
      · exact keeps_job (v := s.ringView) fun _ => nofun
  · exact .refl _

theorem referenceWriteEnd_keepsRing (t : Nat) (verified : Bool) (s : State) :
    CommandKeepsRing (execReferenceWriteEnd t verified s) s := by
  apply commandKeepsRing_next
  split
  · exact settled_endJob_keepsRing _ _ _ _ _ (by simp)
  · exact .refl _

theorem lockEnd_keepsRing (t : Nat) (verified : Bool) (s : State) : CommandKeepsRing (execLockEnd t verified s) s := by
  apply commandKeepsRing_next
  split
  · cases verified <;> exact settled_endJob_keepsRing _ _ _ _ _ (by simp)
  · exact .refl _

theorem freezeEnd_keepsRing (t : Nat) (verified : Bool) (s : State) :
    CommandKeepsRing (execFreezeEnd t verified s) s := by
  apply commandKeepsRing_next
  split
  · cases verified <;> exact settled_endJob_keepsRing _ _ _ _ _ rfl
  · exact .refl _

theorem identityWriteEnd_keepsRing (t : Nat) (verified : Bool) (s : State) :
    CommandKeepsRing (execIdentityWriteEnd t verified s) s := by
  apply commandKeepsRing_next
  split
  · cases verified <;> exact settled_endJob_keepsRing _ _ _ _ _ rfl
  · exact .refl _

theorem leaveConfigWriteEnd_keepsRing (t : Nat) (failed : Option Nat) (s : State) :
    CommandKeepsRing (execLeaveConfigWriteEnd t failed s) s := by
  apply commandKeepsRing_next
  split
  next ns w job working =>
    cases failed with
    | none =>
      rw [settle_ringView]
      split
      next config => exact leaveWritten_keepsRing (s := atTime t s) config job working
      · exact repairWritten_keepsRing w ns (atTime t s)
    | some n =>
      dsimp only
      split
      · exact leaveFailed_keepsRing w ns n (atTime t s)
      · exact .refl _
  · exact .refl _

/-! ### All of them -/

theorem exec_keepsRing (c : Instr) (s : State) : CommandKeepsRing (exec c s) s := by
  match c with
  | .powerOn t cut => exact commandKeepsRing_next fun _ => resetWith_bounded _ _
  | .resetLine t cut => exact commandKeepsRing_next fun _ => resetWith_bounded _ _
  | .startUpEnd t badSections badSlots => exact startUpEnd_keepsRing _ _ _ _
  | .restart t => exact restart_keepsRing _ _
  | .segmentArrival t l u => exact segmentArrival_keepsRing _ _ _ _
  | .replyUnit t l u => exact replyUnit_keepsRing _ _ _ _
  | .resendTimerExpiry t l => exact resendTimerExpiry_keepsRing _ _ _
  | .linkReset t l => exact linkReset_keepsRing _ _ _
  | .unknownRequestKind t l => exact request_keepsRing_of_view fun _ _ => rfl
  | .changeSetMessage t l => exact request_keepsRing_of_view (changeSetAct_ringView l)
  | .readSets t l => exact request_keepsRing_of_view fun _ _ => rfl
  | .attach t l => exact request_keepsRing_of_view (attachAct_ringView l)
  | .detach t l => exact request_keepsRing (detachAct_keepsRing l)
  | .forceLand t l => exact request_keepsRing_of_view (forceLandAct_ringView l)
  | .readHooks t l => exact request_keepsRing_of_view fun _ _ => rfl
  | .stepAppend t l => exact request_keepsRing (stepAppendAct_keepsRing l)
  | .stepWithdraw t l => exact request_keepsRing (stepWithdrawAct_keepsRing l)
  | .stepDone t l => exact request_keepsRing (stepDoneAct_keepsRing l)
  | .seqSet t l => exact request_keepsRing (seqSetAct_keepsRing l)
  | .readSequence t l => exact request_keepsRing_of_state (readSequenceAct_state l)
  | .readLookahead t l => exact request_keepsRing_of_view fun _ _ => rfl
  | .channelSet t l => exact request_keepsRing_of_view (channelSetAct_ringView l)
  | .channelEnable t l => exact request_keepsRing_of_view (channelEnableAct_ringView l)
  | .channelDisable t l => exact request_keepsRing_of_view (channelDisableAct_ringView l)
  | .readChannels t l => exact request_keepsRing_of_state (readChannelsAct_state l)
  | .holdAck t l => exact request_keepsRing_of_view (holdAckAct_ringView l)
  | .timedHold t l => exact request_keepsRing_of_view (timedHoldAct_ringView l)
  | .readHolds t l => exact request_keepsRing_of_view fun _ _ => rfl
  | .readVerdict t l => exact request_keepsRing_of_view (readVerdictAct_ringView l)
  | .evaluateNow t l => exact request_keepsRing_of_view (evaluateNowAct_ringView l)
  | .readScheduler t l => exact request_keepsRing_of_view fun _ _ => rfl
  | .readCondition t l => exact request_keepsRing_of_state (readConditionAct_state l)
  | .enterConfig t l => exact request_keepsRing (enterConfigAct_keepsRing l)
  | .heldEnterConfig t => exact heldEnterConfig_keepsRing _ _
  | .hullWrite t l => exact request_keepsRing (hullWriteAct_keepsRing l)
  | .leaveConfig t l => exact request_keepsRing (leaveConfigAct_keepsRing l)
  | .leaveConfigWriteEnd t failed => exact leaveConfigWriteEnd_keepsRing _ _ _
  | .save t l => exact request_keepsRing (saveAct_keepsRing l)
  | .saveEnd t verified => exact saveEnd_keepsRing _ _ _
  | .recall t l => exact request_keepsRing (recallAct_keepsRing l)
  | .recallReadEnd t checkGood => exact recallReadEnd_keepsRing _ _ _
  | .selfCheck t l => exact request_keepsRing (selfCheckAct_keepsRing l)
  | .selfCheckReadEnd t checkGood => exact selfCheckReadEnd_keepsRing _ _ _
  | .referenceWrite t l => exact request_keepsRing (referenceWriteAct_keepsRing l)
  | .referenceWriteEnd t verified => exact referenceWriteEnd_keepsRing _ _ _
  | .lock t l => exact request_keepsRing (lockAct_keepsRing l)
  | .lockEnd t verified => exact lockEnd_keepsRing _ _ _
  | .freeze t l => exact request_keepsRing (freezeAct_keepsRing l)
  | .freezeEnd t verified => exact freezeEnd_keepsRing _ _ _
  | .identityWrite t l => exact request_keepsRing (identityWriteAct_keepsRing l)
  | .identityWriteEnd t verified => exact identityWriteEnd_keepsRing _ _ _
  | .releaseTrial t l => exact request_keepsRing_of_view fun _ s => releaseRecalled_ringView s
  | .adopt t l => exact request_keepsRing_of_view (adoptAct_ringView l)
  | .readStore t l => exact request_keepsRing_of_view fun _ _ => rfl
  | .readArchive t l => exact request_keepsRing_of_view fun _ _ => rfl
  | .readIdentity t l => exact request_keepsRing_of_view fun _ _ => rfl
  | .readHull t l => exact request_keepsRing_of_state (readHullAct_state l)
  | .noticeSelect t l => exact request_keepsRing_of_view fun _ _ => rfl
  | .linkSet t l => exact request_keepsRing_of_view fun _ _ => rfl
  | .readSummary t l => exact request_keepsRing_of_view fun _ _ => rfl
  | .sampleFrame t u => exact sampleFrame_keepsRing _ _ _
  | .staleTimerExpiry t ch => exact staleTimerExpiry_keepsRing _ _ _
  | .periodicTimerExpiry t => exact periodicTimerExpiry_keepsRing _ _
  | .timedHoldExpiry t l h => exact timedHoldExpiry_keepsRing _ _ _ _
  | .grant t => exact grant_keepsRing _ _
  | .liveCompletion t => exact liveCompletion_keepsRing _ _
  | .stageCompletion t => exact stageCompletion_keepsRing _ _
  | .selfCheckCompletion t => exact selfCheckCompletion_keepsRing _ _
  | .linkBreakEnd t l => exact linkBreakEnd_keepsRing _ _ _

/-- Settles O56: only an append, a guard that comes into force and the entry to CONFIG could lose a bound, and each is
let through by the check that keeps it; every other command leaves the ring, marks entries of it or moves a job. -/
theorem stepsKeepTheRingBounds : Obligations.StepsKeepTheRingBounds :=
  keptByStep_of_exec (fun _ _ bounded => bounded) fun c s bounded s' run =>
    (ringBounded_iff s').mpr (exec_keepsRing c s s' run ((ringBounded_iff s).mp bounded))

end Sys2Proof.Machine

/-! PROOF. What the completion of a stage leaves of its run, and what an abandonment leaves of the result (R84, R141,
R144, R169 to R171). -/

namespace Sys2Proof.Machine

section

variable {t k : Nat} {s : State} {sn : Snapshot} {r : Run} {st : Stage}

/-- A stage completes with the evaluation of its snapshot, whose sums the Unit holds (R84, log 37). -/
theorem stageCompletion_leaves {s' : State} (unit : s.unit = some ⟨.stage k, sn, sn.accumulators⟩)
    (done : stageDone k sn.hull (evaluate sn) { atTime t s with unit := none } = s') :
    exec (.stageCompletion t) s = .next (settle s') := by
  change execStageCompletion t s = _
  unfold execStageCompletion
  rw [unit, ← done]
  rfl

theorem stageDone_abandoned {h : Hull} {e : Result} (gone : s.sched.run = none) : stageDone k h e s = s := by
  unfold stageDone
  rw [gone]

theorem stageDone_eq {h : Hull} {e : Result} (running : s.sched.run = some r) (stage : r.stages[k - 1]? = some st) :
    stageDone k h e s = finishStage k st h e r s := by
  unfold stageDone
  simp only [running, stage]

theorem finishStage_goesOn {h : Hull} {e : Result} (more : k < r.stages.length) : finishStage k st h e r s =
    { s with sched := { s.sched with run := some { r with
        records := r.records ++ [stageRecord k st h e]
        suspended := s.sched.livePending || s.sched.selfCheckWaiting } } } := if_neg (not_le.mpr more)

theorem finishStage_completes {h : Hull} {e : Result} (last : r.stages.length ≤ k) :
    finishStage k st h e r s = completeRun r.base (r.records ++ [stageRecord k st h e]) s := if_pos last

end

/-- Two first OVER stages are one for R171 where they agree in presence, step and kind. -/
theorem firstOverDiffers_eq_false_iff (a b : Option FirstOver) : firstOverDiffers a b = false ↔
    (a.map fun x => (x.step, x.kind)) = b.map fun x => (x.step, x.kind) := by
  cases a <;> cases b <;> simp [firstOverDiffers]

theorem abandonLook_noRun {s : State} (gone : s.sched.run = none) : abandonLook s = s := by
  unfold abandonLook
  rw [gone]

/-- An abandonment marks the result that stands and tells of it as it stands. -/
theorem abandonLook_running {s : State} (running : s.sched.run.isSome = true) : abandonLook s =
    let abandoned := { s with
      sched := { s.sched with run := none }, look := { s.look with outcome := .abandoned } }
    raiseNotice forcedNone (abandoned.sequenceNotice false) abandoned := by
  obtain ⟨r, run⟩ := Option.isSome_iff_exists.mp running
  unfold abandonLook
  rw [run]

/-- Settles O48: by whether the run is still there and whether the stage is its last. -/
theorem stageCompletionRecordsAStage : Obligations.StageCompletionRecordsAStage := by
  unfold Obligations.StageCompletionRecordsAStage
  refine ⟨fun t s k sn unit => ?stage, firstOverDiffers_eq_false_iff,
    fun s => ⟨abandonLook_noRun, abandonLook_running⟩⟩
  case stage =>
    refine ⟨fun gone => stageCompletion_leaves unit (stageDone_abandoned gone), fun r st running stage => ?_⟩
    have done := stageDone_eq (h := sn.hull) (e := evaluate sn) (s := { atTime t s with unit := none }) running stage
    exact ⟨fun more => stageCompletion_leaves unit (done.trans (finishStage_goesOn more)),
      fun last => stageCompletion_leaves unit (done.trans (finishStage_completes last))⟩

end Sys2Proof.Machine

/-! PROOF. What the reads of the plan and the store answer (R148, R162, R172, R194). -/

namespace Sys2Proof.Machine

section

variable {t : Nat} {l : Link} {m : InMsg} {s : State}

/-! ## The plan -/

/-- READ-SEQUENCE of a range (R162). -/
theorem readSequence_range {start n : Nat} (taken : Taken 11 readSequenceForm l m (.range start n) s) :
    exec (.readSequence t l) s = .next (answered l 11 m .done
      (listField (((s.ring.entries.drop start).take n).map stepBytes) ++ ringBytes s.ring) (handed t l s)) :=
  congrArg Host.Outcome.next (request_answered taken rfl rfl)

theorem readSequenceAct_step {id : Nat} {e : Step} (held : s.ring.find id = some e) :
    readSequenceAct l (.step id) s = (s, .answer .done (stepBytes e ++ ringBytes s.ring)) := by
  simp only [readSequenceAct, held]

theorem readSequenceAct_unknownItem {id : Nat} (absent : s.ring.find id = none) :
    readSequenceAct l (.step id) s = (s, .answer .unknownItem []) := by
  simp only [readSequenceAct, absent]
  rfl

/-- READ-LOOKAHEAD (R172). -/
theorem readLookahead_done {first n : Nat} (taken : Taken 12 readLookRange l m (first, n) s) :
    exec (.readLookahead t l) s = .next (answered l 12 m .done
      (be 1 s.look.outcome.num ++ baseBytes s.look.base ++ flagByte (!s.lookCurrent) ++ be 4 s.version.toNat
        ++ be 4 s.ring.version.toNat
        ++ optField 4 (s.look.firstOver.map fun f => be 1 f.ordinal ++ be 2 f.step ++ be 1 f.kind.num)
        ++ be 1 s.look.records.length
        ++ listField (((s.look.records.drop (first - 1)).take n).map stageRecordBytes)
        ++ be 1 (runStateNum s.sched.run) ++ optField 1 (s.sched.run.map fun r => be 1 r.next)
        ++ be 1 s.owner.num) (handed t l s)) :=
  congrArg Host.Outcome.next (request_answered taken rfl rfl)

/-- What READ-SCHEDULER tells, the period being the one read (R148). -/
def State.schedulerBytes (s : State) (period : Nat) : List Byte :=
  flagByte s.unit.isSome ++ optField 1 (s.unit.map fun u => be 1 u.work.num)
    ++ optField 1 ((s.unit.bind fun u => u.work.ordinal?).map (be 1)) ++ flagByte s.sched.livePending
    ++ be 1 s.sched.causes.toNat ++ be 4 (timeLeft s.sched.periodic s.now) ++ be 2 period
    ++ flagByte s.sched.selfCheckWaiting ++ be 1 (runStateNum s.sched.run)
    ++ optField 9 (s.sched.run.map fun r => be 4 r.base.version.toNat ++ be 4 r.base.seq.toNat ++ be 1 r.next)
    ++ flagByte s.sched.heldEnter ++ be 2 s.serial ++ be 4 s.version.toNat ++ be 1 s.device.num

theorem readSchedulerAct_inForce {h : Hull} (hull : s.hull = some h) :
    readSchedulerAct l () s = (s, .answer .done (s.schedulerBytes h.s7.period)) := by
  have period : s.periodRead = h.s7.period := by
    unfold State.periodRead
    rw [hull]
  have known : s.hull.isNone = false := by rw [hull]; rfl
  unfold readSchedulerAct
  rw [period, known]
  rfl

/-- With no section 7 in force the period read is the free value (log 19). -/
theorem readSchedulerAct_free (hull : s.hull = none) : readSchedulerAct l () s =
    ({ s with freeReads := s.freeReads + 1 }, .answer .done (s.schedulerBytes s.periodRead)) := by
  have unknown : s.hull.isNone = true := by rw [hull]; rfl
  unfold readSchedulerAct
  rw [unknown]
  rfl

/-! ## The store -/

/-- READ-STORE (R194). -/
theorem readStore_done (taken : Taken 36 noFields l m () s) :
    exec (.readStore t l) s = .next (answered l 36 m .done
      (be 1 s.device.num ++ flagByte s.store.job.isSome
        ++ optField 4 (s.store.job.map fun j => be 1 j.kind.num ++ targetBytes j.target)
        ++ optField 5 (s.store.lastJob.map fun j => be 1 j.kind.num ++ targetBytes j.target ++ be 1 j.code.num)
        ++ flagByte s.store.writeError ++ flagByte s.store.frozen
        ++ (s.store.lockSections.map flagByte).flatten ++ (s.store.lockSlots.map flagByte).flatten
        ++ (allSections.map (sectionAnswer s)).flatten ++ startBytes s
        ++ flagByte s.store.waitingAdopt ++ be 1 s.owner.num) (handed t l s)) :=
  congrArg Host.Outcome.next (request_answered taken rfl rfl)

/-- READ-ARCHIVE (R194). -/
theorem readArchive_done (taken : Taken 37 noFields l m () s) :
    exec (.readArchive t l) s = .next (answered l 37 m .done
      ((s.store.directory.zip s.store.lockSlots).map fun e => e.1.bytes ++ flagByte e.2).flatten (handed t l s)) :=
  congrArg Host.Outcome.next (request_answered taken rfl rfl)

/-- An identity record not yet written reads as absent (R194). -/
theorem readIdentityAct_unwritten (absent : s.store.identity = none) : readIdentityAct l () s =
    (s, .answer .done (List.replicate 71 0 ++ s.store.factorySerial)) := by
  unfold readIdentityAct
  rw [absent]
  rfl

theorem readIdentityAct_written {i : Identity} (held : s.store.identity = some i) : readIdentityAct l () s =
    (s, .answer .done ([1] ++ textBytes 32 i.name ++ i.hullNumber ++ textBytes 24 i.approval ++ be 2 i.year
      ++ be 1 i.month ++ be 1 i.day ++ s.store.factorySerial)) := by
  unfold readIdentityAct
  rw [held]
  simp [optField]

/-- The hull data a READ-HULL asks for. -/
def State.askedHull (s : State) (working : Bool) : Option Hull := if working = true then s.working else s.hull

section

variable {a : ItemAddr} {working : Bool} {h : Hull}

theorem readHullAct_refusedState (absent : s.askedHull working = none) :
    readHullAct l (a, working) s = (s, .answer .refusedState []) := by
  unfold State.askedHull at absent
  simp only [readHullAct, absent]
  rfl

theorem readHullAct_unknownItem (held : s.askedHull working = some h) (absent : h.content a = none) :
    readHullAct l (a, working) s = (s, .answer .unknownItem []) := by
  unfold State.askedHull at held
  simp only [readHullAct, held, absent]
  rfl

theorem readHullAct_done {bs : List Byte} (held : s.askedHull working = some h) (content : h.content a = some bs) :
    readHullAct l (a, working) s = (s, .answer .done bs) := by
  unfold State.askedHull at held
  simp only [readHullAct, held, content]

end

theorem readSequence_answered {q : SequenceForm} {code : Code} {body : List Byte}
    (taken : Taken 11 readSequenceForm l m q s)
    (act : readSequenceAct l q (handed t l s) = (handed t l s, .answer code body)) :
    exec (.readSequence t l) s = .next (answered l 11 m code body (handed t l s)) :=
  congrArg Host.Outcome.next (request_answered taken rfl act)

theorem readScheduler_answered {s' : State} {body : List Byte} (taken : Taken 22 noFields l m () s)
    (act : readSchedulerAct l () (handed t l s) = (s', .answer .done body)) :
    exec (.readScheduler t l) s = .next (answered l 22 m .done body s') :=
  congrArg Host.Outcome.next (request_answered taken rfl act)

theorem readIdentity_answered {body : List Byte} (taken : Taken 38 noFields l m () s)
    (act : readIdentityAct l () (handed t l s) = (handed t l s, .answer .done body)) :
    exec (.readIdentity t l) s = .next (answered l 38 m .done body (handed t l s)) :=
  congrArg Host.Outcome.next (request_answered taken rfl act)

theorem readHull_answered {a : ItemAddr} {working : Bool} {code : Code} {body : List Byte}
    (taken : Taken 39 readHullForm l m (a, working) s)
    (act : readHullAct l (a, working) (handed t l s) = (handed t l s, .answer code body)) :
    exec (.readHull t l) s = .next (answered l 39 m code body (handed t l s)) :=
  congrArg Host.Outcome.next (request_answered taken rfl act)

end

/-- Settles O16: each read is answered at its taking by a block that leaves the state as it was handed to it, but for
the counter of free values. -/
theorem readsOfThePlanAndStoreAnswer : Obligations.ReadsOfThePlanAndStoreAnswer := by
  unfold Obligations.ReadsOfThePlanAndStoreAnswer
  refine ⟨fun t l s m => ⟨?range, ?step, ?noStep, ?lookahead, ?scheduler⟩,
    fun t l s m => ⟨?store, ?archive, ?unwritten, ?written, ?inForce, ?copy, ?noHull⟩⟩
  case range => exact fun start n taken => readSequence_range taken
  case step => exact fun id e taken held => readSequence_answered taken (readSequenceAct_step held)
  case noStep => exact fun id taken absent => readSequence_answered taken (readSequenceAct_unknownItem absent)
  case lookahead => exact fun first n taken => readLookahead_done taken
  case scheduler =>
    exact fun taken => ⟨fun h hull => readScheduler_answered taken (readSchedulerAct_inForce hull),
      fun hull => ⟨_, readScheduler_answered taken (readSchedulerAct_free hull)⟩⟩
  case store => exact fun taken => readStore_done taken
  case archive => exact fun taken => readArchive_done taken
  case unwritten => exact fun taken absent => readIdentity_answered taken (readIdentityAct_unwritten absent)
  case written => exact fun i taken held => readIdentity_answered taken (readIdentityAct_written held)
  case inForce => exact fun a h bs taken hull content => readHull_answered taken (readHullAct_done hull content)
  case copy => exact fun a h bs taken working content => readHull_answered taken (readHullAct_done working content)
  case noHull =>
    intro a working taken source
    exact ⟨fun absent => readHull_answered taken (readHullAct_refusedState absent),
      fun h held absent => readHull_answered taken (readHullAct_unknownItem held absent)⟩

end Sys2Proof.Machine

/-! PROOF. Which operations, and which owning blocks of requests, leave the whole store as it is. -/

namespace Sys2Proof.Machine

/-! ## What leaves the store as it is

One lemma per operation that touches no field of the store, for `simp` and `rw` to see through it. -/

@[simp] theorem emptyTrial_store (s : State) : (emptyTrial s).store = s.store := rfl
@[simp] theorem suspendRun_store (s : State) : (suspendRun s).store = s.store := rfl
@[simp] theorem grantStage_store (h : Hull) (r : Run) (k : Nat) (st : Stage) (s : State) :
    (grantStage h r k st s).store = s.store := rfl
@[simp] theorem reportSet_store (l : Link) (o : SetOutcome) (s : State) : (reportSet l o s).store = s.store := rfl

@[simp] theorem recomputeAll_store (s : State) : (recomputeAll s).store = s.store := recomputeLines_store _ _

@[simp] theorem recomputeMask_store (m : LineSet) (s : State) : (recomputeMask m s).store = s.store :=
  recomputeLines_store _ _

@[simp] theorem setHoldTimer_store (l : Link) (h : Line) (timer : Option Nat) (s : State) :
    (setHoldTimer l h timer s).store = s.store := by
  unfold setHoldTimer
  rw [recompute_store]

@[simp] theorem dropTimers_store (l : Link) (s : State) : (dropTimers l s).store = s.store := by
  unfold dropTimers
  rw [recomputeLines_store]

@[simp] theorem dropLook_store (s : State) : (dropLook s).store = s.store := by
  unfold dropLook
  split <;> simp

@[simp] theorem entryCauses_store (s : State) : (entryCauses s).store = s.store := by
  unfold entryCauses
  dsimp only
  split_ifs <;> simp

@[simp] theorem enterRun_store (h : Hull) (s : State) : (enterRun h s).store = s.store := by
  unfold enterRun
  rw [recomputeAll_store, entryCauses_store]

/-! ### Movements and channels -/

@[simp] theorem lotNotice_store (e : LotEvent) (x : Lot) (freed : Bool) (crane : Nat) (peak : Option Int) (s : State) :
    (lotNotice e x freed crane peak s).store = s.store := raiseNotice_store _ _ _

@[simp] theorem land_store (e : LotEvent) (x : Lot) (crane : Nat) (peak : Option Int) (s : State) :
    (land e x crane peak s).1.store = s.store := by
  rw [land_only]

@[simp] theorem detach_store (x : Lot) (s : State) : (detach x s).1.store = s.store := by
  unfold detach
  extract_lets crane
  split <;> exact lotNotice_store _ _ _ _ _ _

@[simp] theorem channelNotice_store (k : Nat) (c : Channel) (e : ChanEvents) (s : State) :
    (channelNotice k c e s).store = s.store := by
  rw [channelNotice_only]

@[simp] theorem disableChannel_store (k : Nat) (c : Channel) (s : State) : (disableChannel k c s).store = s.store := by
  rw [disableChannel_only]

@[simp] theorem disableAll_store (s : State) : (disableAll s).store = s.store := by
  unfold disableAll
  generalize numbered 0 s.bank.channels = cs
  induction cs generalizing s with
  | nil => rfl
  | cons c cs ih => rw [List.foldl_cons, ih, disableChannel_store]

@[simp] theorem takeSample_store (k : Nat) (c : Channel) (v : Int) (s : State) :
    (takeSample k c v s).store = s.store := by
  rw [takeSample_only]

@[simp] theorem takeFrame_store (u : RxUnit) (s : State) : (takeFrame u s).store = s.store := by
  unfold takeFrame
  split
  · rfl
  · split
    · rfl
    · split
      · rfl
      · exact takeSample_store _ _ _ _

/-! ### Publication, grants and completions, ENTER-CONFIG -/

@[simp] theorem publish_store (h : Hull) (r : Result) (s : State) : (publish h r s).store = s.store := by
  rw [publish_only]

@[simp] theorem applyReady_store (s : State) : (applyReady s).store = s.store := by
  rw [applyReady_only]

@[simp] theorem completeRun_store (b : BaseInfo) (rs : List StageRecord) (s : State) :
    (completeRun b rs s).store = s.store := by
  rw [completeRun_only]

@[simp] theorem startRun_store (h : Hull) (s : State) : (startRun h s).store = s.store := by
  unfold startRun
  dsimp only
  split <;> simp

@[simp] theorem continueRun_store (h : Hull) (r : Run) (s : State) : (continueRun h r s).store = s.store := by
  unfold continueRun
  split
  · split <;> simp
  · exact startRun_store h s

@[simp] theorem stageDone_store (k : Nat) (h : Hull) (e : Result) (s : State) : (stageDone k h e s).store = s.store := by
  unfold stageDone
  split
  · rfl
  · split
    · rfl
    · unfold finishStage
      dsimp only
      split
      · exact completeRun_store _ _ s
      · rfl

@[simp] theorem enterConfig_store (s : State) : (enterConfig s).store = s.store := by
  unfold enterConfig
  rw [recomputeAll_store, disableAll_store]
  exact dropLook_store s

@[simp] theorem resolveEnter_store (s : State) : (resolveEnter s).store = s.store := by
  unfold resolveEnter
  extract_lets sched s1
  split <;> simp [s1]

/-! ### Owning blocks of requests -/

@[simp] theorem closeSet_store (l : Link) (q : SetMessage) (s : State) : (closeSet l q s).1.store = s.store := by
  unfold closeSet
  extract_lets sets held edits
  split
  · rfl
  · rw [raiseLive_store]

@[simp] theorem holdSet_store (l : Link) (q : SetMessage) (s : State) : (holdSet l q s).1.store = s.store := by
  unfold holdSet
  dsimp only
  split
  · split <;> rfl
  · split <;> rfl

theorem changeSetAct_store (l : Link) (q : SetMessage) (s : State) : (changeSetAct l q s).1.store = s.store := by
  unfold changeSetAct
  split_ifs
  · rfl
  · exact closeSet_store _ _ _
  · exact holdSet_store _ _ _

theorem attachAct_store (l : Link) (q : AttachFields) (s : State) : (attachAct l q s).1.store = s.store := by
  unfold attachAct
  split
  · rfl
  · rw [lotNotice_store]

theorem detachAct_store (l : Link) (id : Nat) (s : State) : (detachAct l id s).1.store = s.store := by
  unfold detachAct
  split
  · rfl
  · split
    · rfl
    · split
      · rfl
      · exact detach_store _ _

theorem forceLandAct_store (l : Link) (id : Nat) (s : State) : (forceLandAct l id s).1.store = s.store := by
  unfold forceLandAct
  split
  · rfl
  · split
    · rfl
    · dsimp only
      split_ifs
      · rfl
      · rfl
      · exact land_store _ _ _ _ _

theorem stepAppendAct_store (l : Link) (w : StepWork) (s : State) : (stepAppendAct l w s).1.store = s.store := by
  unfold stepAppendAct
  split <;> rfl

theorem stepWithdrawAct_store (l : Link) (id : Nat) (s : State) : (stepWithdrawAct l id s).1.store = s.store := by
  unfold stepWithdrawAct
  split
  · rfl
  · split
    · rfl
    · split_ifs <;> rfl

theorem stepDoneAct_store (l : Link) (q : Nat × Bool) (s : State) : (stepDoneAct l q s).1.store = s.store := by
  unfold stepDoneAct
  split
  · rfl
  · split
    · rfl
    · split_ifs <;> rfl

theorem seqSetAct_store (l : Link) (q : Option Nat × Option Nat) (s : State) : (seqSetAct l q s).1.store = s.store := by
  unfold seqSetAct
  dsimp only
  split_ifs <;> rfl

theorem channelSetAct_store (l : Link) (q : Nat × ChannelCfg) (s : State) : (channelSetAct l q s).1.store = s.store := by
  unfold channelSetAct
  split <;> rfl

theorem channelEnableAct_store (l : Link) (ch : Nat) (s : State) : (channelEnableAct l ch s).1.store = s.store := by
  unfold channelEnableAct
  split
  · rfl
  · split
    · rfl
    · split_ifs <;> rfl

theorem channelDisableAct_store (l : Link) (ch : Nat) (s : State) : (channelDisableAct l ch s).1.store = s.store := by
  unfold channelDisableAct
  split
  · rfl
  · split
    · rfl
    · dsimp only
      split
      · rfl
      · split <;> simp

theorem holdAckAct_store (l : Link) (h : Line) (s : State) : (holdAckAct l h s).1.store = s.store := by
  unfold holdAckAct
  split_ifs
  · rfl
  · rfl
  · rw [recompute_store]

theorem timedHoldAct_store (l : Link) (q : Line × Nat) (s : State) : (timedHoldAct l q s).1.store = s.store := by
  unfold timedHoldAct
  dsimp only
  split_ifs <;> simp

theorem readVerdictAct_store (l : Link) (q : VerdictPart) (s : State) : (readVerdictAct l q s).1.store = s.store := by
  unfold readVerdictAct
  split
  · rfl
  · split <;> rfl

theorem evaluateNowAct_store (l : Link) (q : Unit) (s : State) : (evaluateNowAct l q s).1.store = s.store := by
  unfold evaluateNowAct
  split
  · rfl
  · exact raiseLive_store _ _

theorem enterConfigAct_store (l : Link) (q : Unit) (s : State) : (enterConfigAct l q s).1.store = s.store := by
  unfold enterConfigAct
  split
  · rfl
  · split
    · rfl
    · exact enterConfig_store s

theorem hullWriteAct_store (l : Link) (it : HullItem) (s : State) : (hullWriteAct l it s).1.store = s.store := by
  unfold hullWriteAct
  split
  · rfl
  · split
    · rfl
    · split
      · rfl
      · split
        · rfl
        · split
          · rfl
          · split <;> rfl

end Sys2Proof.Machine

/-! PROOF. What R191 to R193 make permanent as a view of the store: the marks, the identity record and the factory
serial, with the store job that may write one of them; and the moves of the view that undo nothing. -/

namespace Sys2Proof.Machine

/-! ## The view -/

/-- The lock marks, the freeze mark, the identity record, the factory serial and the store job. -/
structure MarksView where
  lockSections : List Bool
  lockSlots : List Bool
  frozen : Bool
  identity : Option Identity
  factorySerial : List Byte
  job : Option Job

def Store.marksView (st : Store) : MarksView :=
  { lockSections := st.lockSections, lockSlots := st.lockSlots, frozen := st.frozen, identity := st.identity
    factorySerial := st.factorySerial, job := st.job }

namespace MarksView

variable {v v' v'' : MarksView}

/-- The running job does not write what is already permanent (R191, R193), in the terms of the view. -/
structure Lawful (v : MarksView) : Prop where
  frozen : v.frozen = true → ∀ q, v.job ≠ some (.lock q)
  identity : v.identity.isSome = true → ∀ i, v.job ≠ some (.identityWrite i)

/-- What stands permanent in one view stands in the other (R191 to R193). -/
structure Stands (v v' : MarksView) : Prop where
  sections : ∀ n, v.lockSections.getD n false = true → v'.lockSections.getD n false = true
  slots : ∀ n, v.lockSlots.getD n false = true → v'.lockSlots.getD n false = true
  frozen : v.frozen = true → v'.frozen = true ∧ v'.lockSections = v.lockSections ∧ v'.lockSlots = v.lockSlots
  identity : ∀ i, v.identity = some i → v'.identity = some i
  serial : v'.factorySerial = v.factorySerial

/-- Going from one view to another undoes nothing permanent and leaves a lawful job lawful. -/
structure Keeps (v v' : MarksView) : Prop where
  lawful : v.Lawful → v'.Lawful
  stands : v.Lawful → v.Stands v'

/-! ## Moves of the view that undo nothing -/

/-- Which job runs is nothing permanent. -/
theorem stands_job (v : MarksView) (j : Option Job) : v.Stands { v with job := j } :=
  ⟨fun _ => id, fun _ => id, fun frozen => ⟨frozen, rfl, rfl⟩, fun _ => id, rfl⟩

@[simp] theorem Keeps.refl (v : MarksView) : v.Keeps v := ⟨id, fun _ => stands_job v v.job⟩

theorem Keeps.of_eq (h : v' = v) : v.Keeps v' := h ▸ .refl v

/-- A job begins that writes nothing already permanent. -/
theorem keeps_begin (j : Job) (lock : ∀ q, j = .lock q → v.frozen = false)
    (identity : ∀ i, j = .identityWrite i → v.identity = none) : v.Keeps { v with job := some j } where
  lawful _ := by
    refine ⟨fun frozen q begun => ?_, fun written i begun => ?_⟩
    · simp [lock q (Option.some.inj begun)] at frozen
    · simp [identity i (Option.some.inj begun)] at written
  stands _ := stands_job v _

/-- A job ends that has written nothing permanent. -/
theorem keeps_end (v : MarksView) : v.Keeps { v with job := none } where
  lawful _ := ⟨fun _ _ => nofun, fun _ _ => nofun⟩
  stands _ := stands_job v _

/-- Setting a mark leaves every mark that is set. -/
theorem getD_set_true {marks : List Bool} {n : Nat} (k : Nat) (set : marks.getD n false = true) :
    (marks.set k true).getD n false = true := by
  simp only [List.getD_eq_getElem?_getD, List.getElem?_set] at set ⊢
  split_ifs <;> simp_all

/-- A LOCK of a section ends: it was lawful, so that FREEZE does not stand (R191, R192). -/
theorem keeps_lockSection {n : Nat} (running : v.job = some (.lock (.sec n))) :
    v.Keeps { v with lockSections := v.lockSections.set n true, job := none } where
  lawful _ := ⟨fun _ _ => nofun, fun _ _ => nofun⟩
  stands lawful := ⟨fun _ => getD_set_true n, fun _ => id, fun frozen => absurd running (lawful.frozen frozen _),
    fun _ => id, rfl⟩

/-- A LOCK of a slot ends. -/
theorem keeps_lockSlot {n : Nat} (running : v.job = some (.lock (.slot n))) :
    v.Keeps { v with lockSlots := v.lockSlots.set n true, job := none } where
  lawful _ := ⟨fun _ _ => nofun, fun _ _ => nofun⟩
  stands lawful := ⟨fun _ => id, fun _ => getD_set_true n, fun frozen => absurd running (lawful.frozen frozen _),
    fun _ => id, rfl⟩

/-- A FREEZE ends. -/
theorem keeps_freeze (v : MarksView) : v.Keeps { v with frozen := true, job := none } where
  lawful _ := ⟨fun _ _ => nofun, fun _ _ => nofun⟩
  stands _ := ⟨fun _ => id, fun _ => id, fun _ => ⟨rfl, rfl, rfl⟩, fun _ => id, rfl⟩

/-- An IDENTITY-WRITE ends: it was lawful, so that no record was written before (R193). -/
theorem keeps_identity {i : Identity} (running : v.job = some (.identityWrite i)) :
    v.Keeps { v with identity := some i, job := none } where
  lawful _ := ⟨fun _ _ => nofun, fun _ _ => nofun⟩
  stands lawful := by
    refine ⟨fun _ => id, fun _ => id, fun frozen => ⟨frozen, rfl, rfl⟩, fun k written => ?_, rfl⟩
    exact absurd running (lawful.identity (by simp [written]) i)

end MarksView

theorem jobsLawful_iff (s : State) : s.jobsLawful ↔ s.store.marksView.Lawful :=
  ⟨fun ⟨frozen, identity⟩ => ⟨frozen, identity⟩, fun ⟨frozen, identity⟩ => ⟨frozen, identity⟩⟩

theorem marksKept_iff (s s' : State) : s.marksKept s' ↔ s.store.marksView.Stands s'.store.marksView :=
  ⟨fun ⟨sections, slots, frozen, identity, serial⟩ => ⟨sections, slots, frozen, identity, serial⟩,
    fun ⟨sections, slots, frozen, identity, serial⟩ => ⟨sections, slots, frozen, identity, serial⟩⟩

end Sys2Proof.Machine

/-! PROOF. Which operations leave the view of the permanent marks as it is, and which move it. -/

namespace Sys2Proof.Machine

open MarksView

/-! ## What leaves the view as it is -/

@[simp] theorem putSlot_marksView (n : Nat) (v : Slot) (s : State) :
    (putSlot n v s).store.marksView = s.store.marksView := rfl
@[simp] theorem putEntry_marksView (n : Nat) (e : DirEntry) (s : State) :
    (putEntry n e s).store.marksView = s.store.marksView := rfl
@[simp] theorem awaitRestart_marksView (s : State) : (awaitRestart s).store.marksView = s.store.marksView := rfl

@[simp] theorem markWriteError_marksView (failed : Bool) (s : State) :
    (markWriteError failed s).store.marksView = s.store.marksView := by
  cases failed <;> rfl

@[simp] theorem markDelivered_marksView (o : Outbound) (r : ReplyKind) (s : State) :
    (markDelivered o r s).store.marksView = s.store.marksView := by
  unfold markDelivered
  split <;> rfl

@[simp] theorem cancelAdopt_marksView (s : State) : (cancelAdopt s).store.marksView = s.store.marksView := by
  unfold cancelAdopt
  split
  · rw [archiveNotice_store]
    rfl
  · rfl

@[simp] theorem releaseRecalled_marksView (s : State) : (releaseRecalled s).store.marksView = s.store.marksView := by
  unfold releaseRecalled
  split
  · rw [cancelAdopt_marksView]
    rfl
  · rfl

@[simp] theorem applyAdopt_marksView (s : State) : (applyAdopt s).store.marksView = s.store.marksView := by
  rw [applyAdopt_only]
  rfl

theorem adoptAct_marksView (l : Link) (q : Unit) (s : State) :
    (adoptAct l q s).1.store.marksView = s.store.marksView := by
  unfold adoptAct
  split_ifs
  · rfl
  · rfl
  · rfl
  · rfl
  · rw [raiseLive_store]
    rfl

theorem grantChoice_marksView (h : Hull) (s : State) : (grantChoice h s).store.marksView = s.store.marksView := by
  unfold grantChoice
  split
  · unfold grantLive
    dsimp only
    rw [applyReady_store, applyAdopt_marksView, suspendRun_store]
  · split
    · rfl
    · split
      · rw [continueRun_store]
      · split <;> simp

theorem endStart_marksView (s : State) : (endStart s).store.marksView = s.store.marksView := by
  unfold endStart
  split
  · unfold startRunning
    rw [enterRun_store]
  · unfold startFaulted
    rw [recomputeAll_store]
    rfl

/-! ## What moves the view -/

@[simp] theorem startJob_marksView (j : Job) (s : State) :
    (startJob j s).store.marksView = { s.store.marksView with job := some j } := rfl

@[simp] theorem endJobWith_marksView (restart : Bool) (k : JobKind) (q : Option Target) (c : Code)
    (x : Option (Option Quantity)) (body : List Byte) (s : State) :
    (endJobWith restart k q c x body s).store.marksView = { s.store.marksView with job := none } := by
  unfold endJobWith
  rw [archiveNotice_store]
  rfl

@[simp] theorem endJob_marksView (k : JobKind) (q : Option Target) (c : Code) (x : Option (Option Quantity))
    (body : List Byte) (s : State) : (endJob k q c x body s).store.marksView = { s.store.marksView with job := none } :=
  endJobWith_marksView _ _ _ _ _ _ _

/-- A job that writes no permanent mark ends, from a store that shows the view of the command's. -/
theorem endJob_keepsMarks (k : JobKind) (q : Option Target) (c : Code) (x : Option (Option Quantity))
    (body : List Byte) {s s' : State} (view : s'.store.marksView = s.store.marksView) :
    s.store.marksView.Keeps (endJob k q c x body s').store.marksView := by
  rw [endJob_marksView, view]
  exact keeps_end _

/-- A job that writes no permanent mark begins. -/
theorem startJob_keepsMarks {j : Job} {s s' : State} (view : s'.store.marksView = { s.store.marksView with job := some j })
    (lock : ∀ q, j ≠ .lock q) (identity : ∀ i, j ≠ .identityWrite i) :
    s.store.marksView.Keeps s'.store.marksView := by
  rw [view]
  exact keeps_begin j (fun q same => absurd same (lock q)) fun i same => absurd same (identity i)

/-! ### Requests that begin a job -/

theorem saveAct_keepsMarks (l : Link) (n : Nat) (s : State) :
    s.store.marksView.Keeps (saveAct l n s).1.store.marksView := by
  unfold saveAct
  split_ifs
  · exact .refl _
  · exact .refl _
  · exact .refl _
  · exact .refl _
  · exact startJob_keepsMarks (j := .save n s.version s.serial) (by simp) nofun nofun

theorem recallAct_keepsMarks (l : Link) (n : Nat) (s : State) :
    s.store.marksView.Keeps (recallAct l n s).1.store.marksView := by
  unfold recallAct
  split_ifs
  · exact .refl _
  · exact .refl _
  · exact .refl _
  · exact startJob_keepsMarks (j := .recall n) (by simp) nofun nofun

theorem selfCheckAct_keepsMarks (l : Link) (n : Nat) (s : State) :
    s.store.marksView.Keeps (selfCheckAct l n s).1.store.marksView := by
  unfold selfCheckAct
  split_ifs
  · exact .refl _
  · exact .refl _
  · exact startJob_keepsMarks (j := .selfCheck n none) (by simp) nofun nofun

theorem referenceWriteAct_keepsMarks (l : Link) (q : Nat × Option Reference) (s : State) :
    s.store.marksView.Keeps (referenceWriteAct l q s).1.store.marksView := by
  unfold referenceWriteAct
  split
  · exact .refl _
  · split
    · exact .refl _
    · split
      · exact .refl _
      · split
        · exact .refl _
        · exact .refl _
        · split
          · exact .refl _
          · exact startJob_keepsMarks (j := .referenceWrite q.1 q.2) (by simp) nofun nofun

/-- LOCK begins where FREEZE does not stand (R191). -/
theorem lockAct_keepsMarks (l : Link) (q : Target) (s : State) :
    s.store.marksView.Keeps (lockAct l q s).1.store.marksView := by
  unfold lockAct
  split_ifs with serves locked frozen
  · exact .refl _
  · exact .refl _
  · exact .refl _
  · exact .refl _
  · exact .refl _
  · exact .refl _
  · exact keeps_begin (.lock q) (fun _ _ => Bool.eq_false_iff.mpr frozen) nofun

theorem freezeAct_keepsMarks (l : Link) (q : Unit) (s : State) :
    s.store.marksView.Keeps (freezeAct l q s).1.store.marksView := by
  unfold freezeAct
  split_ifs
  · exact .refl _
  · exact .refl _
  · exact .refl _
  · exact startJob_keepsMarks (j := .freeze) rfl nofun nofun

/-- IDENTITY-WRITE begins where no record is written (R193). -/
theorem identityWriteAct_keepsMarks (l : Link) (i : Identity) (s : State) :
    s.store.marksView.Keeps (identityWriteAct l i s).1.store.marksView := by
  unfold identityWriteAct
  split_ifs with serves written
  · exact .refl _
  · exact .refl _
  · exact .refl _
  · exact .refl _
  · exact keeps_begin (.identityWrite i) nofun fun _ _ => Option.not_isSome_iff_eq_none.mp written

theorem leaveConfigAct_keepsMarks (l : Link) (q : Unit) (s : State) :
    s.store.marksView.Keeps (leaveConfigAct l q s).1.store.marksView := by
  unfold leaveConfigAct
  split
  · exact .refl _
  next w _ =>
    split_ifs
    · exact .refl _
    · exact .refl _
    · unfold leaveFromConfig
      dsimp only
      split
      · exact .refl _
      · split
        · rw [enterRun_store]
          exact .refl _
        · exact startJob_keepsMarks (j := .leaveConfig (s.toWrite w)) rfl nofun nofun
    · unfold leaveFromFault
      split
      · exact .refl _
      · exact startJob_keepsMarks (j := .leaveConfig (s.toRepair w)) rfl nofun nofun

/-! ### The ends of a LEAVE-CONFIG write -/

theorem leaveWritten_marksView (w : Hull) (ns : List Nat) (s : State) :
    (leaveWritten w ns s).store.marksView = { s.store.marksView with job := none } := by
  unfold leaveWritten
  extract_lets store s1 s2
  have view : s2.store = s1.store := by
    unfold s2
    split <;> rfl
  rw [enterRun_store, cancelAdopt_marksView, endJob_marksView, view]
  rfl

theorem repairWritten_marksView (w : Hull) (ns : List Nat) (s : State) :
    (repairWritten w ns s).store.marksView = { s.store.marksView with job := none } := by
  unfold repairWritten
  rw [awaitRestart_marksView, endJobWith_marksView]
  rfl

theorem leaveFailed_marksView (w : Hull) (ns : List Nat) (n : Nat) (s : State) :
    (leaveFailed w ns n s).store.marksView = { s.store.marksView with job := none } := by
  unfold leaveFailed
  rw [endJob_marksView, markWriteError_marksView]
  rfl

/-- A reset leaves what is permanent and ends every job (R173, R174). -/
theorem resetWith_keepsMarks {store : Store} {s : State} (same : store.marksView = s.store.marksView) :
    s.store.marksView.Keeps (resetWith store s).store.marksView := by
  have view : (resetWith store s).store.marksView = { store.marksView with job := none } := rfl
  rw [view, same]
  exact keeps_end _

theorem cutJob_marksView (s : State) (cut : WriteCut) : (cutJob s cut).marksView = s.store.marksView := by
  unfold cutJob
  split
  · rfl
  · rfl
  · split <;> rfl
  · rfl

end Sys2Proof.Machine

/-! PROOF. No command undoes a permanent mark (R191 to R193). -/

namespace Sys2Proof.Machine

open MarksView

/-! ## Every command -/

/-- That a command undoes nothing permanent and leaves a lawful job lawful. -/
def CommandKeepsMarks (o : Host.Outcome State Fault Refusal) (s : State) : Prop :=
  NextHas (fun s' => s.store.marksView.Keeps s'.store.marksView) o

theorem commandKeepsMarks_next {s s' : State} (h : s.store.marksView.Keeps s'.store.marksView) :
    CommandKeepsMarks (.next s') s :=
  nextHas_next (inv := fun s' => s.store.marksView.Keeps s'.store.marksView) h

/-- A command that leaves the view as it is. -/
theorem commandKeepsMarks_of_view {s s' : State} (view : s'.store.marksView = s.store.marksView) :
    CommandKeepsMarks (.next s') s :=
  commandKeepsMarks_next (.of_eq view)

/-- A command that leaves the store as it is. -/
theorem commandKeepsMarks_of_store {s s' : State} (same : s'.store = s.store) : CommandKeepsMarks (.next s') s :=
  commandKeepsMarks_of_view (congrArg Store.marksView same)

/-- A request undoes nothing where its owning block does not. -/
theorem request_keepsMarks {α : Type} {kind : Nat} {form : Reader α} {right : Link → α → Bool}
    {act : Link → α → State → State × Reply} {t : Nat} {l : Link} {s : State}
    (acts : ∀ a (s : State), s.store.marksView.Keeps (act l a s).1.store.marksView) :
    CommandKeepsMarks (.next (request kind form right act t l s)) s :=
  commandKeepsMarks_next (request_has (inv := fun s' => s.store.marksView.Keeps s'.store.marksView) (.refl _) (.refl _)
    (fun a => acts a (handed t l s)) (fun tag r s' kept => by simpa using kept))

/-- A request whose owning block leaves the store as it is. -/
theorem request_keepsMarks_of_store {α : Type} {kind : Nat} {form : Reader α} {right : Link → α → Bool}
    {act : Link → α → State → State × Reply} {t : Nat} {l : Link} {s : State}
    (acts : ∀ a (s : State), (act l a s).1.store = s.store) :
    CommandKeepsMarks (.next (request kind form right act t l s)) s :=
  request_keepsMarks fun a s => .of_eq (congrArg Store.marksView (acts a s))

/-- A read. -/
theorem request_keepsMarks_of_state {α : Type} {kind : Nat} {form : Reader α} {right : Link → α → Bool}
    {act : Link → α → State → State × Reply} {t : Nat} {l : Link} {s : State}
    (acts : ∀ a (s : State), (act l a s).1 = s) :
    CommandKeepsMarks (.next (request kind form right act t l s)) s :=
  request_keepsMarks_of_store fun a s => congrArg State.store (acts a s)

/-! ### Resets and start-up -/

theorem restart_keepsMarks (t : Nat) (s : State) : CommandKeepsMarks (execRestart t s) s := by
  apply commandKeepsMarks_next
  split
  · exact resetWith_keepsMarks (s := atTime t s) rfl
  · exact .refl _

theorem startUpEnd_keepsMarks (t : Nat) (badSections : BitVec 8) (badSlots : BitVec 16) (s : State) :
    CommandKeepsMarks (execStartUpEnd t badSections badSlots s) s := by
  apply commandKeepsMarks_of_view
  split
  · rw [settle_store, endStart_marksView]
    rfl
  · rfl

theorem linkReset_keepsMarks (t : Nat) (l : Link) (s : State) : CommandKeepsMarks (execLinkReset t l s) s := by
  apply commandKeepsMarks_of_view
  split
  · rfl
  · rw [settle_store]
    unfold resetLink
    extract_lets discards s1
    have same : s1.store = s.store := dropTimers_store _ _
    split
    · unfold planningReset
      rw [releaseRecalled_marksView, ← same]
      rfl
    · rw [same]

/-! ### Links, samples and timers -/

theorem segmentArrival_keepsMarks (t : Nat) (l : Link) (u : RxUnit) (s : State) :
    CommandKeepsMarks (execSegmentArrival t l u s) s := by
  apply commandKeepsMarks_of_store
  split <;> simp

theorem replyUnit_keepsMarks (t : Nat) (l : Link) (u : RxUnit) (s : State) :
    CommandKeepsMarks (execReplyUnit t l u s) s := by
  apply commandKeepsMarks_of_view
  split <;> simp

theorem resendTimerExpiry_keepsMarks (t : Nat) (l : Link) (s : State) :
    CommandKeepsMarks (execResendTimerExpiry t l s) s := by
  apply commandKeepsMarks_of_store
  split <;> simp

theorem linkBreakEnd_keepsMarks (t : Nat) (l : Link) (s : State) : CommandKeepsMarks (execLinkBreakEnd t l s) s := by
  apply commandKeepsMarks_of_store
  split <;> simp

theorem sampleFrame_keepsMarks (t : Nat) (u : RxUnit) (s : State) : CommandKeepsMarks (execSampleFrame t u s) s := by
  apply commandKeepsMarks_of_store
  split <;> simp

theorem staleTimerExpiry_keepsMarks (t ch : Nat) (s : State) : CommandKeepsMarks (execStaleTimerExpiry t ch s) s := by
  apply commandKeepsMarks_of_store
  split
  · rfl
  · split <;> simp

theorem periodicTimerExpiry_keepsMarks (t : Nat) (s : State) : CommandKeepsMarks (execPeriodicTimerExpiry t s) s := by
  apply commandKeepsMarks_of_store
  split <;> simp

theorem timedHoldExpiry_keepsMarks (t : Nat) (l : Link) (h : Line) (s : State) :
    CommandKeepsMarks (execTimedHoldExpiry t l h s) s := by
  apply commandKeepsMarks_of_store
  split <;> simp

/-! ### The Scheduler and the Unit -/

theorem grant_keepsMarks (t : Nat) (s : State) : CommandKeepsMarks (execGrant t s) s := by
  apply commandKeepsMarks_of_view
  split
  · rfl
  · split
    · rw [settle_store, grantChoice_marksView, atTime_store]
    · rfl

theorem liveCompletion_keepsMarks (t : Nat) (s : State) : CommandKeepsMarks (execLiveCompletion t s) s := by
  apply commandKeepsMarks_of_store
  split <;> simp

theorem stageCompletion_keepsMarks (t : Nat) (s : State) : CommandKeepsMarks (execStageCompletion t s) s := by
  apply commandKeepsMarks_of_store
  split <;> simp

theorem selfCheckCompletion_keepsMarks (t : Nat) (s : State) : CommandKeepsMarks (execSelfCheckCompletion t s) s := by
  apply commandKeepsMarks_next
  split
  · rw [settle_store]
    unfold endSelfCheck
    split
    · exact endJob_keepsMarks _ _ _ _ _ rfl
    · exact .refl _
  · exact .refl _

theorem heldEnterConfig_keepsMarks (t : Nat) (s : State) : CommandKeepsMarks (execHeldEnterConfig t s) s := by
  apply commandKeepsMarks_of_store
  split <;> simp

/-! ### The ends of store jobs -/

theorem saveEnd_keepsMarks (t : Nat) (verified : Bool) (s : State) : CommandKeepsMarks (execSaveEnd t verified s) s := by
  apply commandKeepsMarks_next
  split
  · exact endJob_keepsMarks _ _ _ _ _ (by simp)
  · exact .refl _

theorem recallReadEnd_keepsMarks (t : Nat) (good : Bool) (s : State) :
    CommandKeepsMarks (execRecallReadEnd t good s) s := by
  apply commandKeepsMarks_next
  split
  · dsimp only
    split
    · exact endJob_keepsMarks _ _ _ _ _ rfl
    · exact endJob_keepsMarks _ _ _ _ _ rfl
  · exact .refl _

theorem selfCheckReadEnd_keepsMarks (t : Nat) (good : Bool) (s : State) :
    CommandKeepsMarks (execSelfCheckReadEnd t good s) s := by
  apply commandKeepsMarks_next
  split
  next n _ =>
    extract_lets s1 fail
    have fails (c : Code) : s.store.marksView.Keeps (fail c).store.marksView := endJob_keepsMarks _ _ _ _ _ rfl
    split
    · exact fails _
    · exact fails _
    next image ref _ =>
      split
      · exact fails _
      · exact startJob_keepsMarks (j := .selfCheck n (some ref)) rfl nofun nofun
  · exact .refl _

theorem referenceWriteEnd_keepsMarks (t : Nat) (verified : Bool) (s : State) :
    CommandKeepsMarks (execReferenceWriteEnd t verified s) s := by
  apply commandKeepsMarks_next
  split
  · exact endJob_keepsMarks _ _ _ _ _ (by simp)
  · exact .refl _

theorem lockEnd_keepsMarks (t : Nat) (verified : Bool) (s : State) : CommandKeepsMarks (execLockEnd t verified s) s := by
  apply commandKeepsMarks_next
  split
  next q job =>
    rw [settle_store]
    cases verified with
    | false => exact endJob_keepsMarks _ _ _ _ _ rfl
    | true =>
      rw [endJob_marksView]
      cases q with
      | slot n => exact keeps_lockSlot job
      | sec n => exact keeps_lockSection job
  · exact .refl _

theorem freezeEnd_keepsMarks (t : Nat) (verified : Bool) (s : State) :
    CommandKeepsMarks (execFreezeEnd t verified s) s := by
  apply commandKeepsMarks_next
  split
  · rw [settle_store]
    cases verified with
    | false => exact endJob_keepsMarks _ _ _ _ _ rfl
    | true =>
      rw [endJob_marksView]
      exact keeps_freeze s.store.marksView
  · exact .refl _

theorem identityWriteEnd_keepsMarks (t : Nat) (verified : Bool) (s : State) :
    CommandKeepsMarks (execIdentityWriteEnd t verified s) s := by
  apply commandKeepsMarks_next
  split
  next i job =>
    rw [settle_store]
    cases verified with
    | false => exact endJob_keepsMarks _ _ _ _ _ rfl
    | true =>
      rw [endJob_marksView]
      exact keeps_identity (v := s.store.marksView) job
  · exact .refl _

theorem leaveConfigWriteEnd_keepsMarks (t : Nat) (failed : Option Nat) (s : State) :
    CommandKeepsMarks (execLeaveConfigWriteEnd t failed s) s := by
  apply commandKeepsMarks_next
  split
  next ns w _ _ =>
    cases failed with
    | none =>
      rw [settle_store]
      split
      · rw [leaveWritten_marksView]
        exact keeps_end s.store.marksView
      · rw [repairWritten_marksView]
        exact keeps_end s.store.marksView
    | some n =>
      dsimp only
      split
      · rw [settle_store, leaveFailed_marksView]
        exact keeps_end s.store.marksView
      · exact .refl _
  · exact .refl _

/-! ### All of them -/

theorem exec_keepsMarks (c : Instr) (s : State) : CommandKeepsMarks (exec c s) s := by
  match c with
  | .powerOn t cut => exact commandKeepsMarks_next (resetWith_keepsMarks (s := atTime t s) (cutJob_marksView s cut))
  | .resetLine t cut => exact commandKeepsMarks_next (resetWith_keepsMarks (s := atTime t s) (cutJob_marksView s cut))
  | .startUpEnd t badSections badSlots => exact startUpEnd_keepsMarks _ _ _ _
  | .restart t => exact restart_keepsMarks _ _
  | .segmentArrival t l u => exact segmentArrival_keepsMarks _ _ _ _
  | .replyUnit t l u => exact replyUnit_keepsMarks _ _ _ _
  | .resendTimerExpiry t l => exact resendTimerExpiry_keepsMarks _ _ _
  | .linkReset t l => exact linkReset_keepsMarks _ _ _
  | .unknownRequestKind t l => exact request_keepsMarks_of_state fun _ _ => rfl
  | .changeSetMessage t l => exact request_keepsMarks_of_store (changeSetAct_store l)
  | .readSets t l => exact request_keepsMarks_of_state fun _ _ => rfl
  | .attach t l => exact request_keepsMarks_of_store (attachAct_store l)
  | .detach t l => exact request_keepsMarks_of_store (detachAct_store l)
  | .forceLand t l => exact request_keepsMarks_of_store (forceLandAct_store l)
  | .readHooks t l => exact request_keepsMarks_of_state fun _ _ => rfl
  | .stepAppend t l => exact request_keepsMarks_of_store (stepAppendAct_store l)
  | .stepWithdraw t l => exact request_keepsMarks_of_store (stepWithdrawAct_store l)
  | .stepDone t l => exact request_keepsMarks_of_store (stepDoneAct_store l)
  | .seqSet t l => exact request_keepsMarks_of_store (seqSetAct_store l)
  | .readSequence t l => exact request_keepsMarks_of_state (readSequenceAct_state l)
  | .readLookahead t l => exact request_keepsMarks_of_state fun _ _ => rfl
  | .channelSet t l => exact request_keepsMarks_of_store (channelSetAct_store l)
  | .channelEnable t l => exact request_keepsMarks_of_store (channelEnableAct_store l)
  | .channelDisable t l => exact request_keepsMarks_of_store (channelDisableAct_store l)
  | .readChannels t l => exact request_keepsMarks_of_state (readChannelsAct_state l)
  | .holdAck t l => exact request_keepsMarks_of_store (holdAckAct_store l)
  | .timedHold t l => exact request_keepsMarks_of_store (timedHoldAct_store l)
  | .readHolds t l => exact request_keepsMarks_of_state fun _ _ => rfl
  | .readVerdict t l => exact request_keepsMarks_of_store (readVerdictAct_store l)
  | .evaluateNow t l => exact request_keepsMarks_of_store (evaluateNowAct_store l)
  | .readScheduler t l => exact request_keepsMarks_of_store fun _ _ => rfl
  | .readCondition t l => exact request_keepsMarks_of_state (readConditionAct_state l)
  | .enterConfig t l => exact request_keepsMarks_of_store (enterConfigAct_store l)
  | .heldEnterConfig t => exact heldEnterConfig_keepsMarks _ _
  | .hullWrite t l => exact request_keepsMarks_of_store (hullWriteAct_store l)
  | .leaveConfig t l => exact request_keepsMarks (leaveConfigAct_keepsMarks l)
  | .leaveConfigWriteEnd t failed => exact leaveConfigWriteEnd_keepsMarks _ _ _
  | .save t l => exact request_keepsMarks (saveAct_keepsMarks l)
  | .saveEnd t verified => exact saveEnd_keepsMarks _ _ _
  | .recall t l => exact request_keepsMarks (recallAct_keepsMarks l)
  | .recallReadEnd t checkGood => exact recallReadEnd_keepsMarks _ _ _
  | .selfCheck t l => exact request_keepsMarks (selfCheckAct_keepsMarks l)
  | .selfCheckReadEnd t checkGood => exact selfCheckReadEnd_keepsMarks _ _ _
  | .referenceWrite t l => exact request_keepsMarks (referenceWriteAct_keepsMarks l)
  | .referenceWriteEnd t verified => exact referenceWriteEnd_keepsMarks _ _ _
  | .lock t l => exact request_keepsMarks (lockAct_keepsMarks l)
  | .lockEnd t verified => exact lockEnd_keepsMarks _ _ _
  | .freeze t l => exact request_keepsMarks (freezeAct_keepsMarks l)
  | .freezeEnd t verified => exact freezeEnd_keepsMarks _ _ _
  | .identityWrite t l => exact request_keepsMarks (identityWriteAct_keepsMarks l)
  | .identityWriteEnd t verified => exact identityWriteEnd_keepsMarks _ _ _
  | .releaseTrial t l => exact request_keepsMarks fun _ s => .of_eq (releaseRecalled_marksView s)
  | .adopt t l => exact request_keepsMarks fun q s => .of_eq (adoptAct_marksView l q s)
  | .readStore t l => exact request_keepsMarks_of_state fun _ _ => rfl
  | .readArchive t l => exact request_keepsMarks_of_state fun _ _ => rfl
  | .readIdentity t l => exact request_keepsMarks_of_state fun _ _ => rfl
  | .readHull t l => exact request_keepsMarks_of_state (readHullAct_state l)
  | .noticeSelect t l => exact request_keepsMarks_of_store fun _ _ => rfl
  | .linkSet t l => exact request_keepsMarks_of_store fun _ _ => rfl
  | .readSummary t l => exact request_keepsMarks_of_state fun _ _ => rfl
  | .sampleFrame t u => exact sampleFrame_keepsMarks _ _ _
  | .staleTimerExpiry t ch => exact staleTimerExpiry_keepsMarks _ _ _
  | .periodicTimerExpiry t => exact periodicTimerExpiry_keepsMarks _ _
  | .timedHoldExpiry t l h => exact timedHoldExpiry_keepsMarks _ _ _ _
  | .grant t => exact grant_keepsMarks _ _
  | .liveCompletion t => exact liveCompletion_keepsMarks _ _
  | .stageCompletion t => exact stageCompletion_keepsMarks _ _
  | .selfCheckCompletion t => exact selfCheckCompletion_keepsMarks _ _
  | .linkBreakEnd t l => exact linkBreakEnd_keepsMarks _ _ _

theorem step_keepsMarks {s s' : State} (run : step s = .next s') : s.store.marksView.Keeps s'.store.marksView := by
  unfold step at run
  split at run
  · cases run
    exact .refl _
  next c rest _ => exact exec_keepsMarks c { s with pending := rest } s' run

/-- Settles O59: the marks and the record are written by the end of their own job alone, and a job that would write what
stands already never begins; every other command leaves them, and moves at most the job. -/
theorem stepsKeepThePermanentMarks : Obligations.StepsKeepThePermanentMarks :=
  ⟨fun s s' lawful run => (jobsLawful_iff s').mpr ((step_keepsMarks run).lawful ((jobsLawful_iff s).mp lawful)),
    fun s s' lawful run => (marksKept_iff s s').mpr ((step_keepsMarks run).stands ((jobsLawful_iff s).mp lawful))⟩

end Sys2Proof.Machine

/-! PROOF. What power-on, the reset line and the restart leave of every block and of the non-volatile store (R173 to
R175, R181, R183), and that the state after reset has what steps keep. -/

namespace Sys2Proof.Machine

/-! ## The state after reset -/

/-- The state after reset is what a reset leaves of a part as manufactured. -/
theorem reset_eq_resetWith : State.reset = resetWith Store.manufactured State.reset := rfl

theorem lotsDistinct_nil : lotsDistinct [] := ⟨Nat.zero_le _, List.nodup_nil⟩

/-- A link after its reset has nothing queued, counted or owed (R195). -/
theorem Liu.bounded_reset (l : Link) (inBreak : Bool) : (Liu.reset l inBreak).bounded := by
  have queue : (Liu.reset l inBreak).queueFits := ⟨Nat.zero_le _, Nat.zero_le _, nofun⟩
  refine ⟨Nat.zero_le _, queue, Nat.zero_le _, Nat.zero_le _, Nat.zero_le _, Nat.zero_le _, Nat.zero_le _,
    Nat.zero_le _, Nat.zero_le _, Nat.zero_le _, fun k n held => ?_⟩
  cases k <;> cases held

theorem reset_setsBounded : State.reset.setsBounded :=
  ⟨fun l => by cases l <;> exact LinkSets.bounded_reset, Nat.zero_le _, nofun⟩

theorem reset_lotsStand : State.reset.lotsStand := by
  refine ⟨lotsDistinct_nil, lotsDistinct_nil, fun v mem => ?_⟩
  rw [List.eq_of_mem_replicate (a := Slot.empty) mem]
  exact lotsDistinct_nil

/-- Settles O60: what a reset leaves has each property, and the state after reset is what a reset leaves. -/
theorem resetHasWhatStepsKeep : Obligations.ResetHasWhatStepsKeep := by
  refine ⟨?lines, ?owned, ?sums, ?ring, fun l => ?links, reset_setsBounded, reset_lotsStand, ?marks⟩
  case lines => exact reset_eq_resetWith ▸ resetWith_linesStand _ _
  case owned =>
    rw [trialOwned_iff, reset_eq_resetWith, resetWith_trialView]
    exact ⟨fun _ => rfl, by simp [TrialView.reset], by simp [TrialView.reset], nofun⟩
  case sums => exact fun _ => nofun
  case ring => exact (ringBounded_iff _).mpr (reset_eq_resetWith ▸ resetWith_bounded _ _)
  case links => cases l <;> exact Liu.bounded_reset _ _
  case marks => exact ⟨fun _ _ => nofun, fun _ _ => nofun⟩

/-! ## Every block at its reset value (R173, R175, R181) -/

section

variable {t : Nat} {cut : WriteCut} {s : State}

theorem powerOn_eq : exec (.powerOn t cut) s = .next (resetWith (cutJob s cut) (atTime t s)) := rfl

theorem resetLine_eq : exec (.resetLine t cut) s = .next (resetWith (cutJob s cut) (atTime t s)) := rfl

theorem resetWith_sections (store : Store) : (resetWith store s).store.sections = store.sections := rfl
theorem resetWith_slots (store : Store) : (resetWith store s).store.slots = store.slots := rfl

/-- A restart that is due is a reset of the store as it stands (R181). -/
theorem restart_due (due : s.restartDue t = true) : exec (.restart t) s = .next (resetWith s.store (atTime t s)) := by
  change execRestart t s = _
  unfold execRestart
  rw [if_pos due]

theorem restart_not_due (early : s.restartDue t = false) : exec (.restart t) s = .next s := by
  change execRestart t s = _
  unfold execRestart
  rw [early]
  rfl

/-- The restart is due once its event has come or its deadline is reached (R181). -/
theorem restartDue_iff {w : RestartWait} (awaited : s.store.restart = some w) :
    s.restartDue t = true ↔ w.due = true ∨ w.deadline ≤ max s.now t := by
  unfold State.restartDue
  rw [awaited, Bool.or_eq_true, decide_eq_true_iff]

/-! ## What a reset inside a job leaves of the store (R174, R183) -/

/-- Whether a job writes a slot or sections (R183). -/
def Job.writes : Job → Bool
  | .save _ _ _ | .referenceWrite _ _ | .leaveConfig _ => true
  | .recall _ | .selfCheck _ _ | .lock _ | .freeze | .identityWrite _ => false

/-- Where no slot and no section is being written, the store stands. -/
theorem cutJob_quiet (quiet : s.store.job.any Job.writes = false) : cutJob s cut = s.store := by
  unfold cutJob
  split
  next job => simp [job, Job.writes] at quiet
  next job => simp [job, Job.writes] at quiet
  next job => simp [job, Job.writes] at quiet
  · rfl

theorem cutJob_save {n k : Nat} {v : Version} (job : s.store.job = some (.save n v k)) :
    cutJob s cut = { s.store with slots := s.store.slots.set n .bad } := by
  unfold cutJob
  rw [job]

theorem cutJob_referenceWrite {n : Nat} {ref : Option Reference} (job : s.store.job = some (.referenceWrite n ref)) :
    cutJob s cut = { s.store with slots := s.store.slots.set n .bad } := by
  unfold cutJob
  rw [job]

theorem cutJob_leaveConfig {ns : List Nat} {w : Hull} (job : s.store.job = some (.leaveConfig ns))
    (working : s.working = some w) :
    cutJob s cut = { s.store with sections := cutSections s.store.sections w ns cut } := by
  unfold cutJob
  simp only [job, working]

/-- Between two section writes, or after the last, no section is torn (log 6). -/
theorem cutSections_whole {ns : List Nat} (st : StoredHull) (w : Hull)
    (between : cut.torn = false ∨ ns.length ≤ cut.verified) :
    cutSections st w ns cut = st.writeAll w (ns.take cut.verified) := by
  unfold cutSections
  rcases between with whole | last
  · simp [whole]
  · simp [List.getElem?_eq_none last]

theorem cutSections_torn {ns : List Nat} {n : Nat} (st : StoredHull) (w : Hull) (torn : cut.torn = true)
    (next : ns[cut.verified]? = some n) :
    cutSections st w ns cut = (st.writeAll w (ns.take cut.verified)).write w false n := by
  unfold cutSections
  simp only [torn, next]

end

/-- Settles O2: the state after power-on is read off, and a restart is a reset where no job runs. -/
theorem resetEntersStart : Obligations.ResetEntersStart := by
  unfold Obligations.ResetEntersStart
  refine ⟨fun t cut s => ⟨_, powerOn_eq, resetLine_eq, rfl, rfl, rfl, rfl, rfl, rfl, rfl, fun l => ?sets, rfl, rfl, rfl,
    rfl, rfl, rfl, rfl, rfl, rfl, fun h => ?holds, rfl, rfl, fun l => ?lius, rfl, rfl, rfl, rfl, rfl⟩,
    fun t s w awaited idle => ⟨fun due cut => ?due, fun waits early => ?early⟩⟩
  case sets => cases l <;> rfl
  case holds => cases h <;> exact ⟨rfl, rfl⟩
  case lius => cases l <;> rfl
  case due =>
    rw [restart_due ((restartDue_iff awaited).mpr due), resetLine_eq, cutJob_quiet (by simp [idle])]
  case early =>
    refine restart_not_due (Bool.eq_false_iff.mpr fun due => ?_)
    rcases (restartDue_iff awaited).mp due with due | due
    · simp [waits] at due
    · omega

/-- Settles O4: by the job that runs. -/
theorem resetKeepsTheNonVolatileStore : Obligations.ResetKeepsTheNonVolatileStore := by
  unfold Obligations.ResetKeepsTheNonVolatileStore
  intro t cut s s' run kept
  obtain rfl : resetWith (cutJob s cut) (atTime t s) = s' := by
    rcases run with run | run <;> exact Host.Outcome.next.inj run
  have marks := cutJob_marksView s cut
  have quiet (nothing : s.store.job.any Job.writes = false) : kept := by
    have same : cutJob s cut = s.store := cutJob_quiet nothing
    exact ⟨by rw [resetWith_sections, same], by rw [resetWith_slots, same]⟩
  refine ⟨congrArg MarksView.lockSections marks, congrArg MarksView.lockSlots marks, congrArg MarksView.frozen marks,
    congrArg MarksView.identity marks, congrArg MarksView.factorySerial marks,
    fun job => quiet ?_, fun n job => quiet ?_, fun n ref job => quiet ?_, fun q job => quiet ?_,
    fun job => quiet ?_, fun i job => quiet ?_, fun n v k job => ?save, fun n r job => ?reference,
    fun ns w job working => ?leave⟩
  case save => exact ⟨by rw [resetWith_sections, cutJob_save job], by rw [resetWith_slots, cutJob_save job]⟩
  case reference =>
    exact ⟨by rw [resetWith_sections, cutJob_referenceWrite job], by rw [resetWith_slots, cutJob_referenceWrite job]⟩
  case leave =>
    rw [resetWith_sections, resetWith_slots, cutJob_leaveConfig job working]
    exact ⟨rfl, cutSections_whole _ _, fun n => cutSections_torn _ _⟩
  all_goals simp [job, Job.writes]

end Sys2Proof.Machine

/-! PROOF. What the entry to RUN leaves of the part, and how start-up ends: in RUN over good sections, else in HULL-FAULT
(R19, R83, R131, R145, R175 to R177). -/

namespace Sys2Proof.Machine

/-! ## Entering RUN (R83, R107, R131, R145) -/

/-- In RUN the first live request is recorded: PERIODIC, with CHANGE for sets that wait and ADOPT for a waiting one. -/
theorem entryCauses_run {s : State} (run : s.device = .run) : entryCauses s = { s with sched := { s.sched with
    livePending := true
    causes := s.sched.causes ||| Cause.periodic.bit ||| (if s.ready.isEmpty then 0 else Cause.change.bit)
      ||| (if s.store.waitingAdopt then Cause.adopt.bit else 0) } } := by
  unfold entryCauses
  simp only [raiseLive_run _ run]
  cases empty : s.ready.isEmpty <;> cases waiting : s.store.waitingAdopt <;> simp [raiseLive, run]

/-- The entry to RUN changes the device state, the sections in force, the working copy, the table, the channels, the
live request, the lines and the links. -/
theorem enterRun_only (h : Hull) (s : State) : enterRun h s = { s with
    device := .run, hull := some h, working := none, published := false, crit := buildTable h
    bank := { s.bank with channels := startChannels s.now s.bank.channels }
    sched := { s.sched with
      livePending := true
      causes := s.sched.causes ||| Cause.periodic.bit ||| (if s.ready.isEmpty then 0 else Cause.change.bit)
        ||| (if s.store.waitingAdopt then Cause.adopt.bit else 0) }
    holds := (enterRun h s).holds, lius := (enterRun h s).lius } := by
  unfold enterRun recomputeAll
  rw [recomputeLines_only, entryCauses_run rfl]

section

variable (h : Hull) (s : State)

@[simp] theorem enterRun_now : (enterRun h s).now = s.now := by rw [enterRun_only]
@[simp] theorem enterRun_device : (enterRun h s).device = .run := by rw [enterRun_only]
@[simp] theorem enterRun_hull : (enterRun h s).hull = some h := by rw [enterRun_only]
@[simp] theorem enterRun_working : (enterRun h s).working = none := by rw [enterRun_only]
@[simp] theorem enterRun_published : (enterRun h s).published = false := by rw [enterRun_only]
@[simp] theorem enterRun_crit : (enterRun h s).crit = buildTable h := by rw [enterRun_only]
@[simp] theorem enterRun_bank : (enterRun h s).bank =
    { s.bank with channels := startChannels s.now s.bank.channels } := by rw [enterRun_only]
@[simp] theorem enterRun_live : (enterRun h s).live = s.live := by rw [enterRun_only]
@[simp] theorem enterRun_version : (enterRun h s).version = s.version := by rw [enterRun_only]
@[simp] theorem enterRun_owner : (enterRun h s).owner = s.owner := by rw [enterRun_only]
@[simp] theorem enterRun_trial : (enterRun h s).trial = s.trial := by rw [enterRun_only]
@[simp] theorem enterRun_tracker : (enterRun h s).tracker = s.tracker := by rw [enterRun_only]
@[simp] theorem enterRun_verdict : (enterRun h s).verdict = s.verdict := by rw [enterRun_only]
@[simp] theorem enterRun_serial : (enterRun h s).serial = s.serial := by rw [enterRun_only]
@[simp] theorem enterRun_ring : (enterRun h s).ring = s.ring := by rw [enterRun_only]
@[simp] theorem enterRun_livePending : (enterRun h s).sched.livePending = true := by rw [enterRun_only]

/-- No verdict has been published since, so that the start hold asserts every line (R125, R131). -/
theorem enterRun_asserted (l : Line) : ((enterRun h s).holds.get l).asserted = true :=
  recomputeAll_start (by rw [entryCauses_run rfl]; rfl) l

end

/-- The causes recorded at the entry to RUN hold PERIODIC. -/
theorem causes_periodic (x y z : BitVec 6) : (x ||| Cause.periodic.bit ||| y ||| z) &&& 1#6 = 1#6 := by
  ext i
  simp only [Cause.bit, BitVec.getElem_and, BitVec.getElem_or, BitVec.ofNat_eq_ofNat]
  grind

/-! ## The end of start-up (R19, R83, R175, R177) -/

/-- A channel as start-up in RUN loads and starts it (R83). -/
theorem startChannels_loaded (now : Nat) (cs : List ChannelCfg) : startChannels now (cs.map loadChannel) = cs.map fun c =>
    { cfg := c, state := if c.enable && c.binding.isSome then .filling else .disabled, sum := 0, count := 0
      value := restValue c.min c.max, held := true, railRun := 0, watch := .clear
      timer := if c.enable && c.binding.isSome then some (now + c.stale) else none } := by
  unfold startChannels
  rw [List.map_map]
  refine List.map_congr_left fun c _ => ?_
  have cfg : (loadChannel c).cfg = c := rfl
  dsimp only [Function.comp]
  rw [cfg]
  split <;> rfl

/-- What LIVE is built of: no lots, empty tanks and the cranes of section 5 at rest (R19). -/
theorem builtLive_tank {h : Hull} {chs : List Channel} {k : TankState} (mem : k ∈ (builtLive h chs).tanks) :
    k.volume = 0 ∧ k.density = 1025 := by
  obtain ⟨_, _, rfl⟩ := List.mem_map.mp mem
  exact ⟨rfl, rfl⟩

theorem startRunning_asserted (h : Hull) (s : State) (l : Line) : ((startRunning h s).holds.get l).asserted = true :=
  enterRun_asserted _ _ l

/-- The end in HULL-FAULT changes the device state, the working copy, the record of the start, the lines and the links. -/
theorem startFaulted_only (failure : Option ItemAddr) (s : State) : startFaulted failure s = { s with
    device := .hullFault, working := some s.store.sections.working
    store := { s.store with startRecord := some { asRead := s.store.sections, failure := failure } }
    holds := (startFaulted failure s).holds, lius := (startFaulted failure s).lius } := by
  unfold startFaulted recomputeAll
  rw [recomputeLines_only]

theorem startFaulted_asserted (failure : Option ItemAddr) (s : State) (l : Line) :
    ((startFaulted failure s).holds.get l).asserted = true := recomputeAll_start rfl l

theorem endStart_good {s : State} {h : Hull} (full : s.store.sections.full = some h)
    (valid : s.store.sections.failure = none) : endStart s = startRunning h s := by
  unfold endStart
  rw [full, valid]

theorem endStart_bad {s : State} (bad : s.store.sections.full = none ∨ s.store.sections.failure ≠ none) :
    endStart s = startFaulted s.store.sections.failure s := by
  unfold endStart
  split
  next full valid => simp [full, valid] at bad
  · rfl

/-- In START the end of start-up reads the store and ends there (R175). -/
theorem startUpEnd_eq {t : Nat} {badSections : BitVec 8} {badSlots : BitVec 16} {s : State} (start : s.device = .start) :
    exec (.startUpEnd t badSections badSlots) s =
      .next (settle (endStart (readStoreAtStart badSections badSlots (atTime t s)))) := by
  change execStartUpEnd t badSections badSlots s = _
  unfold execStartUpEnd
  rw [if_pos start]

/-- Settles O5: start-up enters RUN from the loaded blocks. -/
theorem startUpEndsInRun : Obligations.StartUpEndsInRun := by
  unfold Obligations.StartUpEndsInRun
  intro t badSections badSlots s h start full valid
  let read := readStoreAtStart badSections badSlots (atTime t s)
  have lines : ∀ l, ((startRunning h read).holds.get l).asserted = true := startRunning_asserted h read
  refine ⟨_, startUpEnd_eq start, ?_⟩
  rw [endStart_good (s := read) full valid]
  unfold startRunning at lines ⊢
  rw [enterRun_only]
  refine ⟨rfl, rfl, rfl, rfl, rfl, rfl, by simp [builtLive], fun k => builtLive_tank, rfl, rfl, rfl, rfl, rfl,
    startChannels_loaded _ _, rfl, rfl, rfl, rfl, causes_periodic _ _ _, fun l => ?_⟩
  simpa only [settle_holds] using lines l

/-- Settles O6: start-up leaves the part as it stands but for the working copy, what it read and the lines. -/
theorem startUpEndsInHullFault : Obligations.StartUpEndsInHullFault := by
  unfold Obligations.StartUpEndsInHullFault
  intro t badSections badSlots s start noHull bad
  let read := readStoreAtStart badSections badSlots (atTime t s)
  have lines := startFaulted_asserted read.store.sections.failure read
  refine ⟨_, startUpEnd_eq start, ?_⟩
  rw [endStart_bad (s := read) bad]
  rw [startFaulted_only]
  refine ⟨rfl, noHull, rfl, rfl, rfl, rfl, rfl, rfl, fun l => ?_⟩
  simpa only [settle_holds] using lines l

end Sys2Proof.Machine

/-! PROOF. What becomes of HULL-WRITE (R179), and the shapes that the planning link's requests and the ends of store jobs
share. -/

namespace Sys2Proof.Machine

/-! ## Requests of the planning link -/

section

variable {α : Type} {kind t : Nat} {form : Reader α} {act : Link → α → State → State × Reply} {m : InMsg} {a : α}
  {s s' : State}

/-- A request of the planning link that its owning block answers. -/
theorem planning_answered {code : Code} {body : List Byte} (taken : Taken kind form .planning m a s)
    (does : act .planning a (handed t .planning s) = (s', .answer code body)) :
    (.next (request kind form planningOnly act t .planning s) : Host.Outcome State Fault Refusal) =
      .next (answered .planning kind m code body s') :=
  congrArg Host.Outcome.next (request_answered taken rfl does)

/-- A request of the planning link whose answer is owed. -/
theorem planning_owing {enter : Bool} (taken : Taken kind form .planning m a s)
    (does : act .planning a (handed t .planning s) = (s', .owed enter)) :
    (.next (request kind form planningOnly act t .planning s) : Host.Outcome State Fault Refusal) =
      .next (owing .planning kind m enter s') :=
  congrArg Host.Outcome.next (request_owing taken rfl does)

end

/-- Nothing held is nothing begun or written. -/
theorem idle_isSome {α : Type} {x : Option α} (idle : x = none) : x.isSome = false :=
  congrArg Option.isSome idle

theorem refuse_eq (c : Code) : refuse c = .answer c [] := rfl

theorem serves_iff (s : State) : s.serves = true ↔ s.device = .run ∨ s.device = .config := by
  simp [State.serves]

/-! ## The ends of store jobs (R183, R188) -/

theorem endJob_eq {kind : JobKind} (target : Option Target) (code : Code) (check : Option (Option Quantity))
    (body : List Byte) (s : State) (job : kind ≠ .adopt) :
    endJob kind target code check body s = jobEnded false kind target code check body s :=
  endJobWith_eq false target code check body s job

theorem jobEnded_store (restart : Bool) (kind : JobKind) (target : Option Target) (code : Code)
    (check : Option (Option Quantity)) (body : List Byte) (s : State) :
    (jobEnded restart kind target code check body s).store =
      { s.store with job := none, lastJob := some { kind := kind, target := target, code := code } } := by
  rw [jobEnded_only]

/-! ## HULL-WRITE (R179) -/

section

variable {l : Link} {it : HullItem} {s : State} {w w' : Hull}

theorem storeBusy_iff (s : State) : s.storeBusy = true ↔ s.store.job.isSome = true ∨ s.store.restart.isSome = true :=
  Bool.or_eq_true_iff

theorem hullWriteAct_notInConfig (out : s.device = .run ∨ s.working = none) :
    hullWriteAct l it s = (s, .answer .notInConfig []) := by
  unfold hullWriteAct
  split
  · rfl
  next working => exact if_pos (out.resolve_right (by simp [working]))

/-- With a working copy outside RUN, HULL-WRITE makes its checks in the order of R179. -/
theorem hullWriteAct_eq (working : s.working = some w) (outside : s.device ≠ .run) : hullWriteAct l it s =
    if s.storeBusy then (s, .answer .busy [])
    else if s.store.lockSections.getD it.sec false then (s, .answer .locked [])
    else match w.put it with
      | none => (s, .answer .unknownItem [])
      | some w' => if !it.inRange then (s, .answer .refusedRange []) else ({ s with working := some w' }, .answer .done [])
    := by
  unfold hullWriteAct
  simp only [working, if_neg outside]
  rfl

variable (working : s.working = some w) (outside : s.device ≠ .run)
include working outside

theorem hullWriteAct_busy (busy : s.storeBusy = true) : hullWriteAct l it s = (s, .answer .busy []) := by
  rw [hullWriteAct_eq working outside, if_pos busy]

theorem hullWriteAct_locked (free : s.storeBusy = false) (locked : s.store.lockSections.getD it.sec false = true) :
    hullWriteAct l it s = (s, .answer .locked []) := by
  rw [hullWriteAct_eq working outside, if_neg (Bool.eq_false_iff.mp free), if_pos locked]

/-- An item that is neither held back nor locked is looked up. -/
theorem hullWriteAct_unlocked (free : s.storeBusy = false)
    (unlocked : s.store.lockSections.getD it.sec false = false) : hullWriteAct l it s =
    match w.put it with
    | none => (s, .answer .unknownItem [])
    | some w' => if !it.inRange then (s, .answer .refusedRange []) else ({ s with working := some w' }, .answer .done [])
    := by
  rw [hullWriteAct_eq working outside, if_neg (Bool.eq_false_iff.mp free), if_neg (Bool.eq_false_iff.mp unlocked)]

end

/-- Settles O36: by the checks of R179 in their order. -/
theorem hullWriteChangesTheWorkingCopy : Obligations.HullWriteChangesTheWorkingCopy := by
  unfold Obligations.HullWriteChangesTheWorkingCopy
  intro t s m it taken refusedWith busy
  refine ⟨fun out => planning_answered taken (hullWriteAct_notInConfig out), fun w working outside => ?_⟩
  have blocked (works : busy) : (handed t .planning s).storeBusy = true := (storeBusy_iff s).mpr works
  have idle (free : ¬ busy) : (handed t .planning s).storeBusy = false :=
    Bool.eq_false_iff.mpr fun works => free ((storeBusy_iff s).mp works)
  have looked (free : ¬ busy) (unlocked : s.store.lockSections.getD it.sec false = false) :=
    hullWriteAct_unlocked (l := .planning) (s := handed t .planning s) working outside (idle free) unlocked
  refine ⟨fun works => planning_answered taken (hullWriteAct_busy working outside (blocked works)),
    fun free locked => planning_answered taken (hullWriteAct_locked working outside (idle free) locked),
    fun free unlocked => ⟨fun unknown => planning_answered taken ?unknown, fun w' put =>
      ⟨fun out => planning_answered taken ?range, fun inside => planning_answered taken ?done⟩⟩⟩
  case unknown => rw [looked free unlocked, unknown]
  case range => simp only [looked free unlocked, put, out, Bool.not_false, if_true]
  case done => simp only [looked free unlocked, put, inside, Bool.not_true, Bool.false_eq_true, if_false]

end Sys2Proof.Machine

/-! PROOF. What becomes of LOCK, FREEZE and IDENTITY-WRITE (R191 to R193): the checks in their order, and the ends of the
jobs. -/

namespace Sys2Proof.Machine

/-! ## The checks (R191 to R193) -/

section

variable {l : Link} {q : Target} {i : Identity} {s : State}

theorem lockAct_outside (outside : s.serves = false) : lockAct l q s = (s, .answer .refusedState []) := by
  simp [lockAct, outside, refuse_eq]

theorem freezeAct_outside (q : Unit) (outside : s.serves = false) : freezeAct l q s = (s, .answer .refusedState []) := by
  simp [freezeAct, outside, refuse_eq]

theorem identityWriteAct_outside (outside : s.serves = false) :
    identityWriteAct l i s = (s, .answer .refusedState []) := by
  simp [identityWriteAct, outside, refuse_eq]

section

variable (serves : s.serves = true)
include serves

theorem lockAct_alreadyLocked (locked : s.locked q = true) : lockAct l q s = (s, .answer .done []) := by
  simp [lockAct, serves, locked]

theorem lockAct_frozen (unlocked : s.locked q = false) (frozen : s.store.frozen = true) :
    lockAct l q s = (s, .answer .frozen []) := by
  simp [lockAct, serves, unlocked, frozen, refuse_eq]

theorem lockAct_busy (unlocked : s.locked q = false) (free : s.store.frozen = false)
    (busy : s.store.job.isSome = true) : lockAct l q s = (s, .answer .busy []) := by
  simp [lockAct, serves, unlocked, free, busy, refuse_eq]

theorem lockAct_blocked (unlocked : s.locked q = false) (free : s.store.frozen = false)
    (idle : s.store.job.isSome = false) (blocked : s.lockBlocked q = true) :
    lockAct l q s = (s, .answer .refusedState []) := by
  simp only [lockAct, serves, unlocked, free, idle, blocked, refuse_eq]
  rfl

theorem lockAct_unblocked (unlocked : s.locked q = false) (free : s.store.frozen = false)
    (idle : s.store.job.isSome = false) (unblocked : s.lockBlocked q = false) :
    lockAct l q s = if q.hasMark then (startJob (.lock q) s, .owed false) else (s, .answer .unknownItem []) := by
  simp only [lockAct, serves, unlocked, free, idle, unblocked, refuse_eq]
  cases q.hasMark <;> rfl

theorem freezeAct_frozen (frozen : s.store.frozen = true) : freezeAct l () s = (s, .answer .frozen []) := by
  simp [freezeAct, serves, frozen, refuse_eq]

theorem freezeAct_busy (free : s.store.frozen = false) (busy : s.store.job.isSome = true) :
    freezeAct l () s = (s, .answer .busy []) := by
  simp [freezeAct, serves, free, busy, refuse_eq]

theorem freezeAct_begins (free : s.store.frozen = false) (idle : s.store.job.isSome = false) :
    freezeAct l () s = (startJob .freeze s, .owed false) := by
  simp only [freezeAct, serves, free, idle]
  rfl

theorem identityWriteAct_written (written : s.store.identity.isSome = true) :
    identityWriteAct l i s = (s, .answer .alreadyWritten []) := by
  simp [identityWriteAct, serves, written, refuse_eq]

theorem identityWriteAct_busy (unwritten : s.store.identity.isSome = false) (busy : s.store.job.isSome = true) :
    identityWriteAct l i s = (s, .answer .busy []) := by
  simp only [identityWriteAct, serves, unwritten, busy]
  rfl

theorem identityWriteAct_outOfRange (unwritten : s.store.identity.isSome = false)
    (idle : s.store.job.isSome = false) (out : i.inRange = false) :
    identityWriteAct l i s = (s, .answer .refusedRange []) := by
  simp only [identityWriteAct, serves, unwritten, idle, out]
  rfl

theorem identityWriteAct_begins (unwritten : s.store.identity.isSome = false)
    (idle : s.store.job.isSome = false) (inRange : i.inRange = true) :
    identityWriteAct l i s = (startJob (.identityWrite i) s, .owed false) := by
  simp only [identityWriteAct, serves, unwritten, idle, inRange]
  rfl

end

/-- A section whose working copy differs from the one in force blocks its LOCK in CONFIG (R191). -/
theorem lockBlocked_sec {n : Nat} {w h : Hull} (working : s.working = some w) (hull : s.hull = some h)
    (differs : w.sameSec h n = false) (config : s.device = .config) : s.lockBlocked (.sec n) = true := by
  simp [State.lockBlocked, State.edited, working, hull, differs, config]

/-- A target has a lock mark unless it is a section above 7 (R191, log 42). -/
theorem hasMark_iff (q : Target) : q.hasMark = true ↔ ∀ n, q = .sec n → n < 8 := by
  cases q <;> simp [Target.hasMark]

end

/-! ## The ends (R191 to R193) -/

section

variable {t : Nat} {s : State}

theorem lockEnd_verified {q : Target} (job : s.store.job = some (.lock q)) : exec (.lockEnd t true) s =
    .next (settle (jobEnded false .lock (some q) .done none [] (setLock q (atTime t s)))) := by
  change execLockEnd t true s = _
  unfold execLockEnd
  simp only [job, if_true, endJob_eq _ _ _ _ _ (show JobKind.lock ≠ .adopt by decide)]

theorem lockEnd_failed {q : Target} (job : s.store.job = some (.lock q)) : exec (.lockEnd t false) s =
    .next (settle (jobEnded false .lock (some q) .refusedState none [] (markWriteError true (atTime t s)))) := by
  change execLockEnd t false s = _
  unfold execLockEnd
  simp only [job, if_neg Bool.false_ne_true, endJob_eq _ _ _ _ _ (show JobKind.lock ≠ .adopt by decide)]

/-- A FREEZE that ends sets its mark or the write-error mark. -/
theorem freezeEnd_eq (ok : Bool) (job : s.store.job = some .freeze) : exec (.freezeEnd t ok) s =
    .next (settle (jobEnded false .freeze none (if ok then .done else .refusedState) none [] { atTime t s with
      store := { s.store with frozen := ok || s.store.frozen, writeError := !ok || s.store.writeError } })) := by
  change execFreezeEnd t ok s = _
  unfold execFreezeEnd
  simp only [job, endJob_eq _ _ _ _ _ (show JobKind.freeze ≠ .adopt by decide)]
  cases ok <;> rfl

/-- An IDENTITY-WRITE that ends writes its record or sets the write-error mark. -/
theorem identityWriteEnd_eq {i : Identity} (ok : Bool) (job : s.store.job = some (.identityWrite i)) :
    exec (.identityWriteEnd t ok) s =
    .next (settle (jobEnded false .identityWrite none (if ok then .done else .refusedState) none [] { atTime t s with
      store := { s.store with
        identity := if ok then some i else s.store.identity, writeError := !ok || s.store.writeError } })) := by
  change execIdentityWriteEnd t ok s = _
  unfold execIdentityWriteEnd
  simp only [job, endJob_eq _ _ _ _ _ (show JobKind.identityWrite ≠ .adopt by decide)]
  cases ok <;> rfl

end

/-- Settles O42: by the checks in their order, and by what each job's end writes. -/
theorem permanentWritesBeginAndEnd : Obligations.PermanentWritesBeginAndEnd := by
  unfold Obligations.PermanentWritesBeginAndEnd
  refine ⟨fun t s m notRun notConfig => ?outside, fun t s m inside => ?inside, ?ends⟩
  case outside =>
    have outside : (handed t .planning s).serves = false :=
      Bool.eq_false_iff.mpr fun serves => ((serves_iff s).mp serves).elim notRun notConfig
    exact ⟨fun q taken => planning_answered taken (lockAct_outside outside),
      fun taken => planning_answered taken (freezeAct_outside () outside),
      fun i taken => planning_answered taken (identityWriteAct_outside outside)⟩
  case inside =>
    have serves : (handed t .planning s).serves = true := (serves_iff s).mpr inside
    refine ⟨fun q taken => ?lock, fun taken => ?freeze, fun i taken => ?identity⟩
    case lock =>
      have same : (handed t .planning s).locked q = s.locked q := by cases q <;> rfl
      have blocks : (handed t .planning s).lockBlocked q = s.lockBlocked q := by cases q <;> rfl
      rw [← same, ← blocks]
      have unmarked : ∀ n, q = .sec n → 8 ≤ n → q.hasMark = false := by rintro n rfl above; simp [Target.hasMark, above]
      refine ⟨fun locked => planning_answered taken (lockAct_alreadyLocked serves locked),
        fun unlocked frozen => planning_answered taken (lockAct_frozen serves unlocked frozen),
        fun unlocked free busy => planning_answered taken (lockAct_busy serves unlocked free busy),
        fun n w h sec unlocked free idle working hull differs config => planning_answered taken
          (lockAct_blocked serves unlocked free (idle_isSome idle) (sec ▸ lockBlocked_sec working hull differs config)),
        fun unlocked free idle unblocked => ?_⟩
      have decided := lockAct_unblocked (l := .planning) serves unlocked free (idle_isSome idle) unblocked
      exact ⟨fun marked => planning_owing taken (by rw [decided, if_pos ((hasMark_iff q).mpr marked)]; rfl),
        fun n sec above => planning_answered taken (by rw [decided, unmarked n sec above]; rfl)⟩
    case freeze =>
      exact ⟨fun frozen => planning_answered taken (freezeAct_frozen serves frozen),
        fun free busy => planning_answered taken (freezeAct_busy serves free busy),
        fun free idle => planning_owing taken (freezeAct_begins serves free (idle_isSome idle))⟩
    case identity =>
      exact ⟨fun written => planning_answered taken (identityWriteAct_written serves written),
        fun unwritten busy => planning_answered taken (identityWriteAct_busy serves (idle_isSome unwritten) busy),
        fun unwritten idle out => planning_answered taken
          (identityWriteAct_outOfRange serves (idle_isSome unwritten) (idle_isSome idle) out),
        fun unwritten idle inRange => planning_owing taken
          (identityWriteAct_begins serves (idle_isSome unwritten) (idle_isSome idle) inRange)⟩
  case ends =>
    intro t s ends
    exact ⟨fun n job => ⟨_, lockEnd_verified job, jobEnded_store _ _ _ _ _ _ _, rfl⟩,
      fun n job => ⟨_, lockEnd_verified job, jobEnded_store _ _ _ _ _ _ _, rfl⟩,
      fun q job => ⟨_, lockEnd_failed job, jobEnded_store _ _ _ _ _ _ _, rfl⟩,
      fun ok job => ⟨_, freezeEnd_eq ok job, jobEnded_store _ _ _ _ _ _ _, rfl⟩,
      fun i ok job => ⟨_, identityWriteEnd_eq ok job, jobEnded_store _ _ _ _ _ _ _, rfl⟩⟩

end Sys2Proof.Machine

/-! PROOF. What becomes of REFERENCE-WRITE (R190), and how its job ends. -/

namespace Sys2Proof.Machine

/-! ## A reference's ranges and a slot's entry (R188, R190) -/

theorem Reference.inRange_iff (r : Reference) : r.inRange = true ↔
    2 ≤ r.stations.length ∧ r.stations.length ≤ 12 ∧ 1 ≤ r.delta ∧ r.delta ≤ 41085821 := by
  simp [Reference.inRange, countIn, within, and_assoc]

theorem allInRange_iff (ref : Option Reference) : ref.all Reference.inRange = true ↔ ∀ r, ref = some r →
    2 ≤ r.stations.length ∧ r.stations.length ≤ 12 ∧ 1 ≤ r.delta ∧ r.delta ≤ 41085821 := by
  cases ref <;> simp [Reference.inRange_iff]

/-- What a list holds at a place is what reading it there with any default gives. -/
theorem getD_of_getElem? {α : Type} {xs : List α} {n : Nat} {x d : α} (held : xs[n]? = some x) : xs.getD n d = x := by
  rw [List.getD_eq_getElem?_getD, held]
  rfl

/-! ## The checks (R190) -/

section

variable {l : Link} {n : Nat} {ref : Option Reference} {s : State}

theorem referenceWriteAct_outside (outside : s.device ≠ .config) :
    referenceWriteAct l (n, ref) s = (s, .answer .refusedState []) := if_pos outside

variable (config : s.device = .config)
include config

theorem referenceWriteAct_busy (busy : s.store.job.isSome = true) :
    referenceWriteAct l (n, ref) s = (s, .answer .busy []) := by
  simp [referenceWriteAct, config, busy, refuse_eq]

variable (idle : s.store.job.isSome = false)
include idle

theorem referenceWriteAct_locked (locked : s.slotLocked n = true) :
    referenceWriteAct l (n, ref) s = (s, .answer .locked []) := by
  simp [referenceWriteAct, config, idle, locked, refuse_eq]

variable (unlocked : s.slotLocked n = false)
include unlocked

theorem referenceWriteAct_empty (entry : s.store.directory[n]? = some .empty) :
    referenceWriteAct l (n, ref) s = (s, .answer .unknownItem []) := by
  simp [referenceWriteAct, config, idle, unlocked, entry, refuse_eq]

theorem referenceWriteAct_invalid (entry : s.store.directory[n]? = some .invalid) :
    referenceWriteAct l (n, ref) s = (s, .answer .slotInvalid []) := by
  simp [referenceWriteAct, config, idle, unlocked, entry, refuse_eq]

theorem referenceWriteAct_valid {k : Option Nat} {lots : Nat} {v : Version} {serial : Nat}
    (entry : s.store.directory[n]? = some (.valid k lots v serial)) : referenceWriteAct l (n, ref) s =
      if ref.all Reference.inRange then (putEntry n .invalid (startJob (.referenceWrite n ref) s), .owed false)
      else (s, .answer .refusedRange []) := by
  simp only [referenceWriteAct, config, idle, unlocked, getD_of_getElem? entry, refuse_eq]
  cases ref.all Reference.inRange <;> rfl

end

/-! ## The end (R190) -/

theorem referenceWriteEnd_eq {t n : Nat} {ref : Option Reference} {s : State} (ok : Bool)
    (job : s.store.job = some (.referenceWrite n ref)) : exec (.referenceWriteEnd t ok) s =
      .next (settle (jobEnded false .referenceWrite (some (.slot n)) (if ok then .done else .slotInvalid) none []
        (markWriteError (!ok)
          (putSlot n (if ok then (s.store.slots.getD n .bad).withRef ref else .bad) (atTime t s))))) := by
  change execReferenceWriteEnd t ok s = _
  unfold execReferenceWriteEnd
  simp only [job, endJob_eq _ _ _ _ _ (show JobKind.referenceWrite ≠ .adopt by decide)]

/-- Settles O41: by the checks of R190 in their order, and by what the job's end writes in the slot. -/
theorem referenceWriteReplacesTheReference : Obligations.ReferenceWriteReplacesTheReference := by
  unfold Obligations.ReferenceWriteReplacesTheReference
  refine fun t s => ⟨?request, ?ends⟩
  case request =>
    intro m n ref taken refusedWith inRange
    refine ⟨fun outside => planning_answered taken (referenceWriteAct_outside outside),
      fun config busy => planning_answered taken (referenceWriteAct_busy config busy),
      fun config idle locked => planning_answered taken (referenceWriteAct_locked config (idle_isSome idle) locked),
      fun config idle unlocked =>
        ⟨fun entry => planning_answered taken (referenceWriteAct_empty config (idle_isSome idle) unlocked entry),
        fun entry => planning_answered taken (referenceWriteAct_invalid config (idle_isSome idle) unlocked entry),
        fun k lots v serial entry => ?_⟩⟩
    have checked := referenceWriteAct_valid (l := .planning) (ref := ref) (s := handed t .planning s) config
      (idle_isSome idle) unlocked entry
    exact ⟨fun out => planning_answered taken (by rw [checked, if_neg (mt (allInRange_iff ref).mp out)]),
      fun inside => planning_owing taken (by rw [checked, if_pos ((allInRange_iff ref).mpr inside)]; rfl)⟩
  case ends =>
    intro n ref image old job held ends
    have verified := referenceWriteEnd_eq (t := t) true job
    rw [getD_of_getElem? held] at verified
    exact ⟨⟨_, verified, jobEnded_store _ _ _ _ _ _ _, rfl⟩,
      ⟨_, referenceWriteEnd_eq false job, jobEnded_store _ _ _ _ _ _ _, rfl⟩⟩

end Sys2Proof.Machine

/-! PROOF. A RECALLED TRIAL and what ends it: RELEASE-TRIAL (R186), the cancelled ADOPT (R187), ADOPT and its live
snapshot. -/

namespace Sys2Proof.Machine

/-! ## The notice of an ADOPT (R187, R205) -/

/-- The notice of an ADOPT is raised at the planning link whatever it selects. -/
theorem archiveNotice_adopt (code : Code) (s : State) : archiveNotice .adopt none code none s =
    raiseNotice forcedPlanning (.archive { job := .adopt, target := none, code := code, check := none
                                           writeError := s.store.writeError, owner := s.owner, version := s.version }) s :=
  rfl

/-- What a notice forced at the planning link leaves in its slot there. -/
theorem raiseNotice_forcedPlanning (a : ArchiveNotice) (s : State) :
    (raiseNotice forcedPlanning (.archive a) s).lius.planning.slots.archive = some (.archive a) := by
  change ((raiseNotice forcedPlanning (.archive a) s).lius.get .planning).slots.archive = _
  rw [raiseNotice_get, show forcedPlanning .planning = true from rfl, Bool.true_or, if_pos rfl]
  rfl

/-- A store in which no ADOPT waits is the store with that mark off. -/
theorem store_notWaiting {s : State} (waits : s.store.waitingAdopt = false) :
    { s.store with waitingAdopt := false } = s.store := by
  rw [← waits]

@[simp] theorem cancelAdopt_store (s : State) : (cancelAdopt s).store = { s.store with waitingAdopt := false } := by
  unfold cancelAdopt
  split
  · rw [archiveNotice_adopt, raiseNotice_store]
  next waits => exact (store_notWaiting (Bool.eq_false_iff.mpr waits)).symm

theorem cancelAdopt_waiting {s : State} (waits : s.store.waitingAdopt = true) : cancelAdopt s =
    raiseNotice forcedPlanning (.archive { job := .adopt, target := none, code := .refusedState, check := none
                                           writeError := s.store.writeError, owner := s.owner, version := s.version })
      { s with store := { s.store with waitingAdopt := false } } :=
  if_pos waits

/-! ## RELEASE-TRIAL (R186) -/

theorem lookWanted_iff (s : State) : s.lookWanted = true ↔
    s.device = .run ∧ s.sched.run = none ∧ 0 < s.ring.nPending ∧ s.lookCurrent = false ∧ s.owner = .empty := by
  simp [State.lookWanted, and_assoc]

theorem releaseTrial_recalled {l : Link} {s : State} (recalled : s.owner = .recalled) :
    releaseTrialAct l () s = (cancelAdopt (emptyTrial s), .answer .done []) := by
  unfold releaseTrialAct releaseRecalled
  rw [if_pos recalled]

theorem releaseTrial_other {l : Link} {s : State} (other : s.owner ≠ .recalled) :
    releaseTrialAct l () s = (s, .answer .done []) := by
  unfold releaseTrialAct releaseRecalled
  rw [if_neg other]

/-- Settles O43: a RECALLED TRIAL is emptied and a waiting ADOPT cancelled; nothing else moves. -/
theorem releaseTrialEndsARecalledCondition : Obligations.ReleaseTrialEndsARecalledCondition := by
  unfold Obligations.ReleaseTrialEndsARecalledCondition
  refine ⟨fun t l s m taken other => ?rights, fun t s m taken =>
    ⟨fun other => planning_answered taken (releaseTrial_other other), fun recalled => ?recalled⟩⟩
  case rights => exact congrArg Host.Outcome.next (request_refusedRights taken (decide_eq_false other))
  case recalled =>
    let emptied := emptyTrial (handed t .planning s)
    refine ⟨cancelAdopt emptied, planning_answered taken (releaseTrial_recalled recalled), cancelAdopt_owner _,
      cancelAdopt_trial _, cancelAdopt_store _, by rw [cancelAdopt_store]; rfl, fun waits => ?notice, cancelAdopt_only _,
      ?wanted⟩
    case notice =>
      rw [cancelAdopt_waiting (s := emptied) waits]
      exact raiseNotice_forcedPlanning _ _
    case wanted =>
      rw [lookWanted_iff, cancelAdopt_only]
      exact ⟨fun ⟨run, idle, pending, stale, _⟩ => ⟨run, idle, pending, stale⟩,
        fun ⟨run, idle, pending, stale⟩ => ⟨run, idle, pending, stale, rfl⟩⟩

/-! ## ADOPT (R187) -/

section

variable {l : Link} {s : State}

theorem adoptAct_refused (refused : s.serves = false ∨ s.owner ≠ .recalled ∨ s.ring.entries ≠ []) :
    adoptAct l () s = (s, .answer .refusedState []) := by
  unfold adoptAct
  split_ifs with outside other busy
  · rfl
  · rfl
  · rfl
  all_goals simp_all

theorem adoptAct_accepted (serves : s.serves = true) (recalled : s.owner = .recalled) (empty : s.ring.entries = []) :
    adoptAct l () s = if s.store.waitingAdopt then (s, .answer .done [])
      else (raiseLive .adopt { s with store := { s.store with waitingAdopt := true } }, .answer .done []) := by
  simp [adoptAct, serves, recalled, empty]

end

/-! ## The live snapshot of a waiting ADOPT (R187, step 1 of R138) -/

theorem adoptedArea_tank {live trial : Area} {chs : List Channel} {k : Nat} {T : TankState}
    (held : trial.tanks[k]? = some T) : (adoptedArea live trial chs).tanks[k]? =
      some { T with source := if gaugeBound chs k then T.source else .stated } := by
  simp only [adoptedArea, List.getElem?_map, numbered_getElem?, held, Option.map_some, Nat.zero_add, takeTank,
    Bool.false_or]
  cases gaugeBound chs k <;> rfl

section

variable {s : State} (waits : s.store.waitingAdopt = true)
include waits

theorem applyAdopt_applied (noHand : s.live.anyInHand = false) (empty : s.ring.entries = []) : applyAdopt s =
    raiseNotice forcedPlanning
      (.archive { job := .adopt, target := none, code := .done, check := none
                  writeError := s.store.writeError, owner := .empty, version := s.version + 1 })
      { s with live := adoptedArea s.live s.trial s.bank.channels, version := s.version + 1, owner := .empty
               trial := Area.empty, store := { s.store with waitingAdopt := false } } := by
  simp only [applyAdopt, waits, noHand, empty, Bool.not_true, Bool.false_eq_true, if_false, List.isEmpty_nil, Bool.or_self]
  exact archiveNotice_adopt _ _

theorem applyAdopt_refused (held : s.live.anyInHand = true ∨ s.ring.entries ≠ []) : applyAdopt s =
    raiseNotice forcedPlanning
      (.archive { job := .adopt, target := none, code := .refusedState, check := none
                  writeError := s.store.writeError, owner := s.owner, version := s.version })
      { s with store := { s.store with waitingAdopt := false } } := by
  have refused : (s.live.anyInHand || !s.ring.entries.isEmpty) = true := by simpa using held
  simp only [applyAdopt, waits, refused, Bool.not_true, Bool.false_eq_true, if_false, if_true]
  exact archiveNotice_adopt _ _

end

/-- Settles O44: by the checks of the request, and by the two ways a waiting ADOPT meets its live snapshot. -/
theorem adoptReplacesLive : Obligations.AdoptReplacesLive := by
  unfold Obligations.AdoptReplacesLive
  refine ⟨fun t s m taken => ⟨?refused, ?accepted⟩, fun s waits => ⟨?store, ?applied, ?kept⟩⟩
  case refused =>
    intro refused
    refine planning_answered taken (adoptAct_refused (refused.imp_left fun fault => ?_))
    exact Bool.eq_false_iff.mpr fun serves => by simpa [fault] using (serves_iff s).mp serves
  case accepted =>
    intro inside recalled empty
    have checked := adoptAct_accepted (l := .planning) (s := handed t .planning s) ((serves_iff s).mpr inside) recalled empty
    refine ⟨fun waits => planning_answered taken (by rw [checked]; exact if_pos waits),
      fun waits => planning_answered taken ?_⟩
    rw [checked, raiseLive_eq]
    exact if_neg (Bool.eq_false_iff.mp waits)
  case store => rw [applyAdopt_only]
  case applied =>
    intro noHand empty
    have applied := applyAdopt_applied waits noHand empty
    have live : (applyAdopt s).live = adoptedArea s.live s.trial s.bank.channels := by rw [applied, raiseNotice_live]
    rw [live]
    refine ⟨rfl, rfl, rfl, rfl, by simp [adoptedArea], fun k T held => adoptedArea_tank held, ?_, ?_, ?_, applied⟩
    · rw [applied, raiseNotice_version]
    · rw [applied, raiseNotice_owner]
    · rw [applied, raiseNotice_trial]
  case kept =>
    intro held
    have refused := applyAdopt_refused waits held
    refine ⟨?_, ?_, ?_, ?_, refused⟩
    · rw [refused, raiseNotice_live]
    · rw [refused, raiseNotice_version]
    · rw [refused, raiseNotice_trial]
    · rw [refused, raiseNotice_owner]

end Sys2Proof.Machine

/-! PROOF. What becomes of ENTER-CONFIG (R177): the checks, the entry to CONFIG, and the request that is held. -/

namespace Sys2Proof.Machine

/-! ## The run of a look-ahead is dropped (R173) -/

@[simp] theorem abandonLook_sched (s : State) : (abandonLook s).sched = { s.sched with run := none } := by
  unfold abandonLook
  split
  next idle => rw [← idle]
  next => rw [raiseNotice_sched]

@[simp] theorem abandonLook_look (s : State) :
    (abandonLook s).look = if s.sched.run.isSome then { s.look with outcome := .abandoned } else s.look := by
  unfold abandonLook
  split
  next idle => simp [idle]
  next running => simp [running]

/-- Abandoning a look-ahead changes its run, its outcome and the links. -/
theorem abandonLook_fields (s : State) : abandonLook s = { s with
    sched := { s.sched with run := none }
    look := if s.sched.run.isSome then { s.look with outcome := .abandoned } else s.look
    lius := (abandonLook s).lius } := by
  rw [← abandonLook_sched, ← abandonLook_look, ← abandonLook_only]

theorem dropLook_only (s : State) : dropLook s = { s with
    owner := if s.owner = .lookahead then .empty else s.owner
    trial := if s.owner = .lookahead then Area.empty else s.trial
    sched := { s.sched with run := none }
    look := if s.sched.run.isSome then { s.look with outcome := .abandoned } else s.look
    lius := (dropLook s).lius } := by
  unfold dropLook emptyTrial setTrial
  split
  · rw [abandonLook_fields]
  · exact abandonLook_fields s

/-! ## Every channel is disabled (R177) -/

/-- Disabling a channel list's tail, its head standing, disables that tail. -/
theorem foldl_disableChannel (pre chs : List Channel) (s : State) (held : s.bank.channels = pre ++ chs) :
    ((numbered pre.length chs).foldl (fun s c => disableChannel c.1 c.2 s) s).bank.channels =
      pre ++ chs.map Channel.toDisabled := by
  induction chs generalizing pre s with
  | nil => exact held
  | cons c chs ih =>
    have next : (disableChannel pre.length c s).bank.channels = (pre ++ [c.toDisabled]) ++ chs := by
      rw [disableChannel_only]
      simp [putChannel, held]
    simpa [numbered] using ih _ _ next

theorem disableAll_channels (s : State) : (disableAll s).bank.channels = s.bank.channels.map Channel.toDisabled :=
  foldl_disableChannel [] s.bank.channels s rfl

theorem disableAll_only (s : State) : disableAll s = { s with bank := (disableAll s).bank, lius := (disableAll s).lius } := by
  unfold disableAll
  generalize numbered 0 s.bank.channels = cs
  induction cs generalizing s with
  | nil => rfl
  | cons c cs ih =>
    rw [List.foldl_cons, ih, disableChannel_only]

/-! ## The entry to CONFIG (R177) -/

/-- What the entry to CONFIG sets before it disables the channels and recomputes the lines. -/
def State.configured (s : State) : State := { dropLook s with
  device := .config, working := s.hull, published := false
  sched := { s.sched with livePending := false, causes := 0, periodic := none, run := none } }

theorem enterConfig_eq (s : State) : enterConfig s = recomputeAll (disableAll s.configured) := by
  unfold enterConfig State.configured
  rw [dropLook_only]

theorem enterConfig_channels (s : State) : (enterConfig s).bank.channels = s.bank.channels.map Channel.toDisabled := by
  rw [enterConfig_eq, recomputeAll, recomputeLines_bank, disableAll_channels, State.configured, dropLook_only]

theorem enterConfig_asserted (s : State) (h : Line) : ((enterConfig s).holds.get h).asserted = true := by
  rw [enterConfig_eq]
  refine recomputeAll_start ?_ h
  rw [disableAll_only]
  simp [State.configured, State.verdictCounts]

theorem configured_only (s : State) : s.configured = { s with
    device := .config, working := s.hull, published := false
    sched := { s.sched with livePending := false, causes := 0, periodic := none, run := none }
    owner := if s.owner = .lookahead then .empty else s.owner
    trial := if s.owner = .lookahead then Area.empty else s.trial
    look := if s.sched.run.isSome then { s.look with outcome := .abandoned } else s.look
    lius := s.configured.lius } := by
  unfold State.configured
  rw [dropLook_only]

theorem enterConfig_only (s : State) : enterConfig s = { s with
    device := .config, working := s.hull, published := false
    sched := { s.sched with livePending := false, causes := 0, periodic := none, run := none }
    owner := if s.owner = .lookahead then .empty else s.owner
    trial := if s.owner = .lookahead then Area.empty else s.trial
    look := if s.sched.run.isSome then { s.look with outcome := .abandoned } else s.look
    bank := (enterConfig s).bank, holds := (enterConfig s).holds, lius := (enterConfig s).lius } := by
  rw [enterConfig_eq, recomputeAll, recomputeLines_only, disableAll_only, configured_only]

@[simp] theorem enterConfig_device (s : State) : (enterConfig s).device = .config := by rw [enterConfig_only]
@[simp] theorem enterConfig_working (s : State) : (enterConfig s).working = s.hull := by rw [enterConfig_only]
@[simp] theorem enterConfig_published (s : State) : (enterConfig s).published = false := by rw [enterConfig_only]
@[simp] theorem enterConfig_sched (s : State) :
    (enterConfig s).sched = { s.sched with livePending := false, causes := 0, periodic := none, run := none } := by
  rw [enterConfig_only]
@[simp] theorem enterConfig_owner (s : State) :
    (enterConfig s).owner = if s.owner = .lookahead then .empty else s.owner := by
  rw [enterConfig_only]
@[simp] theorem enterConfig_trial (s : State) :
    (enterConfig s).trial = if s.owner = .lookahead then Area.empty else s.trial := by
  rw [enterConfig_only]
@[simp] theorem enterConfig_look (s : State) :
    (enterConfig s).look = if s.sched.run.isSome then { s.look with outcome := .abandoned } else s.look := by
  rw [enterConfig_only]
@[simp] theorem enterConfig_hull (s : State) : (enterConfig s).hull = s.hull := by rw [enterConfig_only]
@[simp] theorem enterConfig_live (s : State) : (enterConfig s).live = s.live := by rw [enterConfig_only]
@[simp] theorem enterConfig_version (s : State) : (enterConfig s).version = s.version := by rw [enterConfig_only]
@[simp] theorem enterConfig_sets (s : State) : (enterConfig s).sets = s.sets := by rw [enterConfig_only]
@[simp] theorem enterConfig_ready (s : State) : (enterConfig s).ready = s.ready := by rw [enterConfig_only]
@[simp] theorem enterConfig_ring (s : State) : (enterConfig s).ring = s.ring := by rw [enterConfig_only]
@[simp] theorem enterConfig_verdict (s : State) : (enterConfig s).verdict = s.verdict := by rw [enterConfig_only]
@[simp] theorem enterConfig_serial (s : State) : (enterConfig s).serial = s.serial := by rw [enterConfig_only]
@[simp] theorem enterConfig_crit (s : State) : (enterConfig s).crit = s.crit := by rw [enterConfig_only]
@[simp] theorem enterConfig_tracker (s : State) : (enterConfig s).tracker = s.tracker := by rw [enterConfig_only]

/-! ## The checks (R177) -/

section

variable {s : State}

theorem enterCheck_outside (outside : s.device ≠ .run) : enterCheck s = some .refusedState := if_pos outside

variable (run : s.device = .run)
include run

theorem enterCheck_busy (busy : s.sched.heldEnter = true ∨ s.store.job.isSome = true) : enterCheck s = some .busy := by
  rcases busy with busy | busy <;> simp [enterCheck, run, busy]

theorem enterCheck_inHand (free : s.sched.heldEnter = false) (idle : s.store.job.isSome = false)
    (held : s.live.anyInHand = true) : enterCheck s = some .refusedState := by
  simp only [enterCheck, run, free, idle, held]
  rfl

theorem enterCheck_passed (free : s.sched.heldEnter = false) (idle : s.store.job.isSome = false)
    (noHand : s.live.anyInHand = false) : enterCheck s = none := by
  simp only [enterCheck, run, free, idle, noHand]
  rfl

end

section

variable {l : Link} {c : Code} {s : State}

theorem enterConfigAct_refused (check : enterCheck s = some c) : enterConfigAct l () s = (s, .answer c []) := by
  simp only [enterConfigAct, check, refuse_eq]

theorem enterConfigAct_passed (check : enterCheck s = none) : enterConfigAct l () s =
    if s.liveComputing then ({ s with sched := { s.sched with heldEnter := true } }, .owed true)
    else (enterConfig s, .answer .done []) := by
  simp only [enterConfigAct, check]

/-! ## The held request (R177) -/

/-- A request that is held no longer and is checked again. -/
def State.unheld (t : Nat) (s : State) : State := { atTime t s with sched := { s.sched with heldEnter := false } }

theorem resolveEnter_refused {t : Nat} (check : enterCheck (s.unheld t) = some c) :
    resolveEnter (atTime t s) = answerOwed true c [] false (s.unheld t) := by
  unfold State.unheld at check ⊢
  simp only [resolveEnter, atTime_sched, check]

theorem resolveEnter_entered {t : Nat} (check : enterCheck (s.unheld t) = none) :
    resolveEnter (atTime t s) = answerOwed true .done [] false (enterConfig (s.unheld t)) := by
  unfold State.unheld at check ⊢
  simp only [resolveEnter, atTime_sched, check]

theorem heldEnterConfig_waits {t : Nat} (waits : s.sched.heldEnter = false ∨ s.liveComputing = true) :
    exec (.heldEnterConfig t) s = .next s := by
  change execHeldEnterConfig t s = _
  unfold execHeldEnterConfig
  rcases waits with waits | waits <;> simp [waits]

variable {t : Nat} (free : s.liveComputing = false) (held : s.sched.heldEnter = true)
include free held

theorem heldEnterConfig_resolved : exec (.heldEnterConfig t) s = .next (settle (resolveEnter (atTime t s))) := by
  change execHeldEnterConfig t s = _
  unfold execHeldEnterConfig
  simp [free, held]

theorem heldEnterConfig_refused (check : enterCheck (s.unheld t) = some c) :
    exec (.heldEnterConfig t) s = .next (settle (answerOwed true c [] false (s.unheld t))) := by
  rw [heldEnterConfig_resolved free held, resolveEnter_refused check]

theorem heldEnterConfig_entered (check : enterCheck (s.unheld t) = none) :
    exec (.heldEnterConfig t) s = .next (settle (answerOwed true .done [] false (enterConfig (s.unheld t)))) := by
  rw [heldEnterConfig_resolved free held, resolveEnter_entered check]

end

/-- Settles O35: by the checks of R177 in their order, and by what the entry to CONFIG changes, at once or once the live
evaluation has ended. -/
theorem enterConfigTakesEffectOrIsHeld : Obligations.EnterConfigTakesEffectOrIsHeld := by
  unfold Obligations.EnterConfigTakesEffectOrIsHeld
  refine ⟨?request, fun t s => ⟨?hold, fun computing => heldEnterConfig_waits (.inr computing),
    fun none => heldEnterConfig_waits (.inl none), ?busy, ?inHand, ?enters⟩⟩
  case request =>
    intro t s m taken refusedWith
    refine ⟨fun outside => planning_answered taken (enterConfigAct_refused (enterCheck_outside outside)),
      fun run busy => planning_answered taken (enterConfigAct_refused (enterCheck_busy run busy)),
      fun run free idle held =>
        planning_answered taken (enterConfigAct_refused (enterCheck_inHand run free (idle_isSome idle) held)),
      fun run free idle noHand still => ?_⟩
    have passed : enterCheck (handed t .planning s) = none := enterCheck_passed run free (idle_isSome idle) noHand
    have does := enterConfigAct_passed (l := .planning) passed
    rw [show (handed t .planning s).liveComputing = false from still, if_neg Bool.false_ne_true] at does
    refine ⟨_, planning_answered taken does, ?_⟩
    exact ⟨enterConfig_device _, enterConfig_working _, enterConfig_hull _, enterConfig_published _, enterConfig_sched _,
      enterConfig_channels _, enterConfig_asserted _, enterConfig_owner _,
      fun other => (enterConfig_trial _).trans (if_neg other), enterConfig_look _, enterConfig_live _,
      enterConfig_version _, enterConfig_sets _, enterConfig_ready _, enterConfig_ring _, enterConfig_verdict _,
      enterConfig_serial _, enterConfig_crit _, enterConfig_store _, enterConfig_tracker _⟩
  case hold =>
    intro m taken run free idle noHand computing
    have passed : enterCheck (handed t .planning s) = none := enterCheck_passed run free (idle_isSome idle) noHand
    have does := enterConfigAct_passed (l := .planning) passed
    rw [show (handed t .planning s).liveComputing = true from computing, if_pos rfl] at does
    exact planning_owing taken does
  case busy =>
    exact fun still held run busy => heldEnterConfig_refused still held (enterCheck_busy run (.inr busy))
  case inHand =>
    exact fun still held run idle hand =>
      heldEnterConfig_refused still held (enterCheck_inHand run rfl (idle_isSome idle) hand)
  case enters =>
    intro still held run idle noHand
    exact ⟨_, heldEnterConfig_entered still held (enterCheck_passed run rfl (idle_isSome idle) noHand),
      enterConfig_device _, enterConfig_working _, enterConfig_published _, enterConfig_sched _, enterConfig_asserted _,
      enterConfig_live _, enterConfig_ring _, enterConfig_store _⟩

end Sys2Proof.Machine

/-! PROOF. The archive: what becomes of SAVE (R184), RECALL (R185) and SELF-CHECK (R189), and how their jobs end. -/

namespace Sys2Proof.Machine

/-! ## Slots (R182, R185, R188) -/

/-- A slot in the store, once written, holds what was written. -/
theorem putSlot_getD {n : Nat} {v : Slot} {s : State} (here : n < s.store.slots.length) :
    (putSlot n v s).store.slots.getD n .bad = v := by
  simp [putSlot, here]

/-- Writing what a slot holds leaves the slots as they are. -/
theorem set_held {α : Type} {xs : List α} {n : Nat} {x : α} (held : xs[n]? = some x) : xs.set n x = xs := by
  obtain ⟨here, rfl⟩ := List.getElem?_eq_some_iff.mp held
  exact List.set_getElem_self here

/-- What a read of a slot finds (R185): its content, or a bad one when the check failed. -/
def slotFound (checkGood : Bool) (n : Nat) (s : State) : Slot := if checkGood then s.store.slots.getD n .bad else .bad

theorem slotFound_held {n : Nat} {v : Slot} {s : State} (held : s.store.slots[n]? = some v) : slotFound true n s = v :=
  getD_of_getElem? held

section

variable {n : Nat} {s : State} (here : n < s.store.slots.length)
include here

theorem judgeSlot_empty : judgeSlot n (putSlot n .empty s) = .error .unknownItem := by
  unfold judgeSlot
  rw [putSlot_getD here]

theorem judgeSlot_bad : judgeSlot n (putSlot n .bad s) = .error .slotInvalid := by
  unfold judgeSlot
  rw [putSlot_getD here]

variable {image : Image} {ref : Option Reference}

theorem judgeSlot_fits (fits : image.fitsHull s.spaces s.tanks = true) :
    judgeSlot n (putSlot n (.good image ref) s) = .ok (image, ref) := by
  unfold judgeSlot
  rw [putSlot_getD here]
  exact if_pos fits

theorem judgeSlot_unfit (unfit : image.fitsHull s.spaces s.tanks = false) :
    judgeSlot n (putSlot n (.good image ref) s) = .error .slotInvalid := by
  unfold judgeSlot
  rw [putSlot_getD here]
  exact if_neg (Bool.eq_false_iff.mp unfit)

end

/-! ## What the end of a job leaves (R183, R188) -/

section

variable (restart : Bool) (kind : JobKind) (target : Option Target) (code : Code) (check : Option (Option Quantity))
  (body : List Byte) (s : State)

@[simp] theorem jobEnded_device : (jobEnded restart kind target code check body s).device = s.device := by
  rw [jobEnded_only]
@[simp] theorem jobEnded_working : (jobEnded restart kind target code check body s).working = s.working := by
  rw [jobEnded_only]
@[simp] theorem jobEnded_hull : (jobEnded restart kind target code check body s).hull = s.hull := by rw [jobEnded_only]
@[simp] theorem jobEnded_owner : (jobEnded restart kind target code check body s).owner = s.owner := by
  rw [jobEnded_only]
@[simp] theorem jobEnded_trial : (jobEnded restart kind target code check body s).trial = s.trial := by
  rw [jobEnded_only]
@[simp] theorem jobEnded_live : (jobEnded restart kind target code check body s).live = s.live := by rw [jobEnded_only]
@[simp] theorem jobEnded_version : (jobEnded restart kind target code check body s).version = s.version := by
  rw [jobEnded_only]
@[simp] theorem jobEnded_unit : (jobEnded restart kind target code check body s).unit = s.unit := by rw [jobEnded_only]
@[simp] theorem jobEnded_verdict : (jobEnded restart kind target code check body s).verdict = s.verdict := by
  rw [jobEnded_only]
@[simp] theorem jobEnded_crit : (jobEnded restart kind target code check body s).crit = s.crit := by rw [jobEnded_only]
@[simp] theorem jobEnded_serial : (jobEnded restart kind target code check body s).serial = s.serial := by
  rw [jobEnded_only]
@[simp] theorem jobEnded_holds : (jobEnded restart kind target code check body s).holds = s.holds := by
  rw [jobEnded_only]
@[simp] theorem jobEnded_sched : (jobEnded restart kind target code check body s).sched = s.sched := by
  rw [jobEnded_only]
@[simp] theorem jobEnded_ring : (jobEnded restart kind target code check body s).ring = s.ring := by rw [jobEnded_only]
@[simp] theorem jobEnded_bank : (jobEnded restart kind target code check body s).bank = s.bank := by rw [jobEnded_only]
@[simp] theorem jobEnded_tracker : (jobEnded restart kind target code check body s).tracker = s.tracker := by
  rw [jobEnded_only]
@[simp] theorem jobEnded_job : (jobEnded restart kind target code check body s).store.job = none := by
  rw [jobEnded_store]
@[simp] theorem jobEnded_slots : (jobEnded restart kind target code check body s).store.slots = s.store.slots := by
  rw [jobEnded_store]
@[simp] theorem jobEnded_lastJob : (jobEnded restart kind target code check body s).store.lastJob =
    some { kind := kind, target := target, code := code } := by
  rw [jobEnded_store]

end

/-! ## SAVE (R184) -/

section

variable {l : Link} {n : Nat} {s : State}

theorem saveAct_outside (outside : s.serves = false) : saveAct l n s = (s, .answer .refusedState []) := by
  simp [saveAct, outside, refuse_eq]

variable (serves : s.serves = true)
include serves

theorem saveAct_busy (busy : s.store.job.isSome = true) : saveAct l n s = (s, .answer .busy []) := by
  simp [saveAct, serves, busy, refuse_eq]

variable (idle : s.store.job.isSome = false)
include idle

theorem saveAct_locked (locked : s.slotLocked n = true) : saveAct l n s = (s, .answer .locked []) := by
  simp [saveAct, serves, idle, locked, refuse_eq]

theorem saveAct_unlocked (unlocked : s.slotLocked n = false) : saveAct l n s =
    if s.owner = .recalled then (s, .answer .refusedState [])
    else (putEntry n .invalid (startJob (.save n s.version s.serial) (setTrial .archive s.live (abandonLook s))),
      .owed false) := by
  simp [saveAct, serves, idle, unlocked, refuse_eq]

end

theorem saveEnd_eq {t n k : Nat} {v : Version} {s : State} (ok : Bool) (job : s.store.job = some (.save n v k)) :
    exec (.saveEnd t ok) s =
      .next (settle (jobEnded false .save (some (.slot n)) (if ok then .done else .slotInvalid) none
        (if ok then imageBytes (imageOf s.trial v k) else []) (emptyTrial (markWriteError (!ok)
          (putSlot n (if ok then .good (imageOf s.trial v k) none else .bad) (atTime t s)))))) := by
  change execSaveEnd t ok s = _
  unfold execSaveEnd
  simp only [job, endJob_eq _ _ _ _ _ (show JobKind.save ≠ .adopt by decide)]
  rfl

/-- Settles O38: by the checks of R184 in their order, and by what the write's end leaves in the slot. -/
theorem saveWritesAnImage : Obligations.SaveWritesAnImage := by
  unfold Obligations.SaveWritesAnImage
  refine fun t s => ⟨?request, ?ends⟩
  case request =>
    intro m n taken refusedWith serves
    have inside (at' : serves) : (handed t .planning s).serves = true := (serves_iff s).mpr at'
    refine ⟨fun outside => planning_answered taken
        (saveAct_outside (Bool.eq_false_iff.mpr (mt (serves_iff s).mp outside))),
      fun at' busy => planning_answered taken (saveAct_busy (inside at') busy),
      fun at' idle locked => planning_answered taken (saveAct_locked (inside at') (idle_isSome idle) locked),
      fun at' idle unlocked recalled => planning_answered taken ?recalled, fun at' idle unlocked other => ?begins⟩
    case recalled =>
      rw [saveAct_unlocked (inside at') (idle_isSome idle) unlocked]
      exact if_pos recalled
    case begins =>
      have does := saveAct_unlocked (l := .planning) (inside at') (idle_isSome idle) unlocked
      rw [if_neg (show (handed t .planning s).owner ≠ .recalled from other)] at does
      refine ⟨_, planning_owing taken does, rfl, rfl, ?_, ?_, abandonLook_live _, abandonLook_version _,
        abandonLook_ring _, rfl⟩
      · exact congrArg Sched.run (abandonLook_sched _)
      · simp [putEntry, startJob, setTrial]
  case ends =>
    intro n v k job image
    exact ⟨⟨_, saveEnd_eq true job, jobEnded_owner _ _ _ _ _ _ _, jobEnded_trial _ _ _ _ _ _ _,
        jobEnded_store _ _ _ _ _ _ _, jobEnded_live _ _ _ _ _ _ _, jobEnded_version _ _ _ _ _ _ _, rfl⟩,
      ⟨_, saveEnd_eq false job, jobEnded_owner _ _ _ _ _ _ _, jobEnded_trial _ _ _ _ _ _ _,
        jobEnded_store _ _ _ _ _ _ _, rfl⟩⟩

/-! ## RECALL (R185) -/

section

variable {l : Link} {n : Nat} {s : State}

theorem recallAct_outside (outside : s.serves = false) : recallAct l n s = (s, .answer .refusedState []) := by
  simp [recallAct, outside, refuse_eq]

variable (serves : s.serves = true)
include serves

theorem recallAct_busy (busy : s.store.job.isSome = true) : recallAct l n s = (s, .answer .busy []) := by
  simp [recallAct, serves, busy, refuse_eq]

theorem recallAct_idle (idle : s.store.job.isSome = false) : recallAct l n s =
    if s.owner = .recalled then (s, .answer .refusedState [])
    else (startJob (.recall n) (setTrial .archive Area.empty (abandonLook s)), .owed false) := by
  simp [recallAct, serves, idle, refuse_eq]

end

section

variable {t n : Nat} {ok : Bool} {v : Slot} {s : State} (job : s.store.job = some (.recall n))
  (found : slotFound ok n s = v)
include found

theorem readSlotContent_found : readSlotContent n ok (atTime t s) = putSlot n v (atTime t s) := by
  rw [← found]
  rfl

include job

theorem recallReadEnd_unusable {c : Code} (judged : judgeSlot n (putSlot n v (atTime t s)) = .error c) :
    exec (.recallReadEnd t ok) s = .next (settle (jobEnded false .recall (some (.slot n)) c none []
      (emptyTrial (putSlot n v (atTime t s))))) := by
  change execRecallReadEnd t ok s = _
  unfold execRecallReadEnd
  simp only [job, readSlotContent_found found, judged, endJob_eq _ _ _ _ _ (show JobKind.recall ≠ .adopt by decide)]

theorem recallReadEnd_usable {image : Image} {ref : Option Reference}
    (judged : judgeSlot n (putSlot n v (atTime t s)) = .ok (image, ref)) :
    exec (.recallReadEnd t ok) s = .next (settle (jobEnded false .recall (some (.slot n)) .done none
      (imageBytes image ++ flagByte ref.isSome) (setTrial .recalled
        (loadImage image s.spaces s.tanks s.cranes s.bank.channels false) (putSlot n v (atTime t s))))) := by
  change execRecallReadEnd t ok s = _
  unfold execRecallReadEnd
  simp only [job, readSlotContent_found found, judged, endJob_eq _ _ _ _ _ (show JobKind.recall ≠ .adopt by decide)]
  rfl

end

/-- Settles O39: by the checks of R185 in their order, and by what the read's end finds in the slot. -/
theorem recallBringsAnImageToTrial : Obligations.RecallBringsAnImageToTrial := by
  unfold Obligations.RecallBringsAnImageToTrial
  refine fun t s => ⟨?request, ?ends⟩
  case request =>
    intro m n taken refusedWith serves
    have inside (at' : serves) : (handed t .planning s).serves = true := (serves_iff s).mpr at'
    refine ⟨fun outside => planning_answered taken
        (recallAct_outside (Bool.eq_false_iff.mpr (mt (serves_iff s).mp outside))),
      fun at' busy => planning_answered taken (recallAct_busy (inside at') busy),
      fun at' idle recalled => planning_answered taken ?recalled, fun at' idle other => ?begins⟩
    case recalled =>
      rw [recallAct_idle (inside at') (idle_isSome idle)]
      exact if_pos recalled
    case begins =>
      have does := recallAct_idle (l := .planning) (n := n) (inside at') (idle_isSome idle)
      rw [if_neg (show (handed t .planning s).owner ≠ .recalled from other)] at does
      refine ⟨_, planning_owing taken does, rfl, ?_, ?_, abandonLook_live _, rfl⟩
      · exact congrArg Sched.run (abandonLook_sched _)
      · simp [startJob, setTrial]
  case ends =>
    intro n here job endsEmpty
    have ends {ok : Bool} {v : Slot} {c : Code} (found : slotFound ok n s = v)
        (judged : judgeSlot n (putSlot n v (atTime t s)) = .error c) : endsEmpty ok v c := by
      exact ⟨_, recallReadEnd_unusable job found judged, jobEnded_owner _ _ _ _ _ _ _, jobEnded_trial _ _ _ _ _ _ _,
        jobEnded_job _ _ _ _ _ _ _, jobEnded_slots _ _ _ _ _ _ _, jobEnded_live _ _ _ _ _ _ _,
        jobEnded_lastJob _ _ _ _ _ _ _, rfl⟩
    refine ⟨fun image ref held fits => ?usable,
      fun image ref held unfit => ends (slotFound_held held) (judgeSlot_unfit here unfit),
      fun held => ends (slotFound_held held) (judgeSlot_bad here),
      fun held => ends (slotFound_held held) (judgeSlot_empty here), ends rfl (judgeSlot_bad here)⟩
    case usable =>
      have kept : putSlot n (.good image ref) (atTime t s) = { atTime t s with store := { s.store with
          directory := s.store.directory.set n (Slot.good image ref).entry } } := by
        unfold putSlot
        rw [atTime_store, set_held held]
      have done := recallReadEnd_usable (t := t) job (slotFound_held held) (judgeSlot_fits here fits)
      rw [kept] at done
      refine ⟨_, done, jobEnded_owner _ _ _ _ _ _ _, jobEnded_trial _ _ _ _ _ _ _, jobEnded_job _ _ _ _ _ _ _,
        jobEnded_slots _ _ _ _ _ _ _, jobEnded_live _ _ _ _ _ _ _, jobEnded_lastJob _ _ _ _ _ _ _, ?_⟩
      rw [settle_trial, jobEnded_trial]
      rfl

end Sys2Proof.Machine

/-! PROOF. What becomes of SELF-CHECK (R189): the request, the read of the slot, and the comparison that ends the job. -/

namespace Sys2Proof.Machine

/-! ## The comparisons (R189) -/

theorem compareWith_within (q : Quantity) (tolerance a b : Int) :
    (compareWith q tolerance a b).within = true ↔ |a - b| ≤ tolerance := by
  simp [compareWith, absDiff_eq]

theorem compareStation_within (q : Quantity) (k : Nat) (limit a b : Int) :
    (compareStation q k limit a b).within = true ↔ |a - b| * 100 ≤ limit := by
  simp [compareStation, absDiff_eq]

theorem firstOut_eq_none (cs : List Comparison) : firstOut cs = none ↔ ∀ c ∈ cs, c.within = true := by
  simp [firstOut]

/-- The first comparison out of tolerance is the one told. -/
theorem firstOut_eq_some {before after : List Comparison} {c : Comparison} (inside : ∀ x ∈ before, x.within = true)
    (out : c.within = false) :
    firstOut (before ++ c :: after) = some ⟨c.quantity, c.station, c.computed, c.reference⟩ := by
  have none : before.find? (fun c => !c.within) = none := by simpa using inside
  simp [firstOut, List.find?_append, none, out]

/-- The rows of a station's limits, figures and reference figures, with their station numbers. -/
theorem mem_stationRows {lim : LimitSet} {r : Result} {ref : Reference} {k : Nat} {l : StationLimits} {f : Strength}
    {q : RefStation} : (k, l, f, q) ∈ numbered 0 (lim.stations.zip (r.strength.zip ref.stations)) ↔
      lim.stations[k]? = some l ∧ r.strength[k]? = some f ∧ ref.stations[k]? = some q := by
  rw [mem_numbered_iff, Nat.sub_zero, List.getElem?_zip_eq_some, List.getElem?_zip_eq_some]
  exact and_iff_right (Nat.zero_le k)

theorem comparisons_within (lim : LimitSet) (r : Result) (ref : Reference) :
    (∀ c ∈ comparisons lim r ref, c.within = true) ↔
      |r.delta - ref.delta| ≤ 2 ∧ |r.lcg - ref.lcg| ≤ 5 ∧ |r.tcg - ref.tcg| ≤ 5 ∧ |r.kgc - ref.kgc| ≤ 5
        ∧ |r.gm - ref.gm| ≤ 5 ∧ |r.trim - ref.trim| ≤ 5
        ∧ ∀ (k : Nat) (l : StationLimits) (f : Strength) (q : RefStation), lim.stations[k]? = some l →
            r.strength[k]? = some f → ref.stations[k]? = some q →
            |f.sf - q.sf| * 100 ≤ l.shear ∧ |f.bm - q.bm| * 100 ≤ min l.hog l.sag := by
  simp only [comparisons, List.forall_mem_append, List.forall_mem_cons, List.forall_mem_map, List.not_mem_nil,
    compareWith_within, compareStation_within, false_imp_iff, implies_true, and_true, and_assoc]
  have rows : ((∀ x ∈ numbered 0 (lim.stations.zip (r.strength.zip ref.stations)),
        |x.2.2.1.sf - x.2.2.2.sf| * 100 ≤ x.2.1.shear)
      ∧ ∀ x ∈ numbered 0 (lim.stations.zip (r.strength.zip ref.stations)),
        |x.2.2.1.bm - x.2.2.2.bm| * 100 ≤ min x.2.1.hog x.2.1.sag) ↔
      ∀ (k : Nat) (l : StationLimits) (f : Strength) (q : RefStation), lim.stations[k]? = some l →
        r.strength[k]? = some f → ref.stations[k]? = some q →
        |f.sf - q.sf| * 100 ≤ l.shear ∧ |f.bm - q.bm| * 100 ≤ min l.hog l.sag := by
    constructor
    · intro ⟨shear, bending⟩ k l f q hl hf hq
      have mem := mem_stationRows.mpr ⟨hl, hf, hq⟩
      exact ⟨shear _ mem, bending _ mem⟩
    · intro stations
      refine ⟨fun ⟨k, l, f, q⟩ mem => ?_, fun ⟨k, l, f, q⟩ mem => ?_⟩
      all_goals obtain ⟨hl, hf, hq⟩ := mem_stationRows.mp mem
      · exact (stations k l f q hl hf hq).1
      · exact (stations k l f q hl hf hq).2
  rw [rows]

/-! ## The request (R189) -/

section

variable {l : Link} {n : Nat} {s : State}

theorem selfCheckAct_outside (outside : s.serves = false) : selfCheckAct l n s = (s, .answer .refusedState []) := by
  simp [selfCheckAct, outside, refuse_eq]

theorem selfCheckAct_busy (serves : s.serves = true) (busy : s.store.job.isSome = true) :
    selfCheckAct l n s = (s, .answer .busy []) := by
  simp [selfCheckAct, serves, busy, refuse_eq]

/-- What a SELF-CHECK that begins sets before it cancels a waiting ADOPT. -/
def State.checkBegun (n : Nat) (s : State) : State :=
  startJob (.selfCheck n none) (setTrial .archive Area.empty (abandonLook s))

theorem selfCheckAct_begins (serves : s.serves = true) (idle : s.store.job.isSome = false) :
    selfCheckAct l n s = (cancelAdopt (s.checkBegun n), .owed false) := by
  simp [selfCheckAct, serves, idle, State.checkBegun]

theorem checkBegun_store : (s.checkBegun n).store = { s.store with job := some (.selfCheck n none), writeError := false } := by
  simp [State.checkBegun, startJob, setTrial]

end

/-- As a SELF-CHECK begins, a waiting ADOPT is cancelled with its notice. -/
theorem checkBegun_waiting (waits : s.store.waitingAdopt = true) : cancelAdopt (s.checkBegun n) =
    raiseNotice forcedPlanning
      (.archive { job := .adopt, target := none, code := .refusedState, check := none
                  writeError := false, owner := .archive, version := s.version })
      { abandonLook s with
        owner := .archive, trial := Area.empty, store := (cancelAdopt (s.checkBegun n)).store } := by
  have same : (s.checkBegun n).store.waitingAdopt = s.store.waitingAdopt := by rw [checkBegun_store]
  rw [cancelAdopt_store, cancelAdopt_waiting (same.trans waits), ← abandonLook_version s]
  rfl

theorem checkBegun_alone (idle : s.store.waitingAdopt = false) : cancelAdopt (s.checkBegun n) =
    { abandonLook s with
      owner := .archive, trial := Area.empty, store := (cancelAdopt (s.checkBegun n)).store } := by
  have same : (s.checkBegun n).store.waitingAdopt = s.store.waitingAdopt := by rw [checkBegun_store]
  have alone : cancelAdopt (s.checkBegun n) = s.checkBegun n := if_neg (by rw [same, idle]; exact Bool.false_ne_true)
  rw [alone]
  rfl

/-! ## The read of the slot (R189) -/

/-- In a self-check every tank of TRIAL is STATED. -/
theorem loadImage_stated {i : Image} {spaces : List SpaceRec} {tanks : List TankRec} {cranes : List CraneRec}
    {chs : List Channel} : ∀ k ∈ (loadImage i spaces tanks cranes chs true).tanks, k.source = .stated := by
  intro k mem
  obtain ⟨x, -, rfl⟩ := List.mem_map.mp mem
  rfl

section

variable {t n : Nat} {ok : Bool} {v : Slot} {s : State} {image : Image}
  (job : s.store.job = some (.selfCheck n none)) (found : slotFound ok n s = v)
include job found

/-- A slot that is unusable, or has no reference that fits, ends the job. -/
theorem selfCheckReadEnd_unusable {c : Code} (judged : judgeSlot n (putSlot n v (atTime t s)) = .error c) :
    exec (.selfCheckReadEnd t ok) s = .next (settle (jobEnded false .selfCheck (some (.slot n)) c none []
      (emptyTrial (putSlot n v (atTime t s))))) := by
  change execSelfCheckReadEnd t ok s = _
  unfold execSelfCheckReadEnd
  simp only [job, readSlotContent_found found, judged, endJob_eq _ _ _ _ _ (show JobKind.selfCheck ≠ .adopt by decide)]

theorem selfCheckReadEnd_unreferenced {ref : Option Reference}
    (judged : judgeSlot n (putSlot n v (atTime t s)) = .ok (image, ref))
    (other : ∀ q, ref = some q → q.stations.length ≠ s.stationCount) :
    exec (.selfCheckReadEnd t ok) s = .next (settle (jobEnded false .selfCheck (some (.slot n)) .refusedState none []
      (emptyTrial (putSlot n v (atTime t s))))) := by
  change execSelfCheckReadEnd t ok s = _
  unfold execSelfCheckReadEnd
  simp only [job, readSlotContent_found found, judged, endJob_eq _ _ _ _ _ (show JobKind.selfCheck ≠ .adopt by decide)]
  cases ref with
  | none => rfl
  | some q => exact congrArg Host.Outcome.next (if_pos (other q rfl))

/-- An image with a reference of the station count stands in TRIAL and waits for its evaluation. -/
theorem selfCheckReadEnd_waits {ref : Reference}
    (judged : judgeSlot n (putSlot n v (atTime t s)) = .ok (image, some ref))
    (stations : ref.stations.length = s.stationCount) : exec (.selfCheckReadEnd t ok) s = .next (settle
      { putSlot n v (atTime t s) with
        owner := .archive, trial := loadImage image s.spaces s.tanks s.cranes s.bank.channels true
        store := { (putSlot n v (atTime t s)).store with job := some (.selfCheck n (some ref)) }
        sched := { s.sched with selfCheckWaiting := true } }) := by
  change execSelfCheckReadEnd t ok s = _
  unfold execSelfCheckReadEnd
  simp only [job, readSlotContent_found found, judged]
  exact congrArg Host.Outcome.next (if_neg (not_not.mpr stations))

end

/-! ## The evaluation's end (R189) -/

/-- The verdict of a self-check as its answer carries it. -/
theorem selfCheckAnswer_eq (out : Option CheckFailure) (level : Level × Option CritKind) :
    selfCheckAnswer out level = (match out with
      | none => List.replicate 13 0
      | some f => [1, 1] ++ be 1 f.quantity.num
          ++ (match f.station with | none => [0, 0] | some k => 1 :: be 1 k)
          ++ beS 4 f.computed ++ beS 4 f.reference) ++ be 1 level.1.num
        ++ (match level.2 with | none => [0, 0] | some k => 1 :: be 1 k.num) := by
  obtain ⟨level, worst⟩ := level
  cases out with
  | none => cases worst <;> rfl
  | some f =>
    obtain ⟨q, station, a, b⟩ := f
    cases station <;> cases worst <;> simp [selfCheckAnswer, flagByte, optField]

theorem selfCheckCompletion_eq {t n : Nat} {ref : Reference} {sn : Snapshot} {acc : Accumulators} {s : State}
    (job : s.store.job = some (.selfCheck n (some ref))) (computed : s.unit = some ⟨.selfCheck, sn, acc⟩) :
    exec (.selfCheckCompletion t) s = .next (settle (jobEnded false .selfCheck (some (.slot n)) .done
      (some ((firstOut (comparisons (sn.hull.s6.limits (sn.resultFrom acc).mode) (sn.resultFrom acc) ref)).map
        (·.quantity)))
      (selfCheckAnswer (firstOut (comparisons (sn.hull.s6.limits (sn.resultFrom acc).mode) (sn.resultFrom acc) ref))
        (judgeLevel sn.hull (sn.resultFrom acc)))
      { atTime t s with unit := none, owner := .empty, trial := Area.empty })) := by
  change execSelfCheckCompletion t s = _
  unfold execSelfCheckCompletion
  simp only [computed, endSelfCheck, atTime_store, job,
    endJob_eq _ _ _ _ _ (show JobKind.selfCheck ≠ .adopt by decide)]
  rfl

/-- Settles O40: by the checks of R189, by what the read finds in the slot, and by the comparison with the reference. -/
theorem selfCheckRunsItsCourse : Obligations.SelfCheckRunsItsCourse := by
  unfold Obligations.SelfCheckRunsItsCourse
  refine ⟨fun t s => ⟨?request, ?ends, ?waits, ?completes⟩,
    fun lim r ref _ _ => (firstOut_eq_none _).trans (comparisons_within lim r ref),
    fun cs => ⟨firstOut_eq_none cs, fun before c after' parts inside out => parts ▸ firstOut_eq_some inside out⟩⟩
  case request =>
    intro m n taken refusedWith serves
    have inside (at' : serves) : (handed t .planning s).serves = true := (serves_iff s).mpr at'
    refine ⟨fun outside => planning_answered taken
        (selfCheckAct_outside (Bool.eq_false_iff.mpr (mt (serves_iff s).mp outside))),
      fun at' busy => planning_answered taken (selfCheckAct_busy (inside at') busy), fun at' idle => ?begins⟩
    have does := selfCheckAct_begins (l := .planning) (n := n) (inside at') (idle_isSome idle)
    have store : (cancelAdopt ((handed t .planning s).checkBegun n)).store =
        { s.store with job := some (.selfCheck n none), writeError := false, waitingAdopt := false } := by
      rw [cancelAdopt_store, checkBegun_store]
      rfl
    refine ⟨_, planning_owing taken does, cancelAdopt_owner _, cancelAdopt_trial _, ?_, store, ?_⟩
    · rw [cancelAdopt_sched]
      exact congrArg Sched.run (abandonLook_sched _)
    · intro begun
      by_cases waits : s.store.waitingAdopt = true
      · rw [if_pos waits]
        exact checkBegun_waiting waits
      · rw [if_neg waits]
        exact checkBegun_alone (Bool.eq_false_iff.mpr waits)
  case ends =>
    intro n here job endsEmpty
    have ends {ok : Bool} {v : Slot} {c : Code} (does : exec (.selfCheckReadEnd t ok) s = .next (settle (jobEnded false
        .selfCheck (some (.slot n)) c none [] (emptyTrial (putSlot n v (atTime t s)))))) : endsEmpty ok v c :=
      ⟨_, does, jobEnded_owner _ _ _ _ _ _ _, jobEnded_job _ _ _ _ _ _ _, jobEnded_lastJob _ _ _ _ _ _ _, rfl⟩
    refine ⟨ends (selfCheckReadEnd_unusable job rfl (judgeSlot_bad here)),
      fun held => ends (selfCheckReadEnd_unusable job (slotFound_held held) (judgeSlot_bad here)),
      fun held => ends (selfCheckReadEnd_unusable job (slotFound_held held) (judgeSlot_empty here)),
      fun image ref held =>
        ⟨fun unfit => ends (selfCheckReadEnd_unusable job (slotFound_held held) (judgeSlot_unfit here unfit)),
        fun fits other =>
          ends (selfCheckReadEnd_unreferenced job (slotFound_held held) (judgeSlot_fits here fits) other)⟩⟩
  case waits =>
    intro n image ref job held fits stations
    have here : n < s.store.slots.length := (List.getElem?_eq_some_iff.mp held).1
    exact ⟨_, selfCheckReadEnd_waits job (slotFound_held held) (judgeSlot_fits here fits) stations, rfl, rfl,
      loadImage_stated, rfl, rfl⟩
  case completes =>
    intro n ref sn acc job computed r level out verdict worst
    refine ⟨fun whole => by rw [evaluate, ← whole], _, selfCheckCompletion_eq job computed, jobEnded_unit _ _ _ _ _ _ _,
      jobEnded_owner _ _ _ _ _ _ _, jobEnded_trial _ _ _ _ _ _ _, jobEnded_job _ _ _ _ _ _ _,
      jobEnded_lastJob _ _ _ _ _ _ _, jobEnded_verdict _ _ _ _ _ _ _, jobEnded_crit _ _ _ _ _ _ _,
      jobEnded_serial _ _ _ _ _ _ _, jobEnded_holds _ _ _ _ _ _ _, jobEnded_live _ _ _ _ _ _ _, ?_⟩
    have bytes : selfCheckAnswer out level = verdict ++ be 1 level.1.num ++ worst := selfCheckAnswer_eq out level
    rw [← bytes]

end Sys2Proof.Machine

/-! PROOF. What becomes of LEAVE-CONFIG (R180, R181): the request in each device state, and the ends of its write. -/

namespace Sys2Proof.Machine

/-! ## The request (R180, R181) -/

section

variable {l : Link} {s : State} {w : Hull}

theorem leaveConfigAct_run (run : s.device = .run) : leaveConfigAct l () s = (s, .answer .notInConfig []) := by
  unfold leaveConfigAct
  split
  · rfl
  · exact if_pos run

theorem leaveConfigAct_noCopy (none : s.working = none) : leaveConfigAct l () s = (s, .answer .notInConfig []) := by
  simp only [leaveConfigAct, none, refuse_eq]

/-- Outside RUN with a working copy and the store at rest, LEAVE-CONFIG goes by the device state. -/
theorem leaveConfigAct_checked (working : s.working = some w) (outside : s.device ≠ .run) :
    leaveConfigAct l () s = if s.storeBusy then (s, .answer .busy [])
      else if s.device = .config then leaveFromConfig w s else leaveFromFault w s := by
  simp only [leaveConfigAct, working, refuse_eq, if_neg outside]

theorem leaveConfigAct_busy (working : s.working.isSome = true) (outside : s.device ≠ .run)
    (busy : s.storeBusy = true) : leaveConfigAct l () s = (s, .answer .busy []) := by
  obtain ⟨w, working⟩ := Option.isSome_iff_exists.mp working
  rw [leaveConfigAct_checked working outside, if_pos busy]

theorem leaveConfigAct_config (working : s.working = some w) (config : s.device = .config)
    (free : s.storeBusy = false) : leaveConfigAct l () s = leaveFromConfig w s := by
  rw [leaveConfigAct_checked working (by simp [config]), if_neg (Bool.eq_false_iff.mp free), if_pos config]

theorem leaveConfigAct_fault (working : s.working = some w) (fault : s.device = .hullFault)
    (free : s.storeBusy = false) : leaveConfigAct l () s = leaveFromFault w s := by
  rw [leaveConfigAct_checked working (by simp [fault]), if_neg (Bool.eq_false_iff.mp free), if_neg (by simp [fault])]

/-- The first item that fails as LEAVE-CONFIG leaves CONFIG (R180). -/
def leaveFailing (w : Hull) (s : State) : Option ItemAddr :=
  firstFailure (allTests w ++ testLots w s.live ++ testTanks w s.live ++ testGuard w s.ring (s.toWrite w))

theorem leaveFromConfig_failing {a : ItemAddr} (failing : leaveFailing w s = some a) :
    leaveFromConfig w s = (s, .answer .hullInvalid (be 1 a.sec ++ [0] ++ be 1 a.item ++ be 1 a.i ++ be 1 a.j)) := by
  unfold leaveFailing at failing
  simp only [leaveFromConfig, failing]
  rfl

theorem leaveFromConfig_nothing (passed : leaveFailing w s = none) (nothing : s.toWrite w = []) :
    leaveFromConfig w s = (enterRun w s, .answer .done [0]) := by
  unfold leaveFailing at passed
  simp only [leaveFromConfig, passed]
  exact if_pos (List.isEmpty_iff.mpr nothing)

theorem leaveFromConfig_begins (passed : leaveFailing w s = none) (differ : s.toWrite w ≠ []) :
    leaveFromConfig w s = (startJob (.leaveConfig (s.toWrite w)) s, .owed false) := by
  unfold leaveFailing at passed
  simp only [leaveFromConfig, passed]
  exact if_neg (mt List.isEmpty_iff.mp differ)

theorem leaveFromFault_failing {a : ItemAddr} (failing : validate w = some a) :
    leaveFromFault w s = (s, .answer .hullInvalid (be 1 a.sec ++ [0] ++ be 1 a.item ++ be 1 a.i ++ be 1 a.j)) := by
  simp only [leaveFromFault, failing]
  rfl

theorem leaveFromFault_passed (passed : validate w = none) :
    leaveFromFault w s = (startJob (.leaveConfig (s.toRepair w)) s, .owed false) := by
  simp only [leaveFromFault, passed]

end

/-! ## LIVE, the ring and the links brought into line (R20, R152, R161) -/

theorem resize_length {α : Type} (n : Nat) (new : α) (xs : List α) : (resize n new xs).length = n := by
  simp only [resize, List.length_append, List.length_take, List.length_replicate]
  omega

/-- What a resized list holds was there before, or is the new content. -/
theorem resize_held {α : Type} {n k : Nat} {new x : α} {xs : List α} (held : (resize n new xs)[k]? = some x) :
    x = xs.getD k new := by
  have here : k < n := by
    simpa only [resize_length] using (List.getElem?_eq_some_iff.mp held).1
  rw [List.getD_eq_getElem?_getD]
  unfold resize at held
  by_cases kept : k < xs.length
  · rw [List.getElem?_append_left (by simp; omega), List.getElem?_take_of_lt here] at held
    rw [held]
    rfl
  · rw [List.getElem?_append_right (by simp; omega), List.getElem?_replicate_of_lt (by simp; omega)] at held
    rw [List.getElem?_eq_none (by omega)]
    exact (Option.some.inj held).symm

theorem alignLive_tank {h : Hull} {chs : List Channel} {live : Area} {k : Nat} {T : TankState}
    (held : (alignLive h chs live).tanks[k]? = some T) :
    T = { live.tanks.getD k ⟨.stated, 0, 1025⟩ with
      source := if gaugeBound chs k then (live.tanks.getD k ⟨.stated, 0, 1025⟩).source else .stated } := by
  simp only [alignLive, List.getElem?_map, numbered_getElem?, Option.map_map, Option.map_eq_some_iff] at held
  obtain ⟨old, kept, rfl⟩ := held
  obtain rfl := resize_held kept
  simp only [Function.comp, settleSource, Nat.zero_add]
  cases gaugeBound chs k <;> rfl

/-! ### The links at the entry to RUN -/

theorem Liu.write_hold_replaced (u : Liu) {n : Notice} (hold : n.kind = .hold) : u.write n = { u with
    slots := { u.slots with hold := (u.write n).slots.hold }
    summary := { u.summary with replaced := (u.write n).summary.replaced } } := by
  unfold Liu.write
  rw [hold]
  dsimp only
  split <;> rfl

/-- Recomputing a line reaches a link in its HOLD slot and its count of replaced notices alone. -/
theorem recompute_hold (h : Line) (s : State) (l : Link) : ∃ n c, (recompute h s).lius.get l =
    { s.lius.get l with
      slots := { (s.lius.get l).slots with hold := n }
      summary := { (s.lius.get l).summary with replaced := c } } := by
  unfold recompute
  split
  · exact ⟨_, _, rfl⟩
  · rw [raiseNotice_get]
    split
    · exact ⟨_, _, Liu.write_hold_replaced _ rfl⟩
    · exact ⟨_, _, rfl⟩

theorem recomputeLines_hold (hs : List Line) (s : State) (l : Link) : ∃ n c, (recomputeLines hs s).lius.get l =
    { s.lius.get l with
      slots := { (s.lius.get l).slots with hold := n }
      summary := { (s.lius.get l).summary with replaced := c } } := by
  induction hs generalizing s with
  | nil => exact ⟨_, _, rfl⟩
  | cons h hs ih =>
    obtain ⟨n, c, rest⟩ := ih (recompute h s)
    obtain ⟨_, _, first⟩ := recompute_hold h s l
    exact ⟨n, c, rest.trans (by rw [first])⟩

theorem enterRun_link (h : Hull) (s : State) (l : Link) : (enterRun h s).lius.get l = { s.lius.get l with
    slots := { (s.lius.get l).slots with hold := ((enterRun h s).lius.get l).slots.hold }
    summary := { (s.lius.get l).summary with replaced := ((enterRun h s).lius.get l).summary.replaced } } := by
  have entered : ∃ n c, (enterRun h s).lius.get l = { s.lius.get l with
      slots := { (s.lius.get l).slots with hold := n }
      summary := { (s.lius.get l).summary with replaced := c } } := by
    unfold enterRun recomputeAll
    rw [entryCauses_run rfl]
    exact recomputeLines_hold _ _ l
  obtain ⟨n, c, reached⟩ := entered
  rw [reached]

/-- What a notice leaves at the links depends on the links alone. -/
theorem raiseNotice_lius {forced : Link → Bool} {n : Notice} {s s' : State} (same : s.lius = s'.lius) :
    (raiseNotice forced n s).lius = (raiseNotice forced n s').lius :=
  PerLink.ext_get fun l => by rw [raiseNotice_get, raiseNotice_get, same]

/-- What the end of a job leaves at the links depends on the links and on what the notice tells. -/
theorem jobEnded_lius {restart : Bool} {kind : JobKind} {target : Option Target} {code : Code}
    {check : Option (Option Quantity)} {body : List Byte} {s s' : State} (lius : s.lius = s'.lius)
    (error : s.store.writeError = s'.store.writeError) (owner : s.owner = s'.owner) (version : s.version = s'.version) :
    (jobEnded restart kind target code check body s).lius = (jobEnded restart kind target code check body s').lius := by
  unfold jobEnded
  rw [error, owner, version]
  refine raiseNotice_lius ?_
  unfold answerOwed modifyLiu
  dsimp only
  rw [lius]

/-! ## The ends of the write (R180, R181) -/

/-- What the written sections change before the job ends (R180): LIVE and its blocks brought into line, and a RECALLED
TRIAL emptied. -/
def State.sectionsTaken (t : Nat) (w : Hull) (ns : List Nat) (s : State) : State := { atTime t s with
  hull := some w, version := s.version + 1
  bank := { s.bank with channels := bankAfter w ns s.bank.channels }
  live := alignLive w (bankAfter w ns s.bank.channels) s.live
  tracker := resize w.s5.length { lastNet := 0, peak := none } s.tracker
  ring := ringAfter w ns s.live s.ring
  owner := if s.owner = .recalled then .empty else s.owner
  trial := if s.owner = .recalled then Area.empty else s.trial
  store := { s.store with sections := s.store.sections.writeAll w ns } }

/-- The job that has ended, and the ADOPT it cancels, as the device enters RUN (R180, R187). -/
def State.leftConfig (t : Nat) (w : Hull) (ns : List Nat) (s : State) : State :=
  cancelAdopt (jobEnded false .leaveConfig (lastSection ns) .done none (sectionSet ns) (s.sectionsTaken t w ns))

theorem leaveWritten_eq (t : Nat) (w : Hull) (ns : List Nat) (s : State) :
    leaveWritten w ns (atTime t s) = enterRun w (s.leftConfig t w ns) := by
  have taken : (let s1 := takeSections w ns { atTime t s with store :=
        { s.store with sections := s.store.sections.writeAll w ns } }
      if s1.owner = .recalled then emptyTrial s1 else s1) = s.sectionsTaken t w ns := by
    unfold State.sectionsTaken
    dsimp only
    by_cases recalled : s.owner = .recalled
    · rw [if_pos recalled, if_pos recalled]
      exact if_pos recalled
    · rw [if_neg recalled, if_neg recalled]
      exact if_neg recalled
  unfold leaveWritten State.leftConfig
  rw [← endJob_eq _ _ _ _ _ (by decide), ← taken]
  rfl

theorem leaveFailed_eq (t : Nat) (w : Hull) (ns : List Nat) (n : Nat) (s : State) : leaveFailed w ns n (atTime t s) =
    jobEnded false .leaveConfig (some (.sec n)) .hullInvalid none (be 1 n ++ [1, 0, 0, 0])
      { atTime t s with store := { s.store with
          sections := (s.store.sections.writeAll w (ns.takeWhile (· != n))).write w false n, writeError := true } } := by
  have bytes : hullInvalidBytes ⟨n, 0, 0, 0⟩ true = be 1 n ++ [1, 0, 0, 0] := by
    simp only [hullInvalidBytes, List.append_assoc]
    rfl
  unfold leaveFailed
  rw [endJob_eq _ _ _ _ _ (by decide), bytes]
  rfl

section

variable {t : Nat} {s : State} {ns : List Nat} {w : Hull} (job : s.store.job = some (.leaveConfig ns))
  (working : s.working = some w)
include job working

theorem leaveEnd_config (config : s.device = .config) : exec (.leaveConfigWriteEnd t none) s =
    .next (settle (enterRun w (s.leftConfig t w ns))) := by
  change execLeaveConfigWriteEnd t none s = _
  unfold execLeaveConfigWriteEnd
  simp only [job, working, config, if_true, leaveWritten_eq]

theorem leaveEnd_fault (outside : s.device ≠ .config) : exec (.leaveConfigWriteEnd t none) s =
    .next (settle (awaitRestart (jobEnded true .leaveConfig (lastSection ns) .done none (sectionSet ns)
      { atTime t s with store := { s.store with sections := s.store.sections.writeAll w ns } }))) := by
  change execLeaveConfigWriteEnd t none s = _
  unfold execLeaveConfigWriteEnd
  simp only [job, working, atTime_device, if_neg outside, repairWritten,
    endJobWith_eq _ _ _ _ _ _ (show JobKind.leaveConfig ≠ .adopt by decide)]
  rfl

theorem leaveEnd_failed {n : Nat} (mem : n ∈ ns) : exec (.leaveConfigWriteEnd t (some n)) s =
    .next (settle (jobEnded false .leaveConfig (some (.sec n)) .hullInvalid none (be 1 n ++ [1, 0, 0, 0])
      { atTime t s with store := { s.store with
          sections := (s.store.sections.writeAll w (ns.takeWhile (· != n))).write w false n, writeError := true } })) := by
  change execLeaveConfigWriteEnd t (some n) s = _
  unfold execLeaveConfigWriteEnd
  simp only [job, working, List.contains_iff_mem.mpr mem, if_true, leaveFailed_eq]

end

/-! ### What the entry to RUN finds -/

section

variable (t : Nat) (w : Hull) (ns : List Nat) (s : State)

theorem leftConfig_store : (s.leftConfig t w ns).store = { s.store with
    sections := s.store.sections.writeAll w ns, job := none, waitingAdopt := false
    lastJob := some { kind := .leaveConfig, target := lastSection ns, code := .done } } := by
  rw [State.leftConfig, cancelAdopt_store, jobEnded_store]
  rfl

theorem leftConfig_bank : (s.leftConfig t w ns).bank =
    { s.bank with channels := bankAfter w ns s.bank.channels } := by
  rw [State.leftConfig, cancelAdopt_bank, jobEnded_bank]
  rfl

theorem leftConfig_now : (s.leftConfig t w ns).now = max s.now t := by
  rw [State.leftConfig, cancelAdopt_now, jobEnded_only]
  rfl

theorem leftConfig_live : (s.leftConfig t w ns).live = alignLive w (bankAfter w ns s.bank.channels) s.live := by
  rw [State.leftConfig, cancelAdopt_live, jobEnded_live]
  rfl

theorem leftConfig_version : (s.leftConfig t w ns).version = s.version + 1 := by
  rw [State.leftConfig, cancelAdopt_version, jobEnded_version]
  rfl

theorem leftConfig_tracker : (s.leftConfig t w ns).tracker =
    resize w.s5.length { lastNet := 0, peak := none } s.tracker := by
  rw [State.leftConfig, cancelAdopt_tracker, jobEnded_tracker]
  rfl

theorem leftConfig_ring : (s.leftConfig t w ns).ring = ringAfter w ns s.live s.ring := by
  rw [State.leftConfig, cancelAdopt_ring, jobEnded_ring]
  rfl

theorem leftConfig_owner : (s.leftConfig t w ns).owner = if s.owner = .recalled then .empty else s.owner := by
  rw [State.leftConfig, cancelAdopt_owner, jobEnded_owner]
  rfl

theorem leftConfig_trial : (s.leftConfig t w ns).trial = if s.owner = .recalled then Area.empty else s.trial := by
  rw [State.leftConfig, cancelAdopt_trial, jobEnded_trial]
  rfl

/-- What the job's end and the cancelled ADOPT leave at the links depends on the links, the version and TRIAL's owner. -/
theorem leftConfig_lius :
    let owner := if s.owner = .recalled then .empty else s.owner
    let ended := jobEnded false .leaveConfig (lastSection ns) .done none (sectionSet ns)
      { s with version := s.version + 1, owner := owner }
    (s.leftConfig t w ns).lius = (if s.store.waitingAdopt = true then raiseNotice forcedPlanning
        (.archive { job := .adopt, target := none, code := .refusedState, check := none
                    writeError := s.store.writeError, owner := owner, version := s.version + 1 }) ended
      else ended).lius := by
  intro owner ended
  let real := jobEnded false .leaveConfig (lastSection ns) .done none (sectionSet ns) (s.sectionsTaken t w ns)
  have same : real.lius = ended.lius := jobEnded_lius rfl rfl rfl rfl
  have store : real.store.waitingAdopt = s.store.waitingAdopt := by
    rw [jobEnded_store]
    rfl
  change (cancelAdopt real).lius = _
  by_cases waits : s.store.waitingAdopt = true
  · rw [if_pos waits, cancelAdopt_waiting (store.trans waits)]
    have error : real.store.writeError = s.store.writeError := by
      rw [jobEnded_store]
      rfl
    have owned : real.owner = owner := by
      rw [jobEnded_owner]
      rfl
    have version : real.version = s.version + 1 := by
      rw [jobEnded_version]
      rfl
    rw [error, owned, version]
    exact raiseNotice_lius same
  · have alone : cancelAdopt real = real := if_neg (store ▸ waits)
    rw [if_neg waits, alone, same]

end

theorem ringAfter_eq (w : Hull) (ns : List Nat) (live : Area) (r : Ring) : ringAfter w ns live r =
    (if ns.contains 7 then
      { r with
        guard := w.s7.guard, depth := w.s7.depth
        version := if w.s7.depth = r.depth then r.version else r.version + 1 }
    else r).mark (stepLost w live) (fun e => { e with status := .withdrawn }) := by
  unfold ringAfter
  rw [Ring.setting_eq]
  rfl

theorem awaitRestart_at {now : Nat} {s : State} (at' : s.now = now) : awaitRestart s =
    { s with store := { s.store with restart := some { deadline := now + 1000, due := false } } } := by
  unfold awaitRestart
  rw [at']
  rfl

/-- What the entry to RUN sets by itself. -/
theorem entered_run (w : Hull) (s : State) : let entered := settle (enterRun w s)
    entered.device = .run ∧ entered.hull = some w ∧ entered.working = none ∧ entered.published = false
      ∧ entered.crit = buildTable w ∧ entered.sched.livePending = true
      ∧ ∀ h, (entered.holds.get h).asserted = true := by
  simp [enterRun_asserted]

/-- What a LEAVE-CONFIG that has verified brings to RUN. -/
theorem entered_leftConfig (t : Nat) (w : Hull) (ns : List Nat) (s : State) :
    let entered := settle (enterRun w (s.leftConfig t w ns))
    entered.store = { s.store with
        sections := s.store.sections.writeAll w ns, job := none, waitingAdopt := false
        lastJob := some { kind := .leaveConfig, target := lastSection ns, code := .done } }
      ∧ entered.live = alignLive w (bankAfter w ns s.bank.channels) s.live
      ∧ entered.bank = { s.bank with channels := startChannels (max s.now t) (bankAfter w ns s.bank.channels) }
      ∧ entered.version = s.version + 1
      ∧ entered.tracker = resize w.s5.length { lastNet := 0, peak := none } s.tracker
      ∧ entered.ring = ringAfter w ns s.live s.ring
      ∧ entered.owner = (if s.owner = .recalled then .empty else s.owner)
      ∧ entered.trial = (if s.owner = .recalled then Area.empty else s.trial) := by
  intro entered
  refine ⟨?_, ?_, ?_, ?_, ?_, ?_, ?_, ?_⟩
  · rw [settle_store, enterRun_store, leftConfig_store]
  · rw [settle_live, enterRun_live, leftConfig_live]
  · rw [settle_bank, enterRun_bank, leftConfig_bank, leftConfig_now]
  · rw [settle_version, enterRun_version, leftConfig_version]
  · rw [settle_tracker, enterRun_tracker, leftConfig_tracker]
  · rw [settle_ring, enterRun_ring, leftConfig_ring]
  · rw [settle_owner, enterRun_owner, leftConfig_owner]
  · rw [settle_trial, enterRun_trial, leftConfig_trial]

/-- Settles O37: by the checks of R180 and R181 in each device state, and by what each end of the write brings into
line. -/
theorem leaveConfigValidatesAndWrites : Obligations.LeaveConfigValidatesAndWrites := by
  unfold Obligations.LeaveConfigValidatesAndWrites
  refine ⟨fun t s m taken => ⟨fun run => planning_answered taken (leaveConfigAct_run run),
    fun none => planning_answered taken (leaveConfigAct_noCopy none),
    fun working outside busy => planning_answered taken
      (leaveConfigAct_busy working outside ((storeBusy_iff s).mpr busy)),
    fun w working outside idle rest => ⟨?config, ?fault⟩⟩,
    fun t s ns w job working => ⟨?written, ?repaired, ?failed⟩⟩
  case config =>
    rintro config sections rfl failing
    have free : (handed t .planning s).storeBusy = false :=
      Bool.eq_false_iff.mpr fun busy => by simpa [idle, rest] using (storeBusy_iff s).mp busy
    have does := leaveConfigAct_config (l := .planning) (s := handed t .planning s) working config free
    exact ⟨fun a fails => planning_answered taken (does.trans (leaveFromConfig_failing fails)),
      fun passed nothing => ⟨_, planning_answered taken (does.trans (leaveFromConfig_nothing passed nothing)),
        enterRun_device _ _, enterRun_hull _ _, enterRun_working _ _, enterRun_published _ _, enterRun_crit _ _,
        enterRun_livePending _ _, enterRun_asserted _ _,
        (congrArg Bank.channels (enterRun_bank w (handed t .planning s)) :), enterRun_tracker _ _, enterRun_live _ _,
        enterRun_version _ _, enterRun_ring _ _, enterRun_store _ _⟩,
      fun passed differ => planning_owing taken (does.trans (leaveFromConfig_begins passed differ))⟩
  case fault =>
    intro fault
    have free : (handed t .planning s).storeBusy = false :=
      Bool.eq_false_iff.mpr fun busy => by simpa [idle, rest] using (storeBusy_iff s).mp busy
    have does := leaveConfigAct_fault (l := .planning) (s := handed t .planning s) working fault free
    exact ⟨fun a fails => planning_answered taken (does.trans (leaveFromFault_failing fails)),
      fun passed => planning_owing taken (does.trans (leaveFromFault_passed passed))⟩
  case written =>
    intro config
    obtain ⟨device, hull, copy, unpublished, crit, pending, asserted⟩ := entered_run w (s.leftConfig t w ns)
    obtain ⟨store, live, bank, version, tracker, ring, owner, trial⟩ := entered_leftConfig t w ns s
    refine ⟨_, leaveEnd_config job working config, device, hull, copy, unpublished, (congrArg Store.sections store :),
      (congrArg Store.job store :), (congrArg Store.lastJob store :), version, crit, pending,
      (congrArg Area.lots live :), (congrArg Area.constants live :), ?tanks, (congrArg Area.mode live :), ?tank,
      (congrArg Area.cranes live :), (congrArg Bank.channels bank :), (congrArg Bank.errors bank :), tracker,
      ring.trans (ringAfter_eq _ _ _ _),
      fun recalled => ⟨owner.trans (if_pos recalled), trial.trans (if_pos recalled),
        (congrArg Store.waitingAdopt store :)⟩,
      fun other => ⟨owner.trans (if_neg other), trial.trans (if_neg other)⟩, asserted, ?links⟩
    case tanks =>
      rw [live]
      simp [alignLive, resize_length]
    case tank =>
      intro k T held
      rw [live] at held
      exact alignLive_tank held
    case links =>
      intro owner ended told
      refine ⟨_, rfl, fun l => ?_⟩
      have reached := enterRun_link w (s.leftConfig t w ns) l
      rw [leftConfig_lius] at reached
      exact reached
  case repaired =>
    intro fault
    have does := leaveEnd_fault (t := t) job working (by simp [fault])
    rw [awaitRestart_at (now := max s.now t) (by rw [jobEnded_only]; rfl)] at does
    refine ⟨_, does, jobEnded_version _ _ _ _ _ _ _, ?_, ?_, ?_, ?_, ?_, rfl, rfl⟩
    · exact (jobEnded_device _ _ _ _ _ _ _).trans fault
    · exact jobEnded_hull _ _ _ _ _ _ _
    · exact (jobEnded_working _ _ _ _ _ _ _).trans working
    · exact (congrArg Store.sections (jobEnded_store _ _ _ _ _ _ _) :)
    · exact jobEnded_job _ _ _ _ _ _ _
  case failed =>
    intro n mem
    refine ⟨_, leaveEnd_failed (t := t) job working mem, ?_, jobEnded_job _ _ _ _ _ _ _, ?_, jobEnded_lastJob _ _ _ _ _ _ _,
      jobEnded_device _ _ _ _ _ _ _, jobEnded_hull _ _ _ _ _ _ _, jobEnded_working _ _ _ _ _ _ _,
      jobEnded_live _ _ _ _ _ _ _, jobEnded_version _ _ _ _ _ _ _, jobEnded_bank _ _ _ _ _ _ _,
      jobEnded_ring _ _ _ _ _ _ _, jobEnded_holds _ _ _ _ _ _ _, ?_⟩
    · rw [settle_store, jobEnded_store]
    · rw [settle_store, jobEnded_store]
    · rw [settle_store, jobEnded_store]

end Sys2Proof.Machine

/-! PROOF. What an event can do to one link: its response entries, its queue, its counters and its notice slots, and that
each move stays within the capacities of R195, R198, R204 and R206. -/

namespace Sys2Proof.Machine

/-! ## The capacities, part by part -/

/-- Eight counters of 0..255 (R206). -/
structure Summary.Within (m : Summary) : Prop where
  accepted : m.accepted ≤ 255
  refused : m.refused ≤ 255
  backOffs : m.backOffs ≤ 255
  discards : m.discards ≤ 255
  overruns : m.overruns ≤ 255
  applied : m.applied ≤ 255
  refusedSets : m.refusedSets ≤ 255
  replaced : m.replaced ≤ 255

/-- Each notice stands in the slot of its kind (R204). -/
def NoticeSlots.Sorted (x : NoticeSlots) : Prop := ∀ k n, x.get k = some n → n.kind = k

theorem Liu.bounded_iff (u : Liu) :
    u.bounded ↔ u.usedEntries ≤ 8 ∧ u.queueFits ∧ u.summary.Within ∧ u.slots.Sorted := by
  constructor
  · rintro ⟨entries, queue, a, b, c, d, e, f, g, h, slots⟩
    exact ⟨entries, queue, ⟨a, b, c, d, e, f, g, h⟩, slots⟩
  · rintro ⟨entries, queue, ⟨a, b, c, d, e, f, g, h⟩, slots⟩
    exact ⟨entries, queue, a, b, c, d, e, f, g, h, slots⟩

theorem Summary.within_zero : Summary.zero.Within :=
  ⟨Nat.zero_le _, Nat.zero_le _, Nat.zero_le _, Nat.zero_le _, Nat.zero_le _, Nat.zero_le _, Nat.zero_le _,
    Nat.zero_le _⟩

theorem Summary.Within.countResponse {m : Summary} (h : m.Within) (c : Code) : (m.countResponse c).Within := by
  unfold Summary.countResponse
  split
  · exact { h with accepted := bump_le h.accepted }
  · exact { h with refused := bump_le h.refused }

/-- A slot emptied, or filled with a notice of its kind, leaves the slots sorted. -/
theorem NoticeSlots.Sorted.set {x : NoticeSlots} (h : x.Sorted) {k : NoticeKind} {v : Option Notice}
    (kind : ∀ n, v = some n → n.kind = k) : (x.set k v).Sorted := by
  intro k' n held
  by_cases same : k' = k
  · subst same
    rw [NoticeSlots.get_set] at held
    exact kind n held
  · rw [NoticeSlots.get_set_other x v same] at held
    exact h k' n held

/-! ## Moves of one link -/

/-- A move that takes no further response entry and leaves the queue, the counters and the slots within their
capacities. -/
structure Liu.Keeps (u u' : Liu) : Prop where
  entries : u'.usedEntries ≤ u.usedEntries
  queue : u.queueFits → u'.queueFits
  counters : u.summary.Within → u'.summary.Within
  slots : u.slots.Sorted → u'.slots.Sorted

section

variable {u u' u'' : Liu}

theorem Liu.Keeps.refl (u : Liu) : u.Keeps u := ⟨le_rfl, id, id, id⟩

theorem Liu.Keeps.trans (h : u.Keeps u') (h' : u'.Keeps u'') : u.Keeps u'' :=
  ⟨h'.entries.trans h.entries, h'.queue ∘ h.queue, h'.counters ∘ h.counters, h'.slots ∘ h.slots⟩

theorem Liu.Keeps.bounded (h : u.Keeps u') (good : u.bounded) : u'.bounded := by
  obtain ⟨entries, queue, counters, slots⟩ := u.bounded_iff.mp good
  exact u'.bounded_iff.mpr ⟨h.entries.trans entries, h.queue queue, h.counters counters, h.slots slots⟩

end

/-- A link after its reset is within its capacities whatever it was. -/
theorem Liu.keeps_reset (u : Liu) (l : Link) (inBreak : Bool) : u.Keeps (Liu.reset l inBreak) := by
  obtain ⟨_, queue, counters, slots⟩ := (Liu.reset l inBreak).bounded_iff.mp (Liu.bounded_reset l inBreak)
  exact ⟨Nat.zero_le _, fun _ => queue, fun _ => counters, fun _ => slots⟩

theorem Liu.keeps_tail (u : Liu) : u.Keeps { u with inbound := u.inbound.tail } where
  entries := le_rfl
  queue := by
    rintro ⟨total, part, each⟩
    refine ⟨?_, part, fun m mem => each m (List.mem_of_mem_tail mem)⟩
    dsimp only
    cases held : u.inbound with
    | nil => simpa [held] using total
    | cons m ms =>
      rw [held, queuedBytes] at total
      rw [List.tail_cons]
      omega
  counters := id
  slots := id

theorem Liu.keeps_write (u : Liu) (n : Notice) : u.Keeps (u.write n) where
  entries := le_rfl
  queue := id
  counters := by
    intro h
    unfold Liu.write
    dsimp only
    split
    · exact { h with replaced := bump_le h.replaced }
    · exact h
  slots := fun h => h.set fun m same => by
    cases same
    rfl

theorem Liu.keeps_transmit (u : Liu) (now : Nat) : u.Keeps (u.transmit now) := by
  unfold Liu.transmit
  split
  · exact .refl u
  · exact ⟨le_rfl, id, id, id⟩

theorem Liu.keeps_beginResponse {u : Liu} {r : Response} {rest : List Response} (ready : u.ready = r :: rest) :
    u.Keeps (u.beginResponse r rest) where
  entries := by simp [Liu.beginResponse, Liu.usedEntries, ready]
  queue := id
  counters := id
  slots := id

theorem Liu.keeps_beginNotice (u : Liu) (n : Notice) : u.Keeps (u.beginNotice n) := by
  unfold Liu.beginNotice
  exact ⟨le_rfl, id, id, fun h => h.set fun _ held => absurd held (Option.some_ne_none _).symm⟩

/-- What an LIU's choice does: nothing, or it begins the first READY response or the next notice (R203). -/
theorem Liu.choose_cases (u : Liu) (now : Nat) : u.choose now = u
    ∨ (∃ r rest, u.ready = r :: rest ∧ u.choose now = (u.beginResponse r rest).transmit now)
    ∨ ∃ n, u.nextNotice = some n ∧ u.choose now = (u.beginNotice n).transmit now := by
  unfold Liu.choose
  split
  · exact .inl rfl
  next ready _ => exact .inr (.inl ⟨_, _, ready, rfl⟩)
  next notice => exact .inr (.inr ⟨_, notice, rfl⟩)
  next ready notice =>
    split
    · exact .inr (.inl ⟨_, _, ready, rfl⟩)
    · exact .inr (.inr ⟨_, notice, rfl⟩)

theorem Liu.keeps_settle (u : Liu) (device : DeviceState) (now : Nat) : u.Keeps (u.settle device now) := by
  unfold Liu.settle
  split
  · exact .refl u
  · obtain same | ⟨r, rest, ready, same⟩ | ⟨n, _, same⟩ := u.choose_cases now <;> rw [same]
    · exact .refl u
    · exact (Liu.keeps_beginResponse ready).trans (Liu.keeps_transmit _ now)
    · exact (u.keeps_beginNotice n).trans (Liu.keeps_transmit _ now)

/-- A segment taken acts on the queue and on the assembly alone (R198). -/
theorem Liu.assemble_only (u : Liu) (g : Segment) : u.assemble g =
    { u with inbound := (u.assemble g).inbound, assembly := (u.assemble g).assembly } := by
  unfold Liu.assemble Liu.complete
  dsimp only
  split
  · split_ifs <;> rfl
  · split_ifs <;> rfl
  · split_ifs <;> rfl

/-- Judging a segment reaches the queue, the assembly, the last bit, the counters and the transmit line (R197). -/
theorem Liu.judge_only (u : Liu) (device : DeviceState) (rx : RxUnit) : u.judge device rx = { u with
    inbound := (u.judge device rx).inbound, assembly := (u.judge device rx).assembly
    lastIn := (u.judge device rx).lastIn, summary := (u.judge device rx).summary, tx := (u.judge device rx).tx } := by
  unfold Liu.judge Liu.reply
  split
  · rfl
  · split
    · rfl
    next g _ =>
      rw [u.assemble_only g]
      split_ifs <;> rfl

theorem Liu.within_judge {u : Liu} (h : u.summary.Within) (device : DeviceState) (rx : RxUnit) :
    (u.judge device rx).summary.Within := by
  unfold Liu.judge
  split
  · exact h
  · split
    · exact { h with discards := bump_le h.discards }
    next g _ =>
      rw [u.assemble_only g]
      split_ifs
      · exact h
      · exact { h with backOffs := bump_le h.backOffs }
      · exact h

theorem Liu.keeps_judge (u : Liu) (device : DeviceState) (rx : RxUnit) : u.Keeps (u.judge device rx) where
  entries := by
    rw [u.judge_only device rx]
    exact le_rfl
  queue := fun h => Liu.queueFits_judge h device rx
  counters := fun h => Liu.within_judge h device rx
  slots := by
    rw [u.judge_only device rx]
    exact id

theorem Liu.keeps_replied (u : Liu) (o : Outbound) (r : ReplyKind) (now : Nat) : u.Keeps (u.replied o r now) := by
  unfold Liu.replied
  split
  · unfold Liu.accepted
    split
    · exact ⟨le_rfl, id, id, id⟩
    · exact .trans (u' := { u with nextOut := !u.nextOut, outbound := some { o with index := o.index + 1 } })
        ⟨le_rfl, id, id, id⟩ (Liu.keeps_transmit _ now)
  · exact u.keeps_transmit now
  · exact ⟨le_rfl, id, id, id⟩

theorem Liu.keeps_markVerdict (u : Liu) : u.Keeps u.markVerdict := by
  unfold Liu.markVerdict
  refine ⟨le_rfl, id, fun h => ?_, id⟩
  dsimp only
  split
  · exact { h with overruns := bump_le h.overruns }
  · exact h

/-- A RESERVED entry whose answer comes is FREE again, and one entry becomes READY in its place (R202). -/
theorem Liu.keeps_answered {u : Liu} {enter : Bool} {o : Owed} (code : Code) (body : List Byte) (restart : Bool)
    (found : u.owed.find? (fun o => o.enter == enter) = some o) :
    u.Keeps ({ u with owed := u.owed.filter (fun o => o.enter != enter) }.pushReady o.kind o.tag code body restart) where
  entries := by
    have freed : (u.owed.filter (fun o => o.enter != enter)).length < u.owed.length := by
      refine List.length_filter_lt_length_iff_exists.mpr ⟨o, List.mem_of_find?_eq_some found, ?_⟩
      simpa using List.find?_some found
    simp only [Liu.pushReady, Liu.usedEntries, List.length_append, List.length_singleton]
    omega
  queue := id
  counters := fun h => h.countResponse code
  slots := id

/-! ## What becomes of a request's entry (R202) -/

theorem Liu.bounded_pushReady {u : Liu} (good : u.bounded) (free : u.usedEntries < 8) (kind tag : Nat) (code : Code)
    (body : List Byte) (restart : Bool) : (u.pushReady kind tag code body restart).bounded := by
  obtain ⟨_, queue, counters, slots⟩ := u.bounded_iff.mp good
  refine (Liu.bounded_iff _).mpr ⟨?_, queue, counters.countResponse code, slots⟩
  simp only [Liu.pushReady, Liu.usedEntries, List.length_append, List.length_singleton] at free ⊢
  omega

theorem Liu.bounded_reserve {u : Liu} (good : u.bounded) (free : u.usedEntries < 8) (o : Owed) :
    { u with owed := u.owed ++ [o] }.bounded := by
  obtain ⟨_, queue, counters, slots⟩ := u.bounded_iff.mp good
  refine (Liu.bounded_iff _).mpr ⟨?_, queue, counters, slots⟩
  simp only [Liu.usedEntries, List.length_append, List.length_singleton] at free ⊢
  omega

theorem Liu.bounded_clear {u : Liu} (good : u.bounded) : { u with summary := Summary.zero }.bounded := by
  obtain ⟨entries, queue, _, slots⟩ := u.bounded_iff.mp good
  exact (Liu.bounded_iff _).mpr ⟨entries, queue, Summary.within_zero, slots⟩

end Sys2Proof.Machine

/-! PROOF. Which operations and owning blocks keep every link's entries, queue, counters and slots within their
capacities: most reach no link at all, the others write notices or give an owed answer. -/

namespace Sys2Proof.Machine

/-! ## Moves of all links -/

/-- Each link moves from one state to the other within its capacities, without a further response entry. -/
def State.KeepsLinks (s s' : State) : Prop := ∀ l, (s.lius.get l).Keeps (s'.lius.get l)

section

variable {s s' s'' : State} {l : Link} {h : Line} {k : JobKind} {q : Option Target} {c : Code}
  {x : Option (Option Quantity)} {body : List Byte}

theorem State.KeepsLinks.trans (kept : s.KeepsLinks s') (more : s'.KeepsLinks s'') : s.KeepsLinks s'' :=
  fun l => (kept l).trans (more l)

theorem State.KeepsLinks.bounded (kept : s.KeepsLinks s') (good : s.linksBounded) : s'.linksBounded :=
  fun l => (kept l).bounded (good l)

/-- What reaches no link keeps them. -/
theorem keepsLinks_of_lius (same : s'.lius = s.lius) : s.KeepsLinks s' := by
  intro l
  rw [same]
  exact .refl _

theorem State.KeepsLinks.refl (s : State) : s.KeepsLinks s := keepsLinks_of_lius rfl

theorem modifyLiu_keepsLinks {f : Liu → Liu} (move : ∀ u, Liu.Keeps u (f u)) (kept : s.KeepsLinks s') :
    s.KeepsLinks (modifyLiu l f s') := by
  refine kept.trans fun l' => ?_
  by_cases same : l' = l
  · subst same
    rw [modifyLiu_get]
    exact move _
  · rw [modifyLiu_get_other f s' same]
    exact .refl _

theorem handed_keepsLinks {t : Nat} : s.KeepsLinks (handed t l s) :=
  modifyLiu_keepsLinks Liu.keeps_tail (keepsLinks_of_lius rfl)

theorem settle_keepsLinks (kept : s.KeepsLinks s') : s.KeepsLinks (settle s') :=
  kept.trans fun l => by
    rw [settle_get]
    exact Liu.keeps_settle _ _ _

theorem raiseNotice_keepsLinks {forced : Link → Bool} {n : Notice} (kept : s.KeepsLinks s') :
    s.KeepsLinks (raiseNotice forced n s') :=
  kept.trans fun l => by
    rw [raiseNotice_get]
    split
    · exact Liu.keeps_write _ n
    · exact .refl _

theorem answerOwed_keepsLinks {enter restart : Bool} (kept : s.KeepsLinks s') :
    s.KeepsLinks (answerOwed enter c body restart s') := by
  refine modifyLiu_keepsLinks (fun u => ?_) kept
  split
  · exact .refl u
  next found => exact Liu.keeps_answered c body restart found

/-! ## Notices, lines and TRIAL -/

theorem archiveNotice_keepsLinks (kept : s.KeepsLinks s') : s.KeepsLinks (archiveNotice k q c x s') :=
  raiseNotice_keepsLinks kept

theorem lotNotice_keepsLinks {e : LotEvent} {x : Lot} {freed : Bool} {crane : Nat} {peak : Option Int}
    (kept : s.KeepsLinks s') : s.KeepsLinks (lotNotice e x freed crane peak s') := raiseNotice_keepsLinks kept

theorem channelNotice_keepsLinks {k : Nat} {c : Channel} {e : ChanEvents} (kept : s.KeepsLinks s') :
    s.KeepsLinks (channelNotice k c e s') := by
  unfold channelNotice
  split
  · exact raiseNotice_keepsLinks kept
  · exact kept

theorem recompute_keepsLinks (kept : s.KeepsLinks s') : s.KeepsLinks (recompute h s') := by
  unfold recompute
  split
  · exact kept
  · exact raiseNotice_keepsLinks kept

theorem recomputeLines_keepsLinks {hs : List Line} (kept : s.KeepsLinks s') :
    s.KeepsLinks (recomputeLines hs s') := by
  unfold recomputeLines
  induction hs generalizing s' with
  | nil => exact kept
  | cons h hs ih => exact ih (recompute_keepsLinks kept)

theorem recomputeAll_keepsLinks (kept : s.KeepsLinks s') : s.KeepsLinks (recomputeAll s') :=
  recomputeLines_keepsLinks kept

theorem recomputeMask_keepsLinks {m : LineSet} (kept : s.KeepsLinks s') : s.KeepsLinks (recomputeMask m s') :=
  recomputeLines_keepsLinks kept

theorem setHoldTimer_keepsLinks {timer : Option Nat} (kept : s.KeepsLinks s') :
    s.KeepsLinks (setHoldTimer l h timer s') := recompute_keepsLinks kept

theorem dropTimers_keepsLinks (kept : s.KeepsLinks s') : s.KeepsLinks (dropTimers l s') :=
  recomputeLines_keepsLinks kept

theorem cancelAdopt_keepsLinks (kept : s.KeepsLinks s') : s.KeepsLinks (cancelAdopt s') := by
  unfold cancelAdopt
  split
  · exact archiveNotice_keepsLinks kept
  · exact kept

theorem abandonLook_keepsLinks : s.KeepsLinks (abandonLook s) := by
  unfold abandonLook
  split
  · exact .refl s
  · exact raiseNotice_keepsLinks (.refl s)

theorem releaseRecalled_keepsLinks : s.KeepsLinks (releaseRecalled s) := by
  unfold releaseRecalled
  split
  · exact cancelAdopt_keepsLinks (.refl s)
  · exact .refl s

theorem endJobWith_keepsLinks {restart : Bool} (kept : s.KeepsLinks s') :
    s.KeepsLinks (endJobWith restart k q c x body s') := by
  unfold endJobWith
  exact archiveNotice_keepsLinks (answerOwed_keepsLinks kept)

theorem endJob_keepsLinks (kept : s.KeepsLinks s') : s.KeepsLinks (endJob k q c x body s') :=
  endJobWith_keepsLinks kept

end

/-! ## Movements, channels and sets -/

section

variable {s s' : State}

theorem liftOff_keepsLinks {x : Lot} {crane : Nat} {net : Int} (kept : s.KeepsLinks s') :
    s.KeepsLinks (liftOff x crane net s') := by
  unfold liftOff
  refine lotNotice_keepsLinks (kept.trans (keepsLinks_of_lius ?_))
  rw [raiseLive_lius]
  rfl

theorem land_keepsLinks {e : LotEvent} {x : Lot} {crane : Nat} {peak : Option Int} (kept : s.KeepsLinks s') :
    s.KeepsLinks (land e x crane peak s').1 := by
  unfold land
  refine lotNotice_keepsLinks (kept.trans (keepsLinks_of_lius ?_))
  rw [raiseLive_lius]
  rfl

theorem hookOutput_keepsLinks {crane : Nat} {v : Int} (kept : s.KeepsLinks s') :
    s.KeepsLinks (hookOutput crane v s') := by
  unfold hookOutput
  split
  · exact kept
  · extract_lets net weighed
    have noted : s.KeepsLinks weighed := kept
    split
    · exact noted
    · split
      · split
        · exact liftOff_keepsLinks noted
        · exact noted
      · unfold hookWhileLifted
        extract_lets peak raised
        split
        · exact land_keepsLinks (s' := raised) noted
        · exact noted
      · exact noted

theorem disableChannel_keepsLinks {k : Nat} {c : Channel} (kept : s.KeepsLinks s') :
    s.KeepsLinks (disableChannel k c s') := channelNotice_keepsLinks (s' := putChannel k c.toDisabled s') kept

theorem disableAll_keepsLinks (kept : s.KeepsLinks s') : s.KeepsLinks (disableAll s') := by
  unfold disableAll
  generalize numbered 0 s'.bank.channels = cs
  induction cs generalizing s' with
  | nil => exact kept
  | cons c cs ih => exact ih (disableChannel_keepsLinks kept)

theorem handOn_keepsLinks {c : Channel} {changed : Bool} (kept : s.KeepsLinks s') :
    s.KeepsLinks (handOn c changed s') := by
  unfold handOn
  extract_lets recomputed
  have lines : s.KeepsLinks recomputed := by
    unfold recomputed
    split
    · exact recomputeMask_keepsLinks kept
    · exact kept
  split
  · exact hookOutput_keepsLinks lines
  · exact lines

theorem takeSample_keepsLinks {k : Nat} {c : Channel} {v : Int} : s.KeepsLinks (takeSample k c v s) := by
  have put (c : Channel) : s.KeepsLinks (putChannel k c s) := keepsLinks_of_lius rfl
  unfold takeSample
  extract_lets old
  split
  · exact put _
  · exact channelNotice_keepsLinks (put _)
  · exact handOn_keepsLinks (channelNotice_keepsLinks (put _))

theorem takeFrame_keepsLinks {u : RxUnit} : s.KeepsLinks (takeFrame u s) := by
  unfold takeFrame
  split
  · exact .refl s
  · split
    · exact .refl s
    · split
      · exact .refl s
      · exact takeSample_keepsLinks

/-- A set reported is counted once and has its notice (R37, R206). -/
theorem reportSet_keepsLinks {l : Link} {o : SetOutcome} (kept : s.KeepsLinks s') :
    s.KeepsLinks (reportSet l o s') := by
  unfold reportSet
  extract_lets q recorded counted
  have count : s.KeepsLinks counted := by
    refine modifyLiu_keepsLinks (s' := recorded) (fun u => ⟨le_rfl, id, fun h => ?_, id⟩) kept
    dsimp only
    split
    · exact { h with applied := bump_le h.applied }
    · exact { h with refusedSets := bump_le h.refusedSets }
  exact modifyLiu_keepsLinks (fun u => u.keeps_write _) count

theorem applySet_keepsLinks {r : ReadySet} (kept : s.KeepsLinks s') : s.KeepsLinks (applySet r s') := by
  unfold applySet
  split
  · exact reportSet_keepsLinks kept
  · exact reportSet_keepsLinks kept

theorem applyReady_keepsLinks (kept : s.KeepsLinks s') : s.KeepsLinks (applyReady s') := by
  have sets (rs : List ReadySet) {s' : State} (kept : s.KeepsLinks s') :
      s.KeepsLinks (rs.foldl (fun s r => applySet r s) s') := by
    induction rs generalizing s' with
    | nil => exact kept
    | cons r rs ih => exact ih (applySet_keepsLinks kept)
  exact sets s'.ready (s' := { s' with ready := [] }) kept

/-! ## Publication, grants and completions -/

theorem markAll_keepsLinks (kept : s.KeepsLinks s') : s.KeepsLinks (markAll s') :=
  kept.trans fun l => by
    rw [markAll_get]
    exact Liu.keeps_markVerdict _

theorem publish_keepsLinks {h : Hull} {r : Result} (kept : s.KeepsLinks s') : s.KeepsLinks (publish h r s') := by
  rw [publish_eq]
  extract_lets v marked
  have marks : s.KeepsLinks marked := markAll_keepsLinks (recomputeAll_keepsLinks kept)
  split
  · exact raiseNotice_keepsLinks marks
  · exact marks

theorem applyAdopt_keepsLinks (kept : s.KeepsLinks s') : s.KeepsLinks (applyAdopt s') := by
  unfold applyAdopt
  split
  · exact kept
  · extract_lets _ unwaited
    split
    · exact archiveNotice_keepsLinks (s' := unwaited) (kept.trans (keepsLinks_of_lius rfl))
    · exact archiveNotice_keepsLinks (kept.trans (keepsLinks_of_lius (s' := emptyTrial _) rfl))

theorem completeRun_keepsLinks {b : BaseInfo} {rs : List StageRecord} (kept : s.KeepsLinks s') :
    s.KeepsLinks (completeRun b rs s') := raiseNotice_keepsLinks kept

theorem startRun_keepsLinks {h : Hull} (kept : s.KeepsLinks s') : s.KeepsLinks (startRun h s') := by
  unfold startRun
  extract_lets base a r
  split
  · exact completeRun_keepsLinks kept
  · exact kept

theorem grantChoice_keepsLinks {h : Hull} : s.KeepsLinks (grantChoice h s) := by
  unfold grantChoice
  split
  · exact applyReady_keepsLinks (applyAdopt_keepsLinks (s' := suspendRun s) (keepsLinks_of_lius rfl))
  · split
    · exact keepsLinks_of_lius rfl
    · split
      · unfold continueRun
        split
        · split
          · exact keepsLinks_of_lius rfl
          · exact .refl s
        · exact startRun_keepsLinks (.refl s)
      · split
        · exact startRun_keepsLinks (.refl s)
        · exact .refl s

theorem stageDone_keepsLinks {k : Nat} {h : Hull} {e : Result} (kept : s.KeepsLinks s') :
    s.KeepsLinks (stageDone k h e s') := by
  unfold stageDone
  split
  · exact kept
  · split
    · exact kept
    · unfold finishStage
      extract_lets records
      split
      · exact completeRun_keepsLinks kept
      · exact kept

theorem endSelfCheck_keepsLinks {h : Hull} {r : Result} (kept : s.KeepsLinks s') :
    s.KeepsLinks (endSelfCheck h r s') := by
  unfold endSelfCheck
  split
  · exact endJob_keepsLinks kept
  · exact kept

/-! ## The device states -/

@[simp] theorem entryCauses_lius (s : State) : (entryCauses s).lius = s.lius := by
  unfold entryCauses
  dsimp only
  split_ifs <;> simp

theorem enterRun_keepsLinks {h : Hull} (kept : s.KeepsLinks s') : s.KeepsLinks (enterRun h s') := by
  unfold enterRun
  refine recomputeAll_keepsLinks (kept.trans (keepsLinks_of_lius ?_))
  rw [entryCauses_lius]

theorem enterConfig_keepsLinks (kept : s.KeepsLinks s') : s.KeepsLinks (enterConfig s') := by
  have dropped : s.KeepsLinks (dropLook s') := by
    refine kept.trans ?_
    unfold dropLook
    split
    · exact abandonLook_keepsLinks
    · exact abandonLook_keepsLinks
  exact recomputeAll_keepsLinks (disableAll_keepsLinks dropped)

theorem resolveEnter_keepsLinks : s.KeepsLinks (resolveEnter s) := by
  unfold resolveEnter
  extract_lets _ unheld
  split
  · exact answerOwed_keepsLinks (s' := unheld) (keepsLinks_of_lius rfl)
  · exact answerOwed_keepsLinks (enterConfig_keepsLinks (s' := unheld) (keepsLinks_of_lius rfl))

theorem endStart_keepsLinks (kept : s.KeepsLinks s') : s.KeepsLinks (endStart s') := by
  unfold endStart
  split
  · exact enterRun_keepsLinks kept
  · exact recomputeAll_keepsLinks kept

theorem leaveWritten_keepsLinks {w : Hull} {ns : List Nat} : s.KeepsLinks (leaveWritten w ns s) := by
  unfold leaveWritten
  extract_lets _ taken released
  have same : s.KeepsLinks released := by
    unfold released
    split <;> exact keepsLinks_of_lius rfl
  exact enterRun_keepsLinks (cancelAdopt_keepsLinks (endJob_keepsLinks same))

end

end Sys2Proof.Machine

/-! PROOF. Every command keeps each link within its capacities (R195, R198, R204, R206): no owning block takes a response
entry, and a request takes its own one only where one is FREE. -/

namespace Sys2Proof.Machine

/-! ## Owning blocks of requests -/

section

variable {s : State} (l : Link)

theorem changeSetAct_keepsLinks (q : SetMessage) : s.KeepsLinks (changeSetAct l q s).1 := by
  unfold changeSetAct
  split
  · exact .refl s
  · split
    · rw [closeSet_eq]
      split
      · exact .refl s
      · exact keepsLinks_of_lius (raiseLive_lius _ _)
    · unfold holdSet
      dsimp only
      split
      · split
        · exact .refl s
        · exact keepsLinks_of_lius rfl
      · split
        · exact .refl s
        · exact keepsLinks_of_lius rfl

theorem attachAct_keepsLinks (q : AttachFields) : s.KeepsLinks (attachAct l q s).1 := by
  unfold attachAct
  split
  · exact .refl s
  · exact lotNotice_keepsLinks (keepsLinks_of_lius rfl)

theorem detachAct_keepsLinks (id : Nat) : s.KeepsLinks (detachAct l id s).1 := by
  unfold detachAct
  split
  · exact .refl s
  · split
    · exact .refl s
    · split
      · exact .refl s
      · unfold detach
        extract_lets crane
        split
        · exact lotNotice_keepsLinks (keepsLinks_of_lius rfl)
        · exact lotNotice_keepsLinks (keepsLinks_of_lius rfl)
        · exact lotNotice_keepsLinks (keepsLinks_of_lius rfl)

theorem forceLandAct_keepsLinks (id : Nat) : s.KeepsLinks (forceLandAct l id s).1 := by
  unfold forceLandAct
  split
  · exact .refl s
  · split
    · exact .refl s
    · extract_lets crane landed
      split_ifs
      · exact .refl s
      · exact .refl s
      · exact land_keepsLinks (.refl s)

theorem stepAppendAct_keepsLinks (w : StepWork) : s.KeepsLinks (stepAppendAct l w s).1 := by
  unfold stepAppendAct
  split
  · exact .refl s
  · exact keepsLinks_of_lius rfl

theorem stepWithdrawAct_keepsLinks (id : Nat) : s.KeepsLinks (stepWithdrawAct l id s).1 := by
  unfold stepWithdrawAct
  split
  · exact .refl s
  · split
    · exact .refl s
    · split_ifs <;> exact keepsLinks_of_lius rfl

theorem stepDoneAct_keepsLinks (q : Nat × Bool) : s.KeepsLinks (stepDoneAct l q s).1 := by
  unfold stepDoneAct
  split
  · exact .refl s
  · split
    · exact .refl s
    · split <;> exact keepsLinks_of_lius rfl

theorem seqSetAct_keepsLinks (q : Option Nat × Option Nat) : s.KeepsLinks (seqSetAct l q s).1 := by
  unfold seqSetAct
  dsimp only
  split_ifs <;> exact keepsLinks_of_lius rfl

theorem channelSetAct_keepsLinks (q : Nat × ChannelCfg) : s.KeepsLinks (channelSetAct l q s).1 := by
  unfold channelSetAct
  split <;> exact keepsLinks_of_lius rfl

theorem channelEnableAct_keepsLinks (ch : Nat) : s.KeepsLinks (channelEnableAct l ch s).1 := by
  unfold channelEnableAct
  split
  · exact .refl s
  · split
    · exact .refl s
    · split_ifs <;> exact keepsLinks_of_lius rfl

theorem channelDisableAct_keepsLinks (ch : Nat) : s.KeepsLinks (channelDisableAct l ch s).1 := by
  unfold channelDisableAct
  split
  · exact .refl s
  · split
    · exact .refl s
    · extract_lets _ disabled
      have kept : s.KeepsLinks disabled := disableChannel_keepsLinks (.refl s)
      split
      · exact .refl s
      · dsimp only
        split
        · exact kept
        · exact recomputeMask_keepsLinks kept

theorem holdAckAct_keepsLinks (h : Line) : s.KeepsLinks (holdAckAct l h s).1 := by
  unfold holdAckAct
  split_ifs
  · exact .refl s
  · exact .refl s
  · exact recompute_keepsLinks (keepsLinks_of_lius rfl)

theorem timedHoldAct_keepsLinks (q : Line × Nat) : s.KeepsLinks (timedHoldAct l q s).1 := by
  unfold timedHoldAct
  dsimp only
  split_ifs
  · exact .refl s
  · exact setHoldTimer_keepsLinks (.refl s)
  · exact .refl s
  · exact setHoldTimer_keepsLinks (.refl s)

theorem readVerdictAct_keepsLinks (q : VerdictPart) : s.KeepsLinks (readVerdictAct l q s).1 := by
  unfold readVerdictAct
  split
  · exact .refl s
  · split
    · exact modifyLiu_keepsLinks (fun _ => ⟨le_rfl, id, id, id⟩) (.refl s)
    · exact .refl s
    · exact .refl s

theorem evaluateNowAct_keepsLinks (q : Unit) : s.KeepsLinks (evaluateNowAct l q s).1 := by
  unfold evaluateNowAct
  split
  · exact .refl s
  · exact keepsLinks_of_lius (raiseLive_lius _ _)

theorem enterConfigAct_keepsLinks (q : Unit) : s.KeepsLinks (enterConfigAct l q s).1 := by
  unfold enterConfigAct
  split
  · exact .refl s
  · split
    · exact keepsLinks_of_lius rfl
    · dsimp only
      exact enterConfig_keepsLinks (.refl s)

theorem hullWriteAct_keepsLinks (it : HullItem) : s.KeepsLinks (hullWriteAct l it s).1 := by
  unfold hullWriteAct
  split
  · exact .refl s
  · split
    · exact .refl s
    · split
      · exact .refl s
      · split
        · exact .refl s
        · split
          · exact .refl s
          · split <;> exact keepsLinks_of_lius rfl

theorem leaveConfigAct_keepsLinks (q : Unit) : s.KeepsLinks (leaveConfigAct l q s).1 := by
  unfold leaveConfigAct
  split
  · exact .refl s
  · split_ifs
    · exact .refl s
    · exact .refl s
    · unfold leaveFromConfig
      dsimp only
      split
      · exact .refl s
      · split
        · dsimp only
          exact enterRun_keepsLinks (.refl s)
        · exact keepsLinks_of_lius rfl
    · unfold leaveFromFault
      split <;> exact keepsLinks_of_lius rfl

theorem saveAct_keepsLinks (n : Nat) : s.KeepsLinks (saveAct l n s).1 := by
  unfold saveAct
  split_ifs
  · exact .refl s
  · exact .refl s
  · exact .refl s
  · exact .refl s
  · exact abandonLook_keepsLinks

theorem recallAct_keepsLinks (n : Nat) : s.KeepsLinks (recallAct l n s).1 := by
  unfold recallAct
  split_ifs
  · exact .refl s
  · exact .refl s
  · exact .refl s
  · exact abandonLook_keepsLinks

theorem selfCheckAct_keepsLinks (n : Nat) : s.KeepsLinks (selfCheckAct l n s).1 := by
  unfold selfCheckAct
  split_ifs
  · exact .refl s
  · exact .refl s
  · exact cancelAdopt_keepsLinks (abandonLook_keepsLinks.trans (keepsLinks_of_lius rfl))

theorem referenceWriteAct_keepsLinks (q : Nat × Option Reference) : s.KeepsLinks (referenceWriteAct l q s).1 := by
  unfold referenceWriteAct
  split
  · exact .refl s
  · split
    · exact .refl s
    · split
      · exact .refl s
      · split
        · exact .refl s
        · exact .refl s
        · split <;> exact keepsLinks_of_lius rfl

theorem lockAct_keepsLinks (q : Target) : s.KeepsLinks (lockAct l q s).1 := by
  unfold lockAct
  split_ifs <;> exact keepsLinks_of_lius rfl

theorem freezeAct_keepsLinks (q : Unit) : s.KeepsLinks (freezeAct l q s).1 := by
  unfold freezeAct
  split_ifs <;> exact keepsLinks_of_lius rfl

theorem identityWriteAct_keepsLinks (i : Identity) : s.KeepsLinks (identityWriteAct l i s).1 := by
  unfold identityWriteAct
  split_ifs <;> exact keepsLinks_of_lius rfl

theorem adoptAct_keepsLinks (q : Unit) : s.KeepsLinks (adoptAct l q s).1 := by
  unfold adoptAct
  split_ifs
  · exact .refl s
  · exact .refl s
  · exact .refl s
  · exact .refl s
  · exact keepsLinks_of_lius (raiseLive_lius _ _)

theorem setLink_keepsLinks {f : Liu → Liu} (move : ∀ u, Liu.Keeps u (f u)) : s.KeepsLinks (modifyLiu l f s) :=
  modifyLiu_keepsLinks move (.refl s)

end

/-! ## Requests and their entries (R199, R202) -/

/-- A request answered, or its answer owed, takes one response entry: with one FREE, the links stay within their
capacities. -/
theorem respond_linksBounded {s : State} {l : Link} (good : s.linksBounded) (free : (s.lius.get l).usedEntries < 8)
    (kind tag : Nat) (r : Reply) : (respond l kind tag r s).linksBounded := by
  have modified {f : Liu → Liu} (move : (f (s.lius.get l)).bounded) : (modifyLiu l f s).linksBounded := by
    intro l'
    by_cases same : l' = l
    · subst same
      rwa [modifyLiu_get]
    · rw [modifyLiu_get_other f s same]
      exact good l'
  cases r with
  | answer code body => exact modified (Liu.bounded_pushReady (good l) free kind tag code body false)
  | owed enter => exact modified (Liu.bounded_reserve (good l) free _)
  | answerThenClear body => exact modified (Liu.bounded_clear (Liu.bounded_pushReady (good l) free kind tag .done body false))

/-- A message is taken only where a response entry is FREE (R199, R202). -/
theorem takeable_free {kind : Nat} {l : Link} {s : State} {m : InMsg} (h : takeable kind l s = some m) :
    (s.lius.get l).usedEntries < 8 := by
  unfold takeable at h
  dsimp only at h
  split_ifs at h with start full
  exact not_le.mp full

/-- A request keeps the links within their capacities where its owning block does. -/
theorem request_linksBounded {α : Type} {kind : Nat} {form : Reader α} {right : Link → α → Bool}
    {act : Link → α → State → State × Reply} {t : Nat} {l : Link} {s : State} (good : s.linksBounded)
    (acts : ∀ {s : State} a, s.KeepsLinks (act l a s).1) :
    NextHas State.linksBounded (.next (request kind form right act t l s)) := by
  apply nextHas_next
  unfold request
  split
  · exact good
  next m due =>
    extract_lets taken judged
    have kept : s.KeepsLinks judged.1 := by
      have handed : s.KeepsLinks taken := handed_keepsLinks
      unfold judged
      split_ifs
      · exact handed
      · split
        · exact handed
        · split
          · exact handed.trans (acts _)
          · exact handed
    have free := (kept l).entries.trans_lt (takeable_free due)
    exact (settle_keepsLinks (.refl _)).bounded (respond_linksBounded (kept.bounded good) free _ _ _)

/-! ## Events -/

theorem next_linksBounded {s s' : State} (good : s.linksBounded) (kept : s.KeepsLinks s') :
    NextHas State.linksBounded (.next s') := nextHas_next (kept.bounded good)

section

variable {t : Nat} {s : State}

theorem resetWith_keepsLinks {store : Store} : s.KeepsLinks (resetWith store (atTime t s)) := by
  intro l
  cases l <;> exact Liu.keeps_reset _ _ _

theorem restart_keepsLinks : NextHas s.KeepsLinks (execRestart t s) := by
  apply nextHas_next
  split
  · exact resetWith_keepsLinks
  · exact .refl s

theorem startUpEnd_keepsLinks {badSections : BitVec 8} {badSlots : BitVec 16} :
    NextHas s.KeepsLinks (execStartUpEnd t badSections badSlots s) := by
  apply nextHas_next
  split
  · exact settle_keepsLinks (endStart_keepsLinks (keepsLinks_of_lius rfl))
  · exact .refl s

theorem linkReset_keepsLinks {l : Link} : NextHas s.KeepsLinks (execLinkReset t l s) := by
  apply nextHas_next
  split
  · exact .refl s
  · apply settle_keepsLinks
    unfold resetLink
    extract_lets discards cleared
    have clear : s.KeepsLinks cleared :=
      dropTimers_keepsLinks (modifyLiu_keepsLinks (fun u => u.keeps_reset l true) (keepsLinks_of_lius rfl))
    split
    · exact .trans (s' := { cleared with
        sched := { cleared.sched with heldEnter := false }
        store := { cleared.store with
          restart := cleared.store.restart.map (fun w => { w with due := w.due || discards }) } })
        clear releaseRecalled_keepsLinks
    · exact clear

theorem segmentArrival_keepsLinks {l : Link} {u : RxUnit} : NextHas s.KeepsLinks (execSegmentArrival t l u s) := by
  apply nextHas_next
  split
  · exact .refl s
  · exact settle_keepsLinks (modifyLiu_keepsLinks (fun v => v.keeps_judge _ _) (keepsLinks_of_lius rfl))

theorem replyUnit_keepsLinks {l : Link} {u : RxUnit} : NextHas s.KeepsLinks (execReplyUnit t l u s) := by
  apply nextHas_next
  split
  · exact .refl s
  next o r _ =>
    apply settle_keepsLinks
    have replied : s.KeepsLinks (modifyLiu l (fun u => u.replied o r (atTime t s).now) (atTime t s)) :=
      modifyLiu_keepsLinks (fun v => v.keeps_replied _ _ _) (keepsLinks_of_lius rfl)
    unfold markDelivered
    split
    · exact replied
    · exact replied

theorem resendTimerExpiry_keepsLinks {l : Link} : NextHas s.KeepsLinks (execResendTimerExpiry t l s) := by
  apply nextHas_next
  split
  · exact settle_keepsLinks (modifyLiu_keepsLinks (fun v => v.keeps_transmit _) (keepsLinks_of_lius rfl))
  · exact .refl s

theorem linkBreakEnd_keepsLinks {l : Link} : NextHas s.KeepsLinks (execLinkBreakEnd t l s) := by
  apply nextHas_next
  split
  · exact settle_keepsLinks (modifyLiu_keepsLinks (fun _ => ⟨le_rfl, id, id, id⟩) (keepsLinks_of_lius rfl))
  · exact .refl s

theorem sampleFrame_keepsLinks {u : RxUnit} : NextHas s.KeepsLinks (execSampleFrame t u s) := by
  apply nextHas_next
  split
  · exact .refl s
  · exact settle_keepsLinks (takeFrame_keepsLinks (s := atTime t s))

theorem staleTimerExpiry_keepsLinks {ch : Nat} : NextHas s.KeepsLinks (execStaleTimerExpiry t ch s) := by
  apply nextHas_next
  split
  · exact .refl s
  · split
    · exact settle_keepsLinks (channelNotice_keepsLinks (keepsLinks_of_lius rfl))
    · exact .refl s

theorem periodicTimerExpiry_keepsLinks : NextHas s.KeepsLinks (execPeriodicTimerExpiry t s) := by
  apply nextHas_next
  split
  · exact settle_keepsLinks (keepsLinks_of_lius (raiseLive_lius _ _))
  · exact .refl s

theorem timedHoldExpiry_keepsLinks {l : Link} {h : Line} : NextHas s.KeepsLinks (execTimedHoldExpiry t l h s) := by
  apply nextHas_next
  split
  · exact settle_keepsLinks (setHoldTimer_keepsLinks (keepsLinks_of_lius rfl))
  · exact .refl s

theorem grant_keepsLinks : NextHas s.KeepsLinks (execGrant t s) := by
  apply nextHas_next
  split
  · exact .refl s
  · split
    · exact settle_keepsLinks (grantChoice_keepsLinks (s := atTime t s))
    · exact .refl s

theorem liveCompletion_keepsLinks : NextHas s.KeepsLinks (execLiveCompletion t s) := by
  apply nextHas_next
  split
  · exact settle_keepsLinks (publish_keepsLinks (keepsLinks_of_lius rfl))
  · exact .refl s

theorem stageCompletion_keepsLinks : NextHas s.KeepsLinks (execStageCompletion t s) := by
  apply nextHas_next
  split
  · exact settle_keepsLinks (stageDone_keepsLinks (keepsLinks_of_lius rfl))
  · exact .refl s

theorem selfCheckCompletion_keepsLinks : NextHas s.KeepsLinks (execSelfCheckCompletion t s) := by
  apply nextHas_next
  split
  · exact settle_keepsLinks (endSelfCheck_keepsLinks (keepsLinks_of_lius rfl))
  · exact .refl s

theorem heldEnterConfig_keepsLinks : NextHas s.KeepsLinks (execHeldEnterConfig t s) := by
  apply nextHas_next
  split
  · exact settle_keepsLinks (resolveEnter_keepsLinks (s := atTime t s))
  · exact .refl s

/-! ### The ends of store jobs -/

theorem saveEnd_keepsLinks {verified : Bool} : NextHas s.KeepsLinks (execSaveEnd t verified s) := by
  apply nextHas_next
  split
  · refine settle_keepsLinks (endJob_keepsLinks (keepsLinks_of_lius ?_))
    cases verified <;> rfl
  · exact .refl s

theorem recallReadEnd_keepsLinks {good : Bool} : NextHas s.KeepsLinks (execRecallReadEnd t good s) := by
  apply nextHas_next
  split
  · apply settle_keepsLinks
    split <;> exact endJob_keepsLinks (keepsLinks_of_lius rfl)
  · exact .refl s

theorem selfCheckReadEnd_keepsLinks {good : Bool} : NextHas s.KeepsLinks (execSelfCheckReadEnd t good s) := by
  apply nextHas_next
  split
  · extract_lets read fail
    have fails (c : Code) : s.KeepsLinks (fail c) := by
      unfold fail
      exact settle_keepsLinks (endJob_keepsLinks (keepsLinks_of_lius rfl))
    split
    · exact fails _
    · exact fails _
    · split
      · exact fails _
      · exact settle_keepsLinks (keepsLinks_of_lius rfl)
  · exact .refl s

theorem referenceWriteEnd_keepsLinks {verified : Bool} : NextHas s.KeepsLinks (execReferenceWriteEnd t verified s) := by
  apply nextHas_next
  split
  · refine settle_keepsLinks (endJob_keepsLinks (keepsLinks_of_lius ?_))
    cases verified <;> rfl
  · exact .refl s

theorem lockEnd_keepsLinks {verified : Bool} : NextHas s.KeepsLinks (execLockEnd t verified s) := by
  apply nextHas_next
  split
  next q _ =>
    refine settle_keepsLinks (endJob_keepsLinks (keepsLinks_of_lius ?_))
    cases verified
    · rfl
    · cases q <;> rfl
  · exact .refl s

theorem freezeEnd_keepsLinks {verified : Bool} : NextHas s.KeepsLinks (execFreezeEnd t verified s) := by
  apply nextHas_next
  split
  · refine settle_keepsLinks (endJob_keepsLinks (keepsLinks_of_lius ?_))
    cases verified <;> rfl
  · exact .refl s

theorem identityWriteEnd_keepsLinks {verified : Bool} : NextHas s.KeepsLinks (execIdentityWriteEnd t verified s) := by
  apply nextHas_next
  split
  · refine settle_keepsLinks (endJob_keepsLinks (keepsLinks_of_lius ?_))
    cases verified <;> rfl
  · exact .refl s

theorem leaveConfigWriteEnd_keepsLinks {failed : Option Nat} :
    NextHas s.KeepsLinks (execLeaveConfigWriteEnd t failed s) := by
  apply nextHas_next
  split
  · cases failed with
    | none =>
      apply settle_keepsLinks
      split
      · exact leaveWritten_keepsLinks (s := atTime t s)
      · unfold repairWritten
        refine .trans (endJobWith_keepsLinks (keepsLinks_of_lius ?_)) (keepsLinks_of_lius rfl)
        rfl
    | some n =>
      dsimp only
      split
      · unfold leaveFailed
        exact settle_keepsLinks (endJob_keepsLinks (keepsLinks_of_lius rfl))
      · exact .refl s
  · exact .refl s

end

/-! ## Every command -/

/-- An event that keeps the links keeps them within their capacities. -/
theorem event_linksBounded {s : State} {o : Host.Outcome State Fault Refusal} (good : s.linksBounded)
    (kept : NextHas s.KeepsLinks o) : NextHas State.linksBounded o := fun s' run => (kept s' run).bounded good

theorem exec_linksBounded (c : Instr) {s : State} (good : s.linksBounded) : NextHas State.linksBounded (exec c s) := by
  match c with
  | .powerOn t cut => exact event_linksBounded good (nextHas_next resetWith_keepsLinks)
  | .resetLine t cut => exact event_linksBounded good (nextHas_next resetWith_keepsLinks)
  | .startUpEnd t badSections badSlots => exact event_linksBounded good startUpEnd_keepsLinks
  | .restart t => exact event_linksBounded good restart_keepsLinks
  | .segmentArrival t l u => exact event_linksBounded good segmentArrival_keepsLinks
  | .replyUnit t l u => exact event_linksBounded good replyUnit_keepsLinks
  | .resendTimerExpiry t l => exact event_linksBounded good resendTimerExpiry_keepsLinks
  | .linkReset t l => exact event_linksBounded good linkReset_keepsLinks
  | .unknownRequestKind t l => exact request_linksBounded good fun _ => keepsLinks_of_lius rfl
  | .changeSetMessage t l => exact request_linksBounded good (changeSetAct_keepsLinks l)
  | .readSets t l => exact request_linksBounded good fun _ => keepsLinks_of_lius rfl
  | .attach t l => exact request_linksBounded good (attachAct_keepsLinks l)
  | .detach t l => exact request_linksBounded good (detachAct_keepsLinks l)
  | .forceLand t l => exact request_linksBounded good (forceLandAct_keepsLinks l)
  | .readHooks t l => exact request_linksBounded good fun _ => keepsLinks_of_lius rfl
  | .stepAppend t l => exact request_linksBounded good (stepAppendAct_keepsLinks l)
  | .stepWithdraw t l => exact request_linksBounded good (stepWithdrawAct_keepsLinks l)
  | .stepDone t l => exact request_linksBounded good (stepDoneAct_keepsLinks l)
  | .seqSet t l => exact request_linksBounded good (seqSetAct_keepsLinks l)
  | .readSequence t l => exact request_linksBounded good fun _ => keepsLinks_of_lius (congrArg State.lius (readSequenceAct_state l _ _))
  | .readLookahead t l => exact request_linksBounded good fun _ => keepsLinks_of_lius rfl
  | .channelSet t l => exact request_linksBounded good (channelSetAct_keepsLinks l)
  | .channelEnable t l => exact request_linksBounded good (channelEnableAct_keepsLinks l)
  | .channelDisable t l => exact request_linksBounded good (channelDisableAct_keepsLinks l)
  | .readChannels t l => exact request_linksBounded good fun _ => keepsLinks_of_lius (congrArg State.lius (readChannelsAct_state l _ _))
  | .holdAck t l => exact request_linksBounded good (holdAckAct_keepsLinks l)
  | .timedHold t l => exact request_linksBounded good (timedHoldAct_keepsLinks l)
  | .readHolds t l => exact request_linksBounded good fun _ => keepsLinks_of_lius rfl
  | .readVerdict t l => exact request_linksBounded good (readVerdictAct_keepsLinks l)
  | .evaluateNow t l => exact request_linksBounded good (evaluateNowAct_keepsLinks l)
  | .readScheduler t l => exact request_linksBounded good fun _ => keepsLinks_of_lius rfl
  | .readCondition t l => exact request_linksBounded good fun _ => keepsLinks_of_lius (congrArg State.lius (readConditionAct_state l _ _))
  | .enterConfig t l => exact request_linksBounded good (enterConfigAct_keepsLinks l)
  | .heldEnterConfig t => exact event_linksBounded good heldEnterConfig_keepsLinks
  | .hullWrite t l => exact request_linksBounded good (hullWriteAct_keepsLinks l)
  | .leaveConfig t l => exact request_linksBounded good (leaveConfigAct_keepsLinks l)
  | .leaveConfigWriteEnd t failed => exact event_linksBounded good leaveConfigWriteEnd_keepsLinks
  | .save t l => exact request_linksBounded good (saveAct_keepsLinks l)
  | .saveEnd t verified => exact event_linksBounded good saveEnd_keepsLinks
  | .recall t l => exact request_linksBounded good (recallAct_keepsLinks l)
  | .recallReadEnd t checkGood => exact event_linksBounded good recallReadEnd_keepsLinks
  | .selfCheck t l => exact request_linksBounded good (selfCheckAct_keepsLinks l)
  | .selfCheckReadEnd t checkGood => exact event_linksBounded good selfCheckReadEnd_keepsLinks
  | .referenceWrite t l => exact request_linksBounded good (referenceWriteAct_keepsLinks l)
  | .referenceWriteEnd t verified => exact event_linksBounded good referenceWriteEnd_keepsLinks
  | .lock t l => exact request_linksBounded good (lockAct_keepsLinks l)
  | .lockEnd t verified => exact event_linksBounded good lockEnd_keepsLinks
  | .freeze t l => exact request_linksBounded good (freezeAct_keepsLinks l)
  | .freezeEnd t verified => exact event_linksBounded good freezeEnd_keepsLinks
  | .identityWrite t l => exact request_linksBounded good (identityWriteAct_keepsLinks l)
  | .identityWriteEnd t verified => exact event_linksBounded good identityWriteEnd_keepsLinks
  | .releaseTrial t l => exact request_linksBounded good fun _ => releaseRecalled_keepsLinks
  | .adopt t l => exact request_linksBounded good (adoptAct_keepsLinks l)
  | .readStore t l => exact request_linksBounded good fun _ => keepsLinks_of_lius rfl
  | .readArchive t l => exact request_linksBounded good fun _ => keepsLinks_of_lius rfl
  | .readIdentity t l => exact request_linksBounded good fun _ => keepsLinks_of_lius rfl
  | .readHull t l => exact request_linksBounded good fun _ => keepsLinks_of_lius (congrArg State.lius (readHullAct_state l _ _))
  | .noticeSelect t l => exact request_linksBounded good fun _ => setLink_keepsLinks l fun _ => ⟨le_rfl, id, id, id⟩
  | .linkSet t l => exact request_linksBounded good fun _ => setLink_keepsLinks l fun _ => ⟨le_rfl, id, id, id⟩
  | .readSummary t l => exact request_linksBounded good fun _ => keepsLinks_of_lius rfl
  | .sampleFrame t u => exact event_linksBounded good sampleFrame_keepsLinks
  | .staleTimerExpiry t ch => exact event_linksBounded good staleTimerExpiry_keepsLinks
  | .periodicTimerExpiry t => exact event_linksBounded good periodicTimerExpiry_keepsLinks
  | .timedHoldExpiry t l h => exact event_linksBounded good timedHoldExpiry_keepsLinks
  | .grant t => exact event_linksBounded good grant_keepsLinks
  | .liveCompletion t => exact event_linksBounded good liveCompletion_keepsLinks
  | .stageCompletion t => exact event_linksBounded good stageCompletion_keepsLinks
  | .selfCheckCompletion t => exact event_linksBounded good selfCheckCompletion_keepsLinks
  | .linkBreakEnd t l => exact event_linksBounded good linkBreakEnd_keepsLinks

/-- Settles O57: an event keeps each link within its capacities, and a request's own entry was FREE. -/
theorem stepsKeepTheLinkBounds : Obligations.StepsKeepTheLinkBounds :=
  keptByStep_of_exec (fun _ _ good => good) fun c _ good => exec_linksBounded c good

end Sys2Proof.Machine

/-! PROOF. What becomes of a segment that arrives, case by case in the order of R197. -/

namespace Sys2Proof.Machine

/-- What is done to a link rests on what the link holds. -/
theorem modifyLiu_congr {l : Link} {f g : Liu → Liu} {s : State} (same : f (s.lius.get l) = g (s.lius.get l)) :
    modifyLiu l f s = modifyLiu l g s := by
  unfold modifyLiu
  rw [same]

section

variable {u : Liu} {device : DeviceState} {rx : RxUnit} {g : Segment}

/-! ## The tests of R197 -/

theorem Liu.judge_start (start : device = .start) : u.judge device rx = u.reply (rxSeqBit rx) .backOff := by
  unfold Liu.judge
  exact if_pos start

/-- A failed check is answered DISCARD and counted. -/
theorem Liu.judge_bad (started : device ≠ .start) (bad : segmentOf rx = none) : u.judge device rx =
    { u with tx := replyUnitBytes (rxSeqBit rx) .discard :: u.tx
             summary := { u.summary with discards := bump u.summary.discards } } := by
  unfold Liu.judge Liu.reply
  rw [if_neg started, bad]

/-- The last bit again is answered ACCEPT. -/
theorem Liu.judge_again (started : device ≠ .start) (good : segmentOf rx = some g) (again : u.lastIn = some g.seq) :
    u.judge device rx = u.reply g.seq .accept := by
  unfold Liu.judge
  rw [if_neg started, good]
  exact if_pos again

/-- Too little room is answered BACK-OFF and counted. -/
theorem Liu.judge_noRoom (started : device ≠ .start) (good : segmentOf rx = some g) (new : u.lastIn ≠ some g.seq)
    (full : u.freeBytes < 32) : u.judge device rx =
    { u with tx := replyUnitBytes g.seq .backOff :: u.tx
             summary := { u.summary with backOffs := bump u.summary.backOffs } } := by
  unfold Liu.judge Liu.reply
  rw [if_neg started, good]
  dsimp only
  rw [if_neg new]
  exact if_pos full

/-- Any other segment is answered ACCEPT, its data taken and its bit kept. -/
theorem Liu.judge_taken (started : device ≠ .start) (good : segmentOf rx = some g) (new : u.lastIn ≠ some g.seq)
    (room : 32 ≤ u.freeBytes) : u.judge device rx =
    { u.assemble g with tx := replyUnitBytes g.seq .accept :: (u.assemble g).tx, lastIn := some g.seq } := by
  unfold Liu.judge Liu.reply
  rw [if_neg started, good]
  dsimp only
  rw [if_neg new]
  exact if_neg (Nat.not_lt.mpr room)

end

/-! ## The event -/

section

variable {t : Nat} {l : Link} {rx : RxUnit} {s : State}

/-- A segment that arrives outside a break is judged by its link (R197, R208). -/
theorem segmentArrival_judged (line : (s.lius.get l).inBreak = false) (present : rx.present = true)
    (segment : rx.isReply = false) {f : Liu → Liu} (judged : (s.lius.get l).judge s.device rx = f (s.lius.get l)) :
    exec (.segmentArrival t l rx) s = .next (settle (modifyLiu l f (atTime t s))) := by
  change execSegmentArrival t l rx s = _
  unfold execSegmentArrival
  rw [if_neg (by simp [line, present, segment]), modifyLiu_congr (s := atTime t s) judged]

end

/-- Settles O7: by the first test of R197 that fits. -/
theorem segmentsAreJudged : Obligations.SegmentsAreJudged := by
  unfold Obligations.SegmentsAreJudged
  refine ⟨fun t l rx s started line present segment => ⟨fun bad => ?_, fun g good => ⟨fun again => ?_,
    fun new full => ?_, fun new room => ?_⟩⟩, fun t l rx s start line present segment => ?_⟩
  · exact segmentArrival_judged line present segment (Liu.judge_bad started bad)
  · exact segmentArrival_judged line present segment (Liu.judge_again started good again)
  · exact segmentArrival_judged line present segment (Liu.judge_noRoom started good new full)
  · exact segmentArrival_judged line present segment (Liu.judge_taken started good new room)
  · rw [segmentArrival_judged line present segment (f := fun u => u.reply (rxSeqBit rx) .backOff)
      (Liu.judge_start start), settle_start (s := modifyLiu l _ (atTime t s)) start]
    rfl

end Sys2Proof.Machine

/-! PROOF. What becomes of a reply, of the resend timer's expiry and of a link with nothing being sent (R203). -/

namespace Sys2Proof.Machine

section

variable {u : Liu} {o : Outbound} {now : Nat} {rx : RxUnit}

/-! ## Sending a segment -/

theorem Liu.transmit_sends (sending : u.outbound = some o) : u.transmit now =
    { u with resend := some (now + 50), tx := segmentUnit o.bytes o.index u.nextOut :: u.tx } := by
  unfold Liu.transmit
  rw [sending]
  rfl

/-! ## The replies that fit the segment in flight -/

theorem Liu.replied_last (last : segmentIsLast o.bytes o.index = true) : u.replied o .accept now =
    { u with nextOut := !u.nextOut, outbound := none, resend := none } := by
  unfold Liu.replied Liu.accepted
  exact if_pos last

theorem Liu.replied_next (more : segmentIsLast o.bytes o.index = false) : u.replied o .accept now =
    { u with nextOut := !u.nextOut, outbound := some { o with index := o.index + 1 }, resend := some (now + 50)
             tx := segmentUnit o.bytes (o.index + 1) (!u.nextOut) :: u.tx } := by
  unfold Liu.replied Liu.accepted
  rw [more]
  rfl

theorem Liu.matching_none (nothing : u.outbound = none ∨ replyOf rx = none) : u.matching rx = none := by
  unfold Liu.matching
  rcases nothing with nothing | nothing <;> simp [nothing]

theorem Liu.matching_some {bit : Bool} {r : ReplyKind} (sending : u.outbound = some o)
    (good : replyOf rx = some (bit, r)) : u.matching rx = if bit = u.nextOut then some (o, r) else none := by
  unfold Liu.matching
  rw [sending, good]

/-- A reply that does not end the answer of a repair makes no restart due (R181). -/
theorem markDelivered_quiet {r : ReplyKind} {s : State}
    (quiet : (o.restart && r == .accept && segmentIsLast o.bytes o.index) = false) : markDelivered o r s = s := by
  unfold markDelivered
  rw [quiet]
  rfl

/-- The ACCEPT that ends the answer of a repair makes the restart due (R181). -/
theorem markDelivered_due {s : State} (repair : o.restart = true) (last : segmentIsLast o.bytes o.index = true) :
    markDelivered o .accept s = { s with store := { s.store with
      restart := s.store.restart.map (fun w => { w with due := true }) } } := by
  unfold markDelivered
  rw [repair, last]
  rfl

end

/-! ## The events -/

section

variable {t : Nat} {l : Link} {rx : RxUnit} {s : State} {o : Outbound} {r : ReplyKind}

theorem replyUnit_disregarded (nothing : (s.lius.get l).matching rx = none) :
    exec (.replyUnit t l rx) s = .next s := by
  change execReplyUnit t l rx s = _
  unfold execReplyUnit
  rw [nothing]

/-- A reply that fits the segment in flight and delivers no answer of a repair moves its link alone. -/
theorem replyUnit_matched (fits : (s.lius.get l).matching rx = some (o, r))
    (quiet : (o.restart && r == .accept && segmentIsLast o.bytes o.index) = false) {f : Liu → Liu}
    (replied : (s.lius.get l).replied o r (max s.now t) = f (s.lius.get l)) :
    exec (.replyUnit t l rx) s = .next (settle (modifyLiu l f (atTime t s))) := by
  change execReplyUnit t l rx s = _
  unfold execReplyUnit
  rw [fits]
  dsimp only
  rw [markDelivered_quiet quiet, atTime_now, modifyLiu_congr (s := atTime t s) replied]

theorem replyUnit_delivered (fits : (s.lius.get l).matching rx = some (o, .accept)) (repair : o.restart = true)
    (last : segmentIsLast o.bytes o.index = true) {f : Liu → Liu}
    (replied : (s.lius.get l).replied o .accept (max s.now t) = f (s.lius.get l)) :
    exec (.replyUnit t l rx) s = .next (settle (modifyLiu l f { atTime t s with store := { s.store with
      restart := s.store.restart.map (fun w => { w with due := true }) } })) := by
  change execReplyUnit t l rx s = _
  unfold execReplyUnit
  rw [fits]
  dsimp only
  rw [markDelivered_due repair last, atTime_now, modifyLiu_congr (s := atTime t s) replied]
  rfl

theorem resendTimerExpiry_early (early : expired t s (s.lius.get l).resend = false) :
    exec (.resendTimerExpiry t l) s = .next s := by
  change execResendTimerExpiry t l s = _
  unfold execResendTimerExpiry
  rw [early]
  rfl

theorem resendTimerExpiry_sends (due : expired t s (s.lius.get l).resend = true)
    (sending : (s.lius.get l).outbound = some o) :
    exec (.resendTimerExpiry t l) s = .next (settle (modifyLiu l (fun u =>
      { u with resend := some (max s.now t + 50), tx := segmentUnit o.bytes o.index u.nextOut :: u.tx })
      (atTime t s))) := by
  change execResendTimerExpiry t l s = _
  unfold execResendTimerExpiry
  rw [if_pos due]
  dsimp only
  rw [atTime_now]
  exact congrArg (Host.Outcome.next ∘ settle) (modifyLiu_congr (s := atTime t s) (Liu.transmit_sends sending))

end

/-- Settles O8: by whether the reply fits the segment in flight and by what it says; the timer's expiry by whether its
time is reached. -/
theorem repliesAndResends : Obligations.RepliesAndResends := by
  unfold Obligations.RepliesAndResends
  refine ⟨?disregarded, ?stopped, ?replies, ?timer⟩
  case disregarded => exact fun t l rx s nothing => replyUnit_disregarded (Liu.matching_none nothing)
  case stopped =>
    intro t l s stopped
    exact resendTimerExpiry_early (by rw [stopped]; rfl)
  case replies =>
    intro t l rx s o bit r sending good
    have fits := Liu.matching_some (rx := rx) sending good
    refine ⟨fun other => replyUnit_disregarded (fits.trans (if_neg other)), ?_⟩
    by_cases own : bit = (s.lius.get l).nextOut
    case neg => exact ⟨fun h => absurd h own, fun h => absurd h own, fun h => absurd h own, fun h => absurd h own,
      fun h => absurd h own⟩
    rw [if_pos own] at fits
    subst own
    refine ⟨fun _ quiet accept last => ?ends, fun _ repair accept last => ?delivered, fun _ accept more => ?next,
      fun _ discard => ?again, fun _ backOff => ?waits⟩
    case ends =>
      subst accept
      exact replyUnit_matched fits (by simp [quiet]) (Liu.replied_last last)
    case delivered =>
      subst accept
      exact replyUnit_delivered fits repair last (Liu.replied_last last)
    case next =>
      subst accept
      exact replyUnit_matched fits (by simp [more]) (Liu.replied_next more)
    case again =>
      subst discard
      exact replyUnit_matched fits (by simp) (Liu.transmit_sends sending)
    case waits =>
      subst backOff
      exact replyUnit_matched fits (by simp) rfl
  case timer =>
    intro t l s o e sending running
    refine ⟨fun reached => resendTimerExpiry_sends ?_ sending, fun early => resendTimerExpiry_early ?_⟩
    · simpa [expired, running] using reached
    · simpa [expired, running] using early

/-! ## The choice (R203) -/

section

variable {u : Liu} {now : Nat}

/-- Outside a break, and with nothing being sent, an LIU in RUN chooses. -/
theorem Liu.settle_run (idle : u.outbound = none) (line : u.inBreak = false) : u.settle .run now = u.choose now := by
  unfold Liu.settle
  rw [if_neg (by simp [idle, line])]

theorem Liu.choose_response {r : Response} {rest : List Response} (ready : u.ready = r :: rest)
    (turn : u.nextNotice = none ∨ u.lastNotice = true) : u.choose now = (u.beginResponse r rest).transmit now := by
  unfold Liu.choose
  rw [ready]
  cases notice : u.nextNotice with
  | none => rfl
  | some n => exact if_pos (turn.resolve_left (by simp [notice]))

theorem Liu.choose_notice {n : Notice} (notice : u.nextNotice = some n) (turn : u.ready = [] ∨ u.lastNotice = false) :
    u.choose now = (u.beginNotice n).transmit now := by
  unfold Liu.choose
  rw [notice]
  cases ready : u.ready with
  | nil => rfl
  | cons r rest => exact if_neg (by simp [turn.resolve_left (by simp [ready])])

theorem Liu.choose_nothing (ready : u.ready = []) (notice : u.nextNotice = none) : u.choose now = u := by
  unfold Liu.choose
  rw [ready, notice]

end

/-- Settles O9: by what waits and whose turn it is. -/
theorem sendingAlternates : Obligations.SendingAlternates := by
  unfold Obligations.SendingAlternates
  intro u now r rest n idle line
  rw [Liu.settle_run idle line]
  refine ⟨fun ready turn => ?_, fun notice turn => ?_, Liu.choose_nothing⟩
  · rw [Liu.choose_response ready turn]
    exact ⟨rfl, rfl, rfl, rfl⟩
  · rw [Liu.choose_notice notice turn]
    exact ⟨rfl, rfl, rfl, rfl, rfl⟩

end Sys2Proof.Machine

/-! PROOF. Requests that go no further than their form or their rights (R199, R200). -/

namespace Sys2Proof.Machine

section

variable {α : Type} {kind : Nat} {form : Reader α} {right given : Link → α → Bool}
  {act : Link → α → State → State × Reply} {cmd : Nat → Link → Instr}

/-- A command that takes a request refuses one wrong in form. -/
theorem malformedIsRefused (takes : ∀ t l s, exec (cmd t l) s = .next (request kind form right act t l s)) :
    MalformedIsRefused kind form cmd :=
  fun t l s _ due bad => (takes t l s).trans (congrArg Host.Outcome.next (request_malformed due bad))

/-- A command that takes a request under a right gives it to those links that have the right. -/
theorem onlyGivenTo (takes : ∀ t l s, exec (cmd t l) s = .next (request kind form right act t l s))
    (rights : ∀ l a, right l a = given l a) : OnlyGivenTo kind form cmd given :=
  fun t l s _ a taken no =>
    (takes t l s).trans (congrArg Host.Outcome.next (request_refusedRights taken ((rights l a).trans no)))

end

/-- Every answer the owning block gives being MALFORMED, that is the answer in every case (R199). -/
theorem unknownRequestKind_malformed {t : Nat} {l : Link} {s : State} {m : InMsg} (due : takeable 0 l s = some m) :
    exec (.unknownRequestKind t l) s = .next (answered l 0 m .malformed [] (handed t l s)) := by
  refine congrArg Host.Outcome.next ?_
  by_cases bad : m.malformed = true ∨ readWhole noFields (m.bytes.drop 3) = none
  · exact request_malformed due bad
  · obtain ⟨sound, readable⟩ := not_or.mp bad
    obtain ⟨a, reads⟩ := Option.ne_none_iff_exists'.mp readable
    exact request_answered ⟨due, Bool.eq_false_iff.mpr sound, reads⟩ rfl rfl

/-- Settles O11: each command takes its request by `request`, which judges the form first. -/
theorem malformedRequestsAreRefused : Obligations.MalformedRequestsAreRefused := by
  unfold Obligations.MalformedRequestsAreRefused
  refine ⟨?requests, fun t l s m due => unknownRequestKind_malformed due⟩
  case requests => and_intros <;> exact malformedIsRefused fun _ _ _ => rfl

/-! ## The table of rights (R200) -/

theorem notDeck_eq (l : Link) : decide (l ≠ .deck) = (l == .planning || l == .ballast) := by
  cases l <;> rfl

theorem notPlanning_eq (l : Link) : decide (l ≠ .planning) = (l == .deck || l == .ballast) := by
  cases l <;> rfl

/-- Settles O12: each command takes its request under the right that the table gives it. -/
theorem rightsAreHeld : Obligations.RightsAreHeld := by
  unfold Obligations.RightsAreHeld
  refine ⟨?changeSet, ?attach, ?detach, ?forceLand, ?stepAppend, ?stepWithdraw, ?stepDone, ?seqSet, ?channelSet,
    ?channelEnable, ?channelDisable, ?holdAck, ?timedHold, ?store⟩
  case stepAppend => exact onlyGivenTo (fun _ _ _ => rfl) fun l w => by cases l <;> cases w <;> rfl
  case stepWithdraw => exact onlyGivenTo (fun _ _ _ => rfl) fun l _ => notDeck_eq l
  case timedHold => exact onlyGivenTo (fun _ _ _ => rfl) fun l _ => notPlanning_eq l
  case store => and_intros <;> exact onlyGivenTo (fun _ _ _ => rfl) fun _ _ => rfl
  all_goals exact onlyGivenTo (fun _ _ _ => rfl) fun _ _ => rfl

end Sys2Proof.Machine

/-! PROOF. What answering does to a link's entries and counters, and a notice to its slots (R201, R202, R204, R206). -/

namespace Sys2Proof.Machine

/-! ## Counting a response (R206) -/

theorem Code.accepted_iff (c : Code) : c.accepted = true ↔ c = .done ∨ c = .staged ∨ c = .stillActive := by
  cases c <;> decide

section

variable {m : Summary} {c : Code}

theorem Summary.countResponse_accepted (small : m.accepted ≤ 255) (good : c = .done ∨ c = .staged ∨ c = .stillActive) :
    m.countResponse c = { m with accepted := min 255 (m.accepted + 1) } := by
  unfold Summary.countResponse
  rw [if_pos (c.accepted_iff.mpr good), bump_eq_min small]

theorem Summary.countResponse_refused (small : m.refused ≤ 255)
    (bad : ¬ (c = .done ∨ c = .staged ∨ c = .stillActive)) :
    m.countResponse c = { m with refused := min 255 (m.refused + 1) } := by
  unfold Summary.countResponse
  rw [if_neg (mt c.accepted_iff.mp bad), bump_eq_min small]

end

/-! ## Writing a notice (R204) -/

section

variable {u : Liu} {n : Notice}

theorem Liu.write_empty (empty : u.slots.get n.kind = none) :
    u.write n = { u with slots := u.slots.set n.kind (some n) } := by
  unfold Liu.write
  rw [empty]
  rfl

theorem Liu.write_over {old : Notice} (unsent : u.slots.get n.kind = some old) (small : u.summary.replaced ≤ 255) :
    u.write n = { u with slots := u.slots.set n.kind (some n)
                         summary := { u.summary with replaced := min 255 (u.summary.replaced + 1) } } := by
  unfold Liu.write
  rw [unsent, bump_eq_min small]
  rfl

end

section

variable {forced : Link → Bool} {n : Notice} {s : State} {l : Link}

theorem raiseNotice_elsewhere (free : forced l = false)
    (unselected : (s.lius.get l).selection.getLsbD (n.kind.num - 1) = false) :
    (raiseNotice forced n s).lius.get l = s.lius.get l := by
  rw [raiseNotice_get, if_neg]
  simp [free, Liu.selects, unselected]

theorem raiseNotice_here
    (reached : forced l = true ∨ (s.lius.get l).selection.getLsbD (n.kind.num - 1) = true) :
    (raiseNotice forced n s).lius.get l = (s.lius.get l).write n := by
  rw [raiseNotice_get, if_pos]
  simpa [Liu.selects] using reached

end

/-! ## Answers owed (R202) -/

section

variable {owed before after : List Owed} {o : Owed} {enter : Bool}

/-- The one entry RESERVED for an answer is the one found. -/
theorem find_owed (split : owed = before ++ o :: after) (others : ∀ x ∈ before ++ after, x.enter ≠ enter)
    (own : o.enter = enter) : owed.find? (fun x => x.enter == enter) = some o := by
  refine List.find?_eq_some_iff_append.mpr ⟨by simp [own], before, after, split, fun x mem => ?_⟩
  simpa using others x (List.mem_append_left _ mem)

/-- The one entry RESERVED for an answer is the one that goes. -/
theorem filter_owed (split : owed = before ++ o :: after) (others : ∀ x ∈ before ++ after, x.enter ≠ enter)
    (own : o.enter = enter) : owed.filter (fun x => x.enter != enter) = before ++ after := by
  have stays : (before ++ after).filter (fun x => x.enter != enter) = before ++ after :=
    List.filter_eq_self.mpr fun x mem => by simpa using others x mem
  rw [split, List.filter_append, List.filter_cons_of_neg (by simp [own]), ← List.filter_append, stays]

theorem answerOwed_found {s : State} (code : Code) (body : List Byte) (restart : Bool)
    (split : (s.lius.get .planning).owed = before ++ o :: after)
    (others : ∀ x ∈ before ++ after, x.enter ≠ enter) (own : o.enter = enter) :
    answerOwed enter code body restart s = modifyLiu .planning (fun u =>
      { u with owed := before ++ after }.pushReady o.kind o.tag code body restart) s := by
  unfold answerOwed
  refine modifyLiu_congr ?_
  rw [find_owed split others own, filter_owed split others own]

end

/-- Settles O14: a response, a notice and an owed answer each move one link, as its own equation says. -/
theorem answersAndNoticesAreQueued : Obligations.AnswersAndNoticesAreQueued := by
  unfold Obligations.AnswersAndNoticesAreQueued
  refine ⟨fun l kind tag code body s => ?answer, fun forced n s l => ?notice, fun _ _ _ _ _ => rfl,
    fun enter restart code body s => ?owed⟩
  case answer =>
    have moved : (respond l kind tag (.answer code body) s).lius.get l =
        (s.lius.get l).pushReady kind tag code body false := modifyLiu_get _ _ _
    dsimp only
    rw [moved]
    exact ⟨rfl, Summary.countResponse_accepted, Summary.countResponse_refused, rfl, rfl⟩
  case notice =>
    refine ⟨raiseNotice_elsewhere, fun reached => ?_, raiseNotice_only _ _ _⟩
    dsimp only
    rw [raiseNotice_here reached]
    exact ⟨Liu.write_empty, fun old => Liu.write_over⟩
  case owed =>
    refine ⟨answerOwed_discarded code body restart, fun before o after split others own => ?_⟩
    dsimp only
    rw [answerOwed_found code body restart split others own, modifyLiu_get]
    exact ⟨rfl, rfl, Summary.countResponse_accepted, Summary.countResponse_refused, rfl, rfl⟩

/-! ## The requests a link answers itself (R205, R206) -/

theorem be_one (n : Nat) : be 1 n = [BitVec.ofNat 8 n] := by
  simp [be]

section

variable {t : Nat} {l : Link} {m : InMsg} {s : State}

theorem noticeSelect_done {sel : BitVec 7} (taken : Taken 40 readSelection l m sel s) :
    exec (.noticeSelect t l) s = .next (answered l 40 m .done [BitVec.ofNat 8 sel.toNat]
      (modifyLiu l (fun u => { u with selection := sel }) (handed t l s))) := by
  rw [← be_one]
  exact congrArg Host.Outcome.next (request_answered taken rfl rfl)

theorem linkSet_done {on : Bool} (taken : Taken 41 readFlag l m on s) :
    exec (.linkSet t l) s = .next (answered l 41 m .done [if on then 1 else 0]
      (modifyLiu l (fun u => { u with clearOnRead := on }) (handed t l s))) :=
  congrArg Host.Outcome.next (request_answered taken rfl rfl)

/-- With clear-on-read OFF the read is counted like any other response (R206). -/
theorem readSummary_keeps (taken : Taken 42 noFields l m () s)
    (off : ((handed t l s).lius.get l).clearOnRead = false) :
    exec (.readSummary t l) s = .next (answered l 42 m .done (summaryAnswer ((handed t l s).lius.get l)) (handed t l s)) := by
  refine congrArg Host.Outcome.next (request_answered taken rfl ?_)
  unfold readSummaryAct
  dsimp only
  rw [off]
  rfl

@[simp] theorem PerLink.set_set {α : Type} (p : PerLink α) (l : Link) (v w : α) : (p.set l v).set l w = p.set l w := by
  cases l <;> rfl

/-- An answer after which the counters are cleared is the answer, and then the clearing. -/
theorem respond_answerThenClear (kind tag : Nat) (body : List Byte) : respond l kind tag (.answerThenClear body) s =
    modifyLiu l (fun u => { u with summary := Summary.zero }) (respond l kind tag (.answer .done body) s) := by
  simp [respond, modifyLiu]

/-- With clear-on-read ON the counters are 0 after the read (R206). -/
theorem readSummary_clears (taken : Taken 42 noFields l m () s)
    (on : ((handed t l s).lius.get l).clearOnRead = true) :
    exec (.readSummary t l) s = .next (settle (modifyLiu l (fun u => { u with summary := Summary.zero })
      (respond l 42 m.requestTag (.answer .done (summaryAnswer ((handed t l s).lius.get l))) (handed t l s)))) := by
  have clears : readSummaryAct l () (handed t l s) =
      (handed t l s, .answerThenClear (summaryAnswer ((handed t l s).lius.get l))) := by
    unfold readSummaryAct
    dsimp only
    rw [on]
    rfl
  refine congrArg Host.Outcome.next ((request_handed taken rfl).trans ?_)
  rw [clears, respond_answerThenClear]

theorem settle_summary (s : State) (l : Link) : ((settle s).lius.get l).summary = (s.lius.get l).summary := by
  rw [settle_get, Liu.settle_only]

end

/-- Settles O18: each request is answered by its own link's block, which writes that link alone. -/
theorem linkRequestsActOnTheirLink : Obligations.LinkRequestsActOnTheirLink := by
  unfold Obligations.LinkRequestsActOnTheirLink
  refine ⟨fun t l s m => ⟨fun sel => noticeSelect_done, fun on => linkSet_done⟩, fun t l s m taken => ?_⟩
  intro u body small
  have counted : body = summaryAnswer u := by
    unfold body summaryAnswer
    rw [bump_eq_min small]
  rw [counted]
  refine ⟨readSummary_keeps taken, fun on => ⟨_, readSummary_clears taken on, ?_, rfl⟩⟩
  rw [settle_summary, modifyLiu_get]

end Sys2Proof.Machine

/-! PROOF. What the reset of one link does to it, to its timers and to the others (R208, R209). -/

namespace Sys2Proof.Machine

/-! ## A link's timers stop (R130) -/

/-- The lines on which a link has a timer running. -/
def State.timedBy (s : State) (l : Link) : List Line := allLines.filter (fun h => ((s.holds.get h).timer l).isSome)

/-- A link's timers stopped, before a line is recomputed. -/
def State.untimed (s : State) (l : Link) : State :=
  { s with holds := ⟨s.holds.a.setTimer l none, s.holds.b.setTimer l none, s.holds.c.setTimer l none,
                     s.holds.d.setTimer l none⟩ }

section

variable {l : Link} {s : State}

theorem dropTimers_eq (l : Link) (s : State) : dropTimers l s = recomputeLines (s.timedBy l) (s.untimed l) := rfl

/-- The planning link has no timer. -/
theorem dropTimers_planning (s : State) : dropTimers .planning s = s := rfl

theorem untimed_get (l : Link) (s : State) (h : Line) :
    (s.untimed l).holds.get h = (s.holds.get h).setTimer l none := by
  cases h <;> rfl

theorem HoldLine.timer_setTimer (r : HoldLine) (l : Link) : (r.setTimer l none).timer l = none := by
  cases l <;> rfl

theorem HoldLine.timer_setTimer_other {l' : Link} (r : HoldLine) (other : l' ≠ l) :
    (r.setTimer l none).timer l' = r.timer l' := by
  cases l <;> cases l' <;> first | rfl | exact absurd rfl other

theorem HoldLine.setTimer_stopped {r : HoldLine} (stopped : r.timer l = none) : r.setTimer l none = r := by
  cases l with
  | planning => rfl
  | deck => exact congrArg (fun x => { r with deckTimer := x }) stopped.symm
  | ballast => exact congrArg (fun x => { r with ballastTimer := x }) stopped.symm

/-- Recomputing lines moves no link's timer. -/
theorem recomputeLines_timer (hs : List Line) (s : State) (h : Line) (l : Link) :
    ((recomputeLines hs s).holds.get h).timer l = (s.holds.get h).timer l := by
  obtain ⟨deck, ballast⟩ := recomputeLines_timers hs s h
  cases l with
  | planning => rfl
  | deck => exact deck
  | ballast => exact ballast

theorem dropTimers_timer (l : Link) (s : State) (h : Line) : ((dropTimers l s).holds.get h).timer l = none := by
  rw [dropTimers_eq, recomputeLines_timer, untimed_get, HoldLine.timer_setTimer]

theorem dropTimers_timer_other {l' : Link} (s : State) (other : l' ≠ l) (h : Line) :
    ((dropTimers l s).holds.get h).timer l' = (s.holds.get h).timer l' := by
  rw [dropTimers_eq, recomputeLines_timer, untimed_get, HoldLine.timer_setTimer_other _ other]

/-- With no timer running nothing is stopped and no line recomputed. -/
theorem dropTimers_idle (stopped : ∀ h, (s.holds.get h).timer l = none) : dropTimers l s = s := by
  have none : s.timedBy l = [] := by simp [State.timedBy, stopped]
  have same : s.untimed l = s := by
    have holds : (s.untimed l).holds = s.holds :=
      PerLine.ext_get fun h => (untimed_get l s h).trans (HoldLine.setTimer_stopped (stopped h))
    exact congrArg (fun x => { s with holds := x }) holds
  rw [dropTimers_eq, none, same]
  rfl

theorem dropTimers_only (l : Link) (s : State) :
    dropTimers l s = { s with holds := (dropTimers l s).holds, lius := (dropTimers l s).lius } := by
  rw [dropTimers_eq, recomputeLines_only]
  rfl

end

/-! ## The HOLD notices a stop raises (log 30) -/

/-- A link after its reset in a break, with what HOLD notices since have left in their slot and in the counters. -/
def Liu.resetHeld (l : Link) (hold : Option Notice) (replaced : Nat) : Liu :=
  { Liu.reset l true with slots := { NoticeSlots.reset with hold := hold }
                          summary := { Summary.zero with replaced := replaced } }

/-- At most `n` HOLD notices have come since the link's reset: the first found the slot empty, and each later one was
counted. -/
def Liu.HeldAfter (l : Link) (n : Nat) (u : Liu) : Prop :=
  ∃ hold replaced, u = Liu.resetHeld l hold replaced ∧ (hold = none → replaced = 0) ∧ replaced + hold.toList.length ≤ n

section

variable {l : Link} {n : Nat} {u : Liu} {s : State}

theorem Liu.heldAfter_reset (l : Link) : (Liu.reset l true).HeldAfter l 0 := ⟨none, 0, rfl, fun _ => rfl, le_rfl⟩

theorem Liu.HeldAfter.weaken (h : u.HeldAfter l n) : u.HeldAfter l (n + 1) := by
  obtain ⟨hold, replaced, same, first, few⟩ := h
  exact ⟨hold, replaced, same, first, Nat.le_succ_of_le few⟩

theorem bump_le_succ (n : Nat) : bump n ≤ n + 1 := by
  unfold bump satSucc
  split <;> omega

theorem Liu.HeldAfter.write (h : u.HeldAfter l n) {x : Notice} (kind : x.kind = .hold) :
    (u.write x).HeldAfter l (n + 1) := by
  obtain ⟨hold, replaced, rfl, first, few⟩ := h
  cases hold with
  | none =>
    refine ⟨some x, replaced, ?_, nofun, Nat.succ_le_succ few⟩
    rw [Liu.write_empty (by rw [kind]; rfl), kind]
    rfl
  | some old =>
    refine ⟨some x, bump replaced, ?_, nofun, ?_⟩
    · unfold Liu.write
      rw [kind]
      rfl
    · have more := bump_le_succ replaced
      simp only [Option.toList_some, List.length_singleton] at few ⊢
      omega

theorem recompute_heldAfter (h : Line) (held : (s.lius.get l).HeldAfter l n) :
    ((recompute h s).lius.get l).HeldAfter l (n + 1) := by
  unfold recompute
  split
  · exact held.weaken
  · rw [raiseNotice_get]
    split
    · exact Liu.HeldAfter.write held rfl
    · exact held.weaken

theorem recomputeLines_heldAfter (hs : List Line) (held : (s.lius.get l).HeldAfter l n) :
    ((recomputeLines hs s).lius.get l).HeldAfter l (n + hs.length) := by
  unfold recomputeLines
  induction hs generalizing s n with
  | nil => exact held
  | cons h hs ih =>
    rw [List.length_cons, Nat.add_comm hs.length, ← Nat.add_assoc]
    exact ih (recompute_heldAfter h held)

end

/-- A link just reset has at most the four notices of its own timers' lines. -/
theorem dropTimers_held {l : Link} {s : State} (fresh : s.lius.get l = Liu.reset l true) : ∃ hold replaced,
    (dropTimers l s).lius.get l = Liu.resetHeld l hold replaced ∧ (hold = none → replaced = 0) ∧ replaced ≤ 3 := by
  have four : (s.timedBy l).length ≤ 4 := List.length_filter_le _ allLines
  have start : ((s.untimed l).lius.get l).HeldAfter l 0 := by
    change (s.lius.get l).HeldAfter l 0
    rw [fresh]
    exact Liu.heldAfter_reset l
  obtain ⟨hold, replaced, same, first, few⟩ := recomputeLines_heldAfter (s.timedBy l) start
  refine ⟨hold, replaced, same, first, ?_⟩
  cases hold with
  | none => rw [first rfl]; exact Nat.zero_le 3
  | some x =>
    simp only [Option.toList_some, List.length_singleton] at few
    omega

/-! ## What stands at a link that is not reset -/

/-- The queue, the settings and the marks of a link stand. -/
def Liu.Stands (u u' : Liu) : Prop :=
  u'.inbound = u.inbound ∧ u'.assembly = u.assembly ∧ u'.lastIn = u.lastIn ∧ u'.owed = u.owed ∧ u'.nextOut = u.nextOut
    ∧ u'.selection = u.selection ∧ u'.clearOnRead = u.clearOnRead ∧ u'.mark = u.mark ∧ u'.inBreak = u.inBreak

theorem Liu.stands_noticed (u : Liu) (slots : NoticeSlots) (m : Summary) :
    u.Stands { u with slots := slots, summary := m } := ⟨rfl, rfl, rfl, rfl, rfl, rfl, rfl, rfl, rfl⟩

theorem Liu.Stands.settle {u u' : Liu} (h : u.Stands u') (device : DeviceState) (now : Nat) :
    u.Stands (u'.settle device now) := by
  rw [Liu.settle_only]
  exact h

/-- In a break a link chooses nothing (R208). -/
theorem Liu.settle_inBreak {u : Liu} (device : DeviceState) (now : Nat) (broken : u.inBreak = true) :
    u.settle device now = u := by
  unfold Liu.settle
  rw [if_pos (by simp [broken])]

/-! ## The reset (R208) -/

/-- A link reset and its sets gone, before its timers stop (R41, R208). -/
def State.linkCleared (s : State) (t : Nat) (l : Link) : State :=
  dropSets l (modifyLiu l (fun _ => Liu.reset l true) (atTime t s))

/-- The planning link reset, a held ENTER-CONFIG dropped and the restart due where the reset discards the answer of a
repair (R146, R181, R208). -/
def State.planningCleared (s : State) (t : Nat) : State :=
  { s.linkCleared t .planning with
    sched := { s.sched with heldEnter := false }
    store := { s.store with
      restart := s.store.restart.map (fun w => { w with due := w.due || (s.lius.get .planning).holdsRestart }) } }

section

variable {t : Nat} {l l' : Link} {s : State}

theorem linkCleared_own : (s.linkCleared t l).lius.get l = Liu.reset l true := PerLink.get_set _ _ _

theorem linkCleared_other (other : l' ≠ l) : (s.linkCleared t l).lius.get l' = s.lius.get l' :=
  PerLink.get_set_other _ _ other

theorem linkCleared_sets : (s.linkCleared t l).sets.get l = LinkSets.reset := PerLink.get_set _ _ _

theorem linkCleared_sets_other (other : l' ≠ l) : (s.linkCleared t l).sets.get l' = s.sets.get l' :=
  PerLink.get_set_other _ _ other

/-- A break on the deck or ballast link (R208). -/
theorem linkReset_timed (line : (s.lius.get l).inBreak = false) (timed : l ≠ .planning) :
    exec (.linkReset t l) s = .next (settle (dropTimers l (s.linkCleared t l))) := by
  change execLinkReset t l s = _
  unfold execLinkReset resetLink
  rw [if_neg (by simp [line])]
  dsimp only
  rw [if_neg timed]
  rfl

/-- A break on the planning link (R208). -/
theorem linkReset_planning (line : (s.lius.get .planning).inBreak = false) :
    exec (.linkReset t .planning) s = .next (settle (releaseRecalled (s.planningCleared t))) := by
  change execLinkReset t .planning s = _
  unfold execLinkReset resetLink
  rw [if_neg (by simp [line])]
  dsimp only
  rw [if_pos rfl, dropTimers_planning]
  rfl

theorem linkReset_inBreak (broken : (s.lius.get l).inBreak = true) : exec (.linkReset t l) s = .next s :=
  congrArg Host.Outcome.next (if_pos broken)

theorem linkBreakEnd_inBreak (broken : (s.lius.get l).inBreak = true) : exec (.linkBreakEnd t l) s =
    .next (settle (modifyLiu l (fun u => { u with inBreak := false }) (atTime t s))) :=
  congrArg Host.Outcome.next (if_pos broken)

/-! ## The deck and the ballast link -/

theorem dropTimers_stands (l l' : Link) (s : State) : (s.lius.get l').Stands ((dropTimers l s).lius.get l') := by
  obtain ⟨_, _, same⟩ := recomputeLines_link (s.timedBy l) (s.untimed l) l'
  rw [dropTimers_eq, same]
  exact Liu.stands_noticed _ _ _

theorem linkReset_timed_own : (settle (dropTimers l (s.linkCleared t l))).lius.get l =
    (dropTimers l (s.linkCleared t l)).lius.get l := by
  obtain ⟨_, _, same, _⟩ := dropTimers_held (s := s.linkCleared t l) linkCleared_own
  rw [settle_get, same]
  exact Liu.settle_inBreak _ _ rfl

theorem linkReset_timed_others (other : l' ≠ l) :
    (settle (dropTimers l (s.linkCleared t l))).sets.get l' = s.sets.get l'
      ∧ (s.lius.get l').Stands ((settle (dropTimers l (s.linkCleared t l))).lius.get l') := by
  constructor
  · rw [settle_sets, dropTimers_only]
    exact linkCleared_sets_other other
  · rw [settle_get]
    refine Liu.Stands.settle ?_ _ _
    rw [← linkCleared_other (t := t) other]
    exact dropTimers_stands l l' _

/-! ## The planning link -/

theorem releaseRecalled_recalled (recalled : s.owner = .recalled) : releaseRecalled s = cancelAdopt (emptyTrial s) :=
  if_pos recalled

theorem releaseRecalled_other (other : s.owner ≠ .recalled) : releaseRecalled s = s := if_neg other

theorem cancelAdopt_idle (idle : s.store.waitingAdopt = false) : cancelAdopt s = s :=
  if_neg (by simp [idle])

theorem releaseRecalled_stands (l : Link) (s : State) : (s.lius.get l).Stands ((releaseRecalled s).lius.get l) := by
  have same : (s.lius.get l).Stands (s.lius.get l) := Liu.stands_noticed _ _ _
  by_cases recalled : s.owner = .recalled
  · rw [releaseRecalled_recalled recalled]
    cases waits : s.store.waitingAdopt with
    | false =>
      rw [cancelAdopt_idle (s := emptyTrial s) waits]
      exact same
    | true =>
      rw [cancelAdopt_waiting (s := emptyTrial s) waits, raiseNotice_get]
      split
      · exact Liu.stands_noticed _ _ _
      · exact same
  · rw [releaseRecalled_other recalled]
    exact same

/-- With a waiting ADOPT cancelled, its notice stands in the reset link's own slot; with none, the link is the reset one
(R187, R208). -/
theorem planningCleared_released (recalled : s.owner = .recalled) (waits : s.store.waitingAdopt = true) :
    (releaseRecalled (s.planningCleared t)).lius.get .planning = { Liu.reset .planning true with
      slots := { NoticeSlots.reset with archive := some (.archive
        { job := .adopt, target := none, code := .refusedState, check := none
          writeError := s.store.writeError, owner := .empty, version := s.version }) } } := by
  rw [releaseRecalled_recalled (s := s.planningCleared t) recalled,
    cancelAdopt_waiting (s := emptyTrial (s.planningCleared t)) waits, raiseNotice_here (.inl rfl),
    Liu.write_empty rfl]
  rfl

theorem planningCleared_unreleased (idle : ¬ (s.owner = .recalled ∧ s.store.waitingAdopt = true)) :
    (releaseRecalled (s.planningCleared t)).lius.get .planning = Liu.reset .planning true := by
  by_cases recalled : s.owner = .recalled
  · have unwaited : s.store.waitingAdopt = false := Bool.eq_false_iff.mpr fun waits => idle ⟨recalled, waits⟩
    rw [releaseRecalled_recalled (s := s.planningCleared t) recalled,
      cancelAdopt_idle (s := emptyTrial (s.planningCleared t)) unwaited]
    rfl
  · rw [releaseRecalled_other (s := s.planningCleared t) recalled]
    rfl

theorem releaseRecalled_store (s : State) : (releaseRecalled s).store =
    { s.store with waitingAdopt := s.store.waitingAdopt && s.owner != .recalled } := by
  by_cases recalled : s.owner = .recalled
  · rw [releaseRecalled_recalled recalled, cancelAdopt_store, recalled]
    simp [emptyTrial]
  · rw [releaseRecalled_other recalled, bne_iff_ne.mpr recalled, Bool.and_true]

theorem releaseRecalled_trial (recalled : s.owner = .recalled) :
    (releaseRecalled s).owner = .empty ∧ (releaseRecalled s).trial = Area.empty := by
  rw [releaseRecalled_recalled recalled]
  exact ⟨cancelAdopt_owner _, cancelAdopt_trial _⟩

theorem linkReset_planning_others (other : l' ≠ .planning) :
    (settle (releaseRecalled (s.planningCleared t))).sets.get l' = s.sets.get l'
      ∧ (s.lius.get l').Stands ((settle (releaseRecalled (s.planningCleared t))).lius.get l') := by
  constructor
  · rw [settle_sets, releaseRecalled_only]
    exact linkCleared_sets_other other
  · rw [settle_get]
    refine Liu.Stands.settle ?_ _ _
    rw [← linkCleared_other (t := t) other]
    exact releaseRecalled_stands l' (s.planningCleared t)

end

/-- Settles O10: the deck and ballast links by their timers, the planning link by what TRIAL holds and what waits. -/
theorem linkResetsAndTheirEnd : Obligations.LinkResetsAndTheirEnd := by
  unfold Obligations.LinkResetsAndTheirEnd
  intro others
  refine ⟨fun t l s line timed => ⟨_, linkReset_timed line timed, ?held, fun stopped => ?idle, ?sets, ?ready,
      fun h => dropTimers_timer l _ h, fun l' other h => dropTimers_timer_other _ other h,
      fun l' other => linkReset_timed_others other, ?live, ?ring, ?store, ?sched, ?owner⟩,
    fun t s line => ?planning, fun t l s broken => ⟨linkReset_inBreak broken, linkBreakEnd_inBreak broken⟩⟩
  case held =>
    rw [linkReset_timed_own]
    exact dropTimers_held linkCleared_own
  case idle =>
    rw [linkReset_timed_own, settle_holds, dropTimers_idle (s := s.linkCleared t l) stopped]
    exact ⟨linkCleared_own, rfl⟩
  case sets =>
    rw [settle_sets, dropTimers_only]
    exact linkCleared_sets
  case planning =>
    intro u released
    refine ⟨_, linkReset_planning line, ?given, ?kept, ?unheld, ?due, fun recalled => ?emptied, fun other => ?stands,
      ?unset, ?unready, fun l' other => linkReset_planning_others other, ?cargo, ?version, ?lines, ?plan, ?bank⟩
    case given =>
      intro ⟨recalled, waits⟩
      rw [settle_get, planningCleared_released recalled waits]
      exact Liu.settle_inBreak _ _ rfl
    case kept =>
      intro idle
      rw [settle_get, planningCleared_unreleased idle]
      exact Liu.settle_inBreak _ _ rfl
    case due =>
      rw [settle_store, releaseRecalled_store]
      simp only [State.planningCleared, Liu.holdsRestart, Bool.or_assoc]
      rfl
    case emptied => exact releaseRecalled_trial (s := s.planningCleared t) recalled
    case stands =>
      rw [settle_owner, settle_trial, releaseRecalled_other (s := s.planningCleared t) other]
      exact ⟨rfl, rfl⟩
    case unset =>
      rw [settle_sets, releaseRecalled_only]
      exact linkCleared_sets (t := t) (l := .planning) (s := s)
    all_goals
      rw [releaseRecalled_only]
      rfl
  all_goals
    rw [dropTimers_only]
    rfl

end Sys2Proof.Machine

/-! PROOF. What is written on the wire reads back as it was: numbers, segments, replies and checks (R196, R210, R211). -/

namespace Sys2Proof.Machine

/-! ## Numbers (R210) -/

theorem be_length (n v : Nat) : (be n v).length = n := by
  induction n with
  | zero => rfl
  | succ n ih => simp [be, ih]

/-- Reading a field and then computing with its value uses up the bytes of the field alone. -/
theorem readThen {α β : Type} (r : Reader α) (f : α → β) (body : List Byte) :
    (do let v ← r; pure (f v) : Reader β) body = (r body).map fun q => (f q.1, q.2) := by
  show (r body).bind _ = _
  cases r body <;> rfl

/-- A number reads back from in front of whatever follows it, modulo 256^n where it does not fit its bytes (log 35). -/
theorem readNat_be (n v : Nat) (rest : List Byte) : readNat n (be n v ++ rest) = some (v % 256 ^ n, rest) := by
  induction n with
  | zero => simp [readNat, be, Nat.mod_one]; rfl
  | succ n ih =>
    have split : v % 256 ^ (n + 1) = v / 256 ^ n % 256 * 256 ^ n + v % 256 ^ n := by
      rw [pow_succ, Nat.mod_mul, Nat.mul_comm (256 ^ n), Nat.add_comm]
    have first : readNat (n + 1) (be (n + 1) v ++ rest) = (readNat n (be n v ++ rest)).map
        fun q => ((BitVec.ofNat 8 (v / 256 ^ n)).toNat * 256 ^ n + q.1, q.2) :=
      readThen (readNat n) _ _
    rw [first, ih, split, BitVec.toNat_ofNat]
    rfl

theorem readWhole_be {n v : Nat} (fits : v < 256 ^ n) : readWhole (readNat n) (be n v) = some v := by
  have read := readNat_be n v []
  rw [List.append_nil, Nat.mod_eq_of_lt fits] at read
  rw [readWhole, read]

/-- A signed number is read as the two's complement reading of an unsigned one. -/
theorem readWhole_readInt {n v : Nat} {body : List Byte} (read : readNat n body = some (v, [])) :
    readWhole (readInt n) body = some (if v < 2 ^ (8 * n - 1) then (v : Int) else (v : Int) - 2 ^ (8 * n)) := by
  rw [readWhole, readInt, readThen, read]
  rfl

theorem readWhole_beS {n : Nat} {v : Int} (bytes : 0 < n) (low : -(2 ^ (8 * n - 1)) ≤ v) (high : v < 2 ^ (8 * n - 1)) :
    readWhole (readInt n) (beS n v) = some v := by
  set w := BitVec.ofInt (8 * n) v
  have read := readNat_be n w.toNat []
  have fits : w.toNat < 256 ^ n := by rw [show (256 : Nat) = 2 ^ 8 from rfl, ← pow_mul]; exact w.isLt
  rw [List.append_nil, Nat.mod_eq_of_lt fits] at read
  have signed : w.toInt = v := BitVec.toInt_ofInt_eq_self (by omega) low high
  have half : 2 * 2 ^ (8 * n - 1) = 2 ^ (8 * n) := by rw [← pow_succ', Nat.sub_add_cancel (by omega)]
  rw [beS, readWhole_readInt read, ← signed, BitVec.toInt_eq_toNat_cond]
  by_cases below : w.toNat < 2 ^ (8 * n - 1)
  · rw [if_pos below, if_pos (by omega)]
  · rw [if_neg below, if_neg (by omega)]
    push_cast
    rfl

/-! ## Segments (R196, R198, R211) -/

section
variable {b0 len : Byte} {data msg : List Byte} {i : Nat}

/-- A unit of a kind and length that fit its data holds that data, with the bits of its first byte. -/
theorem segmentOf_withCheck (kind : b0.toNat < 4) (counted : len.toNat = data.length) (short : data.length ≤ 32) :
    segmentOf ⟨withCheck (b0 :: len :: data), false⟩ = some ⟨b0.getLsbD 1, b0.getLsbD 0, data⟩ := by
  simp [segmentOf, withCheck, be_length, counted, kind, Config.segmentData, short]

/-- The first byte of a segment gives back its final mark and its sequence bit, and its other bits are 0 (R211). -/
theorem segmentHead (final bit : Bool) :
    let b0 := BitVec.ofNat 8 ((if final then 2 else 0) + (if bit then 1 else 0))
    b0.toNat < 4 ∧ b0.getLsbD 1 = final ∧ b0.getLsbD 0 = bit := by
  cases final <;> cases bit <;> decide

theorem segmentDataOf_length : (segmentDataOf msg i).length = min 32 (msg.length - 32 * i) := by
  simp [segmentDataOf, Config.segmentData]

theorem segmentOf_segmentUnit (bit : Bool) : segmentOf ⟨segmentUnit msg i bit, false⟩ =
    some { final := segmentIsLast msg i, seq := bit, data := segmentDataOf msg i } := by
  obtain ⟨kind, final, seq⟩ := segmentHead (segmentIsLast msg i) bit
  have short : (segmentDataOf msg i).length ≤ 32 := by rw [segmentDataOf_length]; omega
  have counted : (BitVec.ofNat 8 (segmentDataOf msg i).length).toNat = (segmentDataOf msg i).length := by
    rw [BitVec.toNat_ofNat]; omega
  have read := segmentOf_withCheck kind counted short
  rw [final, seq] at read
  rw [segmentUnit, be_one, be_one]
  exact read

theorem segmentIsLast_iff : segmentIsLast msg i = true ↔ msg.length / 32 ≤ i := by
  rw [segmentIsLast, decide_eq_true_iff, segmentDataOf_length, Config.segmentData]
  omega

/-- The first `k` segments joined are the message's first 32 `k` bytes. -/
theorem segments_joined (msg : List Byte) (k : Nat) :
    ((List.range k).map (segmentDataOf msg)).flatten = msg.take (32 * k) := by
  induction k with
  | zero => simp
  | succ k ih =>
    rw [List.range_succ, List.map_append, List.flatten_append, ih, Nat.mul_succ, List.take_add]
    simp [segmentDataOf, Config.segmentData]

theorem segments_joined_all (msg : List Byte) :
    ((List.range (msg.length / 32 + 1)).map (segmentDataOf msg)).flatten = msg := by
  rw [segments_joined]
  exact List.take_of_length_le (by omega)

end

/-! ## Replies (R211) -/

/-- A unit of two bytes with its check is a reply exactly by its kind and its number. -/
theorem replyOf_withCheck {b0 r : Byte} (kind : b0 = 0x80 ∨ b0 = 0x81) : replyOf ⟨withCheck [b0, r], false⟩ =
    if r = 1 then some (b0.getLsbD 0, .accept)
    else if r = 2 then some (b0.getLsbD 0, .backOff)
    else if r = 3 then some (b0.getLsbD 0, .discard)
    else none := by
  rcases kind with rfl | rfl <;> simp [replyOf, withCheck, be]

/-- The first byte of a reply gives back the sequence bit answered (R211). -/
theorem replyHead (bit : Bool) :
    let b0 := BitVec.ofNat 8 (128 + if bit then 1 else 0)
    (b0 = 0x80 ∨ b0 = 0x81) ∧ b0.getLsbD 0 = bit := by
  cases bit <;> decide

theorem replyOf_replyUnitBytes (bit : Bool) (r : ReplyKind) : replyOf ⟨replyUnitBytes bit r, false⟩ = some (bit, r) := by
  obtain ⟨kind, answered⟩ := replyHead bit
  have read := replyOf_withCheck (r := BitVec.ofNat 8 r.num) kind
  rw [answered] at read
  rw [replyUnitBytes, be_one, be_one]
  refine read.trans ?_
  cases r <;> rfl

/-! ## The check's test values (11.9) -/

theorem crc16_digits : crc16 [0x31, 0x32, 0x33, 0x34, 0x35, 0x36, 0x37, 0x38, 0x39] = 0x29B1#16 := by decide +kernel

theorem crc8_digits : crc8 [0x31, 0x32, 0x33, 0x34, 0x35, 0x36, 0x37, 0x38, 0x39] = 0xF4#8 := by decide +kernel

/-- Settles O53: a number by its bytes, a signed one by its two's complement, a message by its segments. -/
theorem fieldsAndUnitsReadBack : Obligations.FieldsAndUnitsReadBack := by
  unfold Obligations.FieldsAndUnitsReadBack
  exact ⟨fun _ _ => readWhole_be, fun _ _ => readWhole_beS, fun _ _ => segmentOf_segmentUnit,
    fun _ _ => segmentIsLast_iff, segments_joined_all, replyOf_replyUnitBytes, crc16_digits, crc8_digits⟩

end Sys2Proof.Machine

/-! PROOF. What one step runs: the command at the front of the queue, and nothing of the queue besides it (log 1). -/

namespace Sys2Proof.Machine

/-- Settles O1: of the two cases of the queue, the one that is not empty. -/
theorem stepRunsTheFrontCommand : Obligations.StepRunsTheFrontCommand := by
  unfold Obligations.StepRunsTheFrontCommand
  intro c rest s front
  rw [step, front]

end Sys2Proof.Machine
